-- ==== Sys2Proof/Word.lean ====
section
/-! DEFINITION. The plainest value types of the HC-1640: bytes, the numbered items of the hall (section 0.6), and
the correspondence between an item's index here (counting from 0) and its number in the manual (counting from 1). -/

namespace Sys2Proof

/-- One byte on a port. -/
abbrev Byte := BitVec 8

/-- A transmitter; TXn of the manual is index n - 1. -/
abbrev TxId := Fin 16

/-- An antenna; ANa of the manual is index a - 1. -/
abbrev AntId := Fin 40

/-- An antenna-field zone; Zz of the manual is index z - 1. -/
abbrev ZoneId := Fin 8

/-- A trim group; Gg of the manual is index g - 1. -/
abbrev GroupId := Fin 4

/-- The item that number k (counting from 1) names among n items, or none outside 1..n. -/
def itemOf (n k : Nat) : Option (Fin n) :=
  if h : 0 < k ∧ k ≤ n then some ⟨k - 1, by omega⟩ else none

/-- The manual's number of an item (section 0.6: "a number counting from 1"). -/
def num {n : Nat} (i : Fin n) : Nat := i.val + 1

end Sys2Proof
end

