-- ==== Sys2Proof/Syntax.lean ====
section
/-! DEFINITION. The commands of the HC-1640: one constructor of `Instr` for each row of spec/opcode_table.json, with
the row's operands.  A request row carries the port it arrives on and its tag; a report row carries the hall line or the
bus address it comes from; an event row carries the channel, line, zone or port it concerns.  Request operands are raw
field values (plain numbers), since the controller itself judges their ranges. -/

namespace Sys2Proof

/-- The two serial ports (section 0.3). -/
inductive Port where
  | a | p
deriving DecidableEq, Repr

/-- The actuators of the switch bus (section 0.6). -/
inductive ActId where
  | row (n : TxId) | sel (a : AntId) | beam (a : AntId)
deriving DecidableEq, Repr

/-- The positions an actuator can stand at (section 0.6). -/
inductive Place where
  | load | matrix | ground | tx (n : TxId) | beam (i : Nat)
deriving DecidableEq, Repr

/-- The unit states a STATE report carries (section 5.2). -/
inductive UnitState where
  | dark | warming | standby | tuning | tuned | rfOn | tripped | fault
deriving DecidableEq, Repr

/-- The fields of a STATE report (section 5.2): unit state, key, tuned frequency, tap index, drive, RF-off-confirmed. -/
structure StateReport where
  unit : UnitState
  keyLocal : Bool
  freq : Option Nat
  tap : Nat
  drive : Nat
  rfOffConfirmed : Bool
deriving DecidableEq, Repr

/-- The causes a TRIP report carries (section 5.2). -/
inductive UnitTrip where
  | reflected | arc | overload
deriving DecidableEq, Repr

/-- The causes a FAULT report carries (section 5.2). -/
inductive UnitFault where
  | cooling | supply | pa | interlock
deriving DecidableEq, Repr

/-- The phases of a changeover plan, in the order of section 6.2. -/
inductive Phase where
  | warm | rampdown | rfOff | toLoad | release | tune | claim | pathOut | toMatrix | hold | rampup | done
deriving DecidableEq, Repr

/-- Hold points (R106, R117). -/
inductive HoldPoint where
  | none | afterTune | beforeRf
deriving DecidableEq, Repr

/-- The two banks, as READ-ENTRY names them (R46). -/
inductive BankSel where
  | active | staged
deriving DecidableEq, Repr

/-- The modes of READ-ENTRY (R46). -/
inductive ReadMode where
  | exact | next
deriving DecidableEq, Repr

/-- The SOURCE of ARM-CHANGEOVER (R53). -/
inductive ArmReq where
  | atTime (day sec : Nat) | command | syncLine | onSeal
deriving DecidableEq, Repr

/-- The two stored control sources SET-SOURCE can set (R77). -/
inductive Stored where
  | auto | manual
deriving DecidableEq, Repr

/-- What TRIM and READ-TRIM name (R99). -/
inductive TrimTarget where
  | tx (n : Nat) | group (g : Nat)
deriving DecidableEq, Repr

/-- The START of a booking (R73): a day and second, or START-NOW. -/
inductive StartReq where
  | on (day sec : Nat) | now
deriving DecidableEq, Repr

/-- The message fields of DEFINE-TX, in the order of the table of R2; an absent field is `none`. -/
structure TxFields where
  rating : Option Nat := .none
  bandLow : Option Nat := .none
  bandHigh : Option Nat := .none
  taps : Option (List Nat) := .none
  rampStep : Option Nat := .none
  rampInterval : Option Nat := .none
  warmUp : Option Nat := .none
  tuneShort : Option Nat := .none
  tuneLong : Option Nat := .none
  shortSpan : Option Nat := .none
  tuneTimeout : Option Nat := .none
  rowEst : Option Nat := .none
  rowTimeout : Option Nat := .none
  recycleLimit : Option Nat := .none
  recycleDelay : Option Nat := .none
  recycleWindow : Option Nat := .none
  loadWarn : Option Nat := .none
  loadFold : Option Nat := .none
  loadTrip : Option Nat := .none
  idleDarken : Option Nat := .none
deriving DecidableEq, Repr

/-- The message fields of DEFINE-ANT, in the order of the table of R4. -/
structure AntFields where
  rating : Option Nat := .none
  bandLow : Option Nat := .none
  bandHigh : Option Nat := .none
  zone : Option Nat := .none
  reach : Option (List Nat) := .none
  beams : Option Nat := .none
  warn : Option Nat := .none
  fold : Option Nat := .none
  trip : Option Nat := .none
  selEst : Option Nat := .none
  selTimeout : Option Nat := .none
  beamEst : Option Nat := .none
  beamTimeout : Option Nat := .none
deriving DecidableEq, Repr

/-- The message fields of DEFINE-HALL, in the order of the table of R7. -/
structure HallFields where
  minForward : Option Nat := .none
  minRemainder : Option Nat := .none
  panelRelease : Option Bool := .none
  panelTelemetry : Option Bool := .none
  group1 : Option (List Nat) := .none
  group2 : Option (List Nat) := .none
  group3 : Option (List Nat) := .none
  group4 : Option (List Nat) := .none
deriving DecidableEq, Repr

/-- The message fields of PUT-ENTRY, in the order of the table of R37; PATH is 0 for LOAD (section 11.6). -/
structure EntryFields where
  id : Option Nat := .none
  tx : Option Nat := .none
  freq : Option Nat := .none
  path : Option Nat := .none
  beam : Option Nat := .none
  power : Option Nat := .none
  start : Option Nat := .none
  duration : Option Nat := .none
  days : Option Nat := .none
  priority : Option Nat := .none
  firstDay : Option Nat := .none
  lastDay : Option Nat := .none
  tag : Option Nat := .none
deriving DecidableEq, Repr

/-- The message fields of SEAL-STAGING (R39, R43). -/
structure SealFields where
  season : Nat
  label : List Nat
  first : Nat
  last : Nat
  expected : Nat
deriving DecidableEq, Repr

/-- The message fields of BOOK (R72, R73), in the order of the table of R72; PATH is 0 for LOAD. -/
structure BookFields where
  tx : Option Nat := .none
  freq : Option Nat := .none
  path : Option Nat := .none
  beam : Option Nat := .none
  power : Option Nat := .none
  start : Option StartReq := .none
  duration : Option Nat := .none
  priority : Option Nat := .none
  wait : Option Bool := .none
  tag : Option Nat := .none
deriving DecidableEq, Repr

/-- A request as LNK sees it once a frame is complete (R188, section 11.5): a named request with its fields, a kind code
that names no request, or a body that does not fit the request its kind code names. -/
inductive Request where
  | defineTx (number : Nat) (f : TxFields)
  | defineTxRemove (number : Nat)
  | defineAnt (number : Nat) (f : AntFields)
  | defineAntRemove (number : Nat)
  | defineHall (f : HallFields)
  | readTxDef (number : Nat)
  | readAntDef (number : Nat)
  | setTime (day sec : Nat) (offset : Option Nat)
  | readTime
  | latch (which : Option (List Nat))
  | readSnapshot (number : Nat)
  | openStaging
  | putEntry (f : EntryFields)
  | dropEntry (id : Nat)
  | readEntry (bank : BankSel) (id : Nat) (mode : ReadMode)
  | sealStaging (f : SealFields)
  | abortStaging
  | discardStaging
  | armChangeover (src : ArmReq)
  | disarmChangeover
  | fireChangeover
  | readBanks
  | readConflicts
  | setSource (number : Nat) (src : Stored)
  | book (f : BookFields)
  | cancelBooking (id : Nat)
  | readBookings
  | readOccurrence (number : Nat)
  | setHoldPoint (which : Option Nat) (hp : HoldPoint)
  | releaseHold (number : Nat)
  | readPlan (number : Nat)
  | trim (target : TrimTarget) (value : Nat)
  | readTrim (target : TrimTarget)
  | clearFault (number : Nat)
  | readTx (number : Nat)
  | startHall
  | haltHall (now : Bool)
  | setAntServiceOut (number : Nat)
  | setAntServiceIn (number : Nat)
  | clearSuspect (number : Nat)
  | readAnt (number : Nat)
  | readMatrix
  | linkTest (count : Nat)
  | restart
  | unknownKind (code : Byte)
  | malformed (code : Byte) (position : Nat)
deriving DecidableEq, Repr

/-- The commands: one constructor per row of spec/opcode_table.json, in the table's order. -/
inductive Instr where
  | powerOn
  | defineTx (port : Port) (tag : Byte) (number : Nat) (f : TxFields)
  | defineTxRemove (port : Port) (tag : Byte) (number : Nat)
  | defineAnt (port : Port) (tag : Byte) (number : Nat) (f : AntFields)
  | defineAntRemove (port : Port) (tag : Byte) (number : Nat)
  | defineHall (port : Port) (tag : Byte) (f : HallFields)
  | readTxDef (port : Port) (tag : Byte) (number : Nat)
  | readAntDef (port : Port) (tag : Byte) (number : Nat)
  | setTime (port : Port) (tag : Byte) (day sec : Nat) (offset : Option Nat)
  | readTime (port : Port) (tag : Byte)
  | latch (port : Port) (tag : Byte) (which : Option (List Nat))
  | readSnapshot (port : Port) (tag : Byte) (number : Nat)
  | openStaging (port : Port) (tag : Byte)
  | putEntry (port : Port) (tag : Byte) (f : EntryFields)
  | dropEntry (port : Port) (tag : Byte) (id : Nat)
  | readEntry (port : Port) (tag : Byte) (bank : BankSel) (id : Nat) (mode : ReadMode)
  | sealStaging (port : Port) (tag : Byte) (f : SealFields)
  | abortStaging (port : Port) (tag : Byte)
  | discardStaging (port : Port) (tag : Byte)
  | armChangeover (port : Port) (tag : Byte) (src : ArmReq)
  | disarmChangeover (port : Port) (tag : Byte)
  | fireChangeover (port : Port) (tag : Byte)
  | readBanks (port : Port) (tag : Byte)
  | readConflicts (port : Port) (tag : Byte)
  | setSource (port : Port) (tag : Byte) (number : Nat) (src : Stored)
  | book (port : Port) (tag : Byte) (f : BookFields)
  | cancelBooking (port : Port) (tag : Byte) (id : Nat)
  | readBookings (port : Port) (tag : Byte)
  | readOccurrence (port : Port) (tag : Byte) (number : Nat)
  | setHoldPoint (port : Port) (tag : Byte) (which : Option Nat) (hp : HoldPoint)
  | releaseHold (port : Port) (tag : Byte) (number : Nat)
  | readPlan (port : Port) (tag : Byte) (number : Nat)
  | trim (port : Port) (tag : Byte) (target : TrimTarget) (value : Nat)
  | readTrim (port : Port) (tag : Byte) (target : TrimTarget)
  | clearFault (port : Port) (tag : Byte) (number : Nat)
  | readTx (port : Port) (tag : Byte) (number : Nat)
  | startHall (port : Port) (tag : Byte)
  | haltHall (port : Port) (tag : Byte) (now : Bool)
  | setAntServiceOut (port : Port) (tag : Byte) (number : Nat)
  | setAntServiceIn (port : Port) (tag : Byte) (number : Nat)
  | clearSuspect (port : Port) (tag : Byte) (number : Nat)
  | readAnt (port : Port) (tag : Byte) (number : Nat)
  | readMatrix (port : Port) (tag : Byte)
  | linkTest (port : Port) (tag : Byte) (count : Nat)
  | restart (port : Port) (tag : Byte)
  | unknownKind (port : Port) (tag : Byte) (code : Byte)
  | portByte (port : Port) (b : Byte)
  | frameGapExpiry (port : Port)
  | waitingFrameTaken (port : Port)
  | frameTransmit (port : Port)
  | secondPulse (after : Nat)
  | oscillatorSecond
  | pulseWindowClose
  | sweepStep
  | bankRecheck
  | syncRisingEdge
  | syncInputOff
  | syncQualifierExpiry
  | emergencyAsserted
  | emergencyReleased
  | gateLineOff (z : ZoneId)
  | gateLineOn (z : ZoneId)
  | accept (n : TxId)
  | reject (n : TxId) (reason : Nat)
  | state (n : TxId) (r : StateReport)
  | meter (n : TxId) (forward reflected : Nat)
  | tuned (n : TxId) (freq : Nat)
  | tuneFail (n : TxId) (cause : Nat)
  | trip (n : TxId) (cause : UnitTrip)
  | fault (n : TxId) (cause : UnitFault)
  | deferredOrderSend (n : TxId)
  | orderAcceptExpiry (n : TxId)
  | lineSilenceExpiry (n : TxId)
  | warmUpExpiry (n : TxId)
  | tuneExpiry (n : TxId)
  | rampExpiry (n : TxId)
  | rfOffConfirmationExpiry (n : TxId)
  | recycleExpiry (n : TxId)
  | phaseBegin (n : TxId) (ph : Phase)
  | retargetEffect (n : TxId)
  | moveHandover
  | antennaOffer (a : AntId)
  | busOrderSend
  | moving (addr : Nat)
  | arrived (addr : Nat) (at_ : Place)
  | stuck (addr : Nat) (last : Place)
  | position (addr : Nat) (at_ : Option Place)
  | busAnswerExpiry
  | travelExpiry (act : ActId)
  | allQuerySend
  | surveyEnd
  | hallAllOff
deriving DecidableEq, Repr

end Sys2Proof
end

