-- ==== Sys2Proof/Decode.lean ====
section
/-! DEFINITION. The command a word of the opcode table spells.  spec/opcode_table.json gives no row any bits ("fields": []
and no fixed bits), so no word spells a command. -/

namespace Sys2Proof

/-- The command that the nbits bits of w spell by the table's bits: none, since the table gives no bits to any row. -/
def decodeTableWord (nbits w : Nat) : Option Instr :=
  match nbits, w with
  | _, _ => none

end Sys2Proof
end

