-- ==== Sys2Proof/Config.lean ====
section
/-! DEFINITION. The free values of the model: values the manual leaves open.  They have no body, so nothing can be proved
of them but that they are values. -/

namespace Sys2Proof

/-- DESIGN CHOICE (log 21): the requested power of a transmitter adopted with no setpoint known to the controller.  R182
gives an adopted transmitter "the tap and drive of its last STATE report" and no POWER, and R166 and R167 then recompute a
ceiling from a power the manual does not state.  The value is free: one draw for each recomputation. -/
opaque Config.freePower : Nat → Nat

/-- DESIGN CHOICE (log 22): the RATING that R156 reads for a path whose antenna is no longer defined, by the antenna's number.
The manual states none. -/
opaque Config.freeRating : Nat → Nat

/-- DESIGN CHOICE (log 105): the SEL-EST that R67 reads for an antenna no longer defined, in seconds, by the antenna's number.  The
manual states none. -/
opaque Config.freeSelEst : Nat → Nat

/-- DESIGN CHOICE (log 60): the power P_k of a tap index that a unit reports and the TAPS list in use lacks (R13, R158, R159), by
the index.  The manual states none. -/
opaque Config.freeTap : Nat → Nat

/-- DESIGN CHOICE (log 23): the planned duration D of a changeover toward NONE, in seconds.  R67 gives D toward an occurrence
and R106 forms every plan's predicted on-air second from a D.  The value is free: one draw for each such changeover. -/
opaque Config.freeDuration : Nat → Nat

end Sys2Proof
end

