-- ==== Sys2Proof/Machine/State.lean ====
section
/-! DEFINITION. The state of the HC-1640 as plain data: one structure for each block of section 0.4 (LNK, HDS, CLK, SCH,
CSQ, TXS, AMX, SWB, RFP), the logic input levels, and the queue of commands that wait.  Fields marked MODEL are the
model's own (they hold what a rule needs remembered but gives no field name to). -/

namespace Sys2Proof.Machine
open Sys2Proof

/-! ## HDS: the hall description (chapter 1) -/

/-- A defined transmitter record (R2). -/
structure TxDef where
  rating : Nat
  bandLow : Nat
  bandHigh : Nat
  taps : List Nat
  rampStep : Nat
  rampInterval : Nat
  warmUp : Nat
  tuneShort : Nat
  tuneLong : Nat
  shortSpan : Nat
  tuneTimeout : Nat
  rowEst : Nat
  rowTimeout : Nat
  recycleLimit : Nat
  recycleDelay : Nat
  recycleWindow : Nat
  loadWarn : Nat
  loadFold : Nat
  loadTrip : Nat
  idleDarken : Nat
deriving DecidableEq, Repr

/-- A defined antenna record (R4). -/
structure AntDef where
  rating : Nat
  bandLow : Nat
  bandHigh : Nat
  zone : ZoneId
  reach : List TxId
  beams : Nat
  warn : Nat
  fold : Nat
  trip : Nat
  selEst : Nat
  selTimeout : Nat
  beamEst : Nat
  beamTimeout : Nat
deriving DecidableEq, Repr

/-- A zone record (R6). -/
structure ZoneRec where
  members : List AntId
  inUse : Bool
deriving DecidableEq, Repr

/-- The hall-wide record with the four trim group records (R7, R8). -/
structure HallDef where
  minForward : Nat
  minRemainder : Nat
  panelRelease : Bool
  panelTelemetry : Bool
  groups : Vector (List TxId) 4
deriving DecidableEq, Repr

/-- The hall description store. -/
structure Hds where
  tx : Vector (Option TxDef) 16
  ant : Vector (Option AntDef) 40
  hall : HallDef
  zones : Vector ZoneRec 8
  staticMin : Vector (Option Nat) 16
deriving DecidableEq, Repr

/-! ## CLK: station time and timer channels (chapter 2) -/

/-- Clock states (section 2.2). -/
inductive ClkState where
  | unset | free | locked | holdover
deriving DecidableEq, Repr

/-- Causes of a CLOCK-STATE notice (R21). -/
inductive ClkCause where
  | pulse | missing | set
deriving DecidableEq, Repr

/-- A time set, held or applied (R23, R24). -/
structure TimeSet where
  day : Nat
  sec : Nat
  offset : Nat
deriving DecidableEq, Repr

/-- The station clock (R19 to R27).  `phase` is the time in ms since the oscillator's phase was last set; `tail` is MODEL:
in LOCKED, the oscillator has advanced the second inside the present pulse window and no pulse has come in it yet. `seen` is
MODEL: the phase at which the pulse window closes that the last on-time pulse came in (R22). -/
structure Clock where
  day : Nat
  sec : Nat
  offset : Nat
  elapsed : Nat
  state : ClkState
  missing : Nat
  stray : Nat
  pend : Option TimeSet
  phase : Nat
  tail : Bool
  seen : Option Nat
deriving DecidableEq, Repr

/-- A timer channel record (section 2.4); owner, purpose and mode are fixed by the channel's identity, and the gate is
given by its gate source (`gateOpen`). -/
structure Chan where
  running : Bool
  remaining : Nat
  duration : Nat
deriving DecidableEq, Repr

/-- The modes of a timer channel (section 2.4). -/
inductive ChanMode where
  | single | retrigger | periodic
deriving DecidableEq, Repr

/-- The channels one transmitter and its hall line have. -/
inductive TxChan where
  | warmUp | tune | ramp | rfOff | accept | silence | recycle
deriving DecidableEq, Repr

/-- The channels of the controller (table of section 2.4). -/
inductive ChanId where
  | tx (n : TxId) (c : TxChan) | travel (act : ActId) | busAnswer | gap (p : Port) | sync
deriving DecidableEq, Repr

/-- The channels of one transmitter and its hall line. -/
structure TxTimers where
  warmUp : Chan
  tune : Chan
  ramp : Chan
  rfOff : Chan
  accept : Chan
  silence : Chan
  recycle : Chan
deriving DecidableEq, Repr

/-- Every timer channel of the controller. -/
structure Timers where
  tx : Vector TxTimers 16
  row : Vector Chan 16
  sel : Vector Chan 40
  beam : Vector Chan 40
  busAnswer : Chan
  gapA : Chan
  gapP : Chan
  sync : Chan
deriving DecidableEq, Repr

/-! ## Values the blocks share -/

/-- Context states (R80). -/
inductive CtxState where
  | unknown | dark | warming | standby | tuning | ready | rampingUp | onAir | rampingDown | tripped | faulted
deriving DecidableEq, Repr

/-- RF conditions (R81). -/
inductive Rf where
  | off | on | unsure
deriving DecidableEq, Repr

/-- The source in force (R80). -/
inductive Source where
  | auto | manual | localKey
deriving DecidableEq, Repr

/-- Fault causes of a context (R80). -/
inductive FaultCause where
  | warm | tune | rfOffUnconfirmed | mismatch | unit | cooling | supply | pa | interlock | recycleLimit | rowSwitch
  | adoption
deriving DecidableEq, Repr

/-- Hall states (section 0.5). -/
inductive HallState where
  | halted | surveying | running | halting | emergency
deriving DecidableEq, Repr

/-- Causes of a HALL-STATE notice (R101 to R105, R177, R186). -/
inductive HallCause where
  | startHall | surveyEnd | haltHall | allOff | emergencyAsserted | emergencyReleased | restart
deriving DecidableEq, Repr

/-- Causes of abandonment (R121). -/
inductive Cause where
  | targetEnded | zoneOpen | actuatorFault | service | rejected | lineLost | preempted | emergency | localKey | txFault
  | halt
deriving DecidableEq, Repr

/-- The identity of an occurrence (R60): a bank entry on a start day, or a booking with its stored start second. -/
inductive TargetId where
  | entry (generation id day : Nat) | booking (id start : Nat)
deriving DecidableEq, Repr

/-- Claim kinds (section 7.2). -/
inductive ClaimKind where
  | schedule | booking
deriving DecidableEq, Repr

/-- What a plan's target asks for (R106). A `path` of none is LOAD. -/
structure Setpoint where
  freq : Nat
  path : Option AntId
  beam : Nat
  power : Nat
  priority : Nat
  kind : ClaimKind
  wait : Bool
deriving DecidableEq, Repr

/-! ## RFP: protection state (chapter 9) -/

/-- The thresholds used for a window (R165). -/
structure Thresholds where
  warn : Nat
  fold : Nat
  trip : Nat
deriving DecidableEq, Repr

/-- What an evaluated window gives (R163, R164). -/
structure Eval where
  gamma : Nat
  s : Nat
  clampedS : Bool
  thr : Thresholds
  floor : Bool
  short : Bool
deriving DecidableEq, Repr

/-- A closed meter window (R163). -/
structure Window where
  pf : Nat
  pr : Nat
  masked : Bool
  lowCarrier : Bool
  eval : Option Eval
deriving DecidableEq, Repr

/-- RFP's record of a transmitter (R161). MODEL fields: `d`, the drive last composed (R159: "RFP keeps the recomputed d");
`power` and `path`, the POWER and PATH of the setpoint last composed (absent for a transmitter adopted with none);
`clamped`, the CLAMPED(POWER) flag of the last composition (R156); `taps`, the TAPS list in use until the next RF-ON, where a
redefinition has stored another (R13). -/
structure Prot where
  count : Nat
  fwdSum : Nat
  reflSum : Nat
  mask : Bool
  fold : Nat
  run : Nat
  recycleCount : Nat
  windowStart : Option Nat
  waiting : Bool
  floor : Bool
  short : Bool
  last : Option Window
  d : Nat
  power : Option Nat
  path : Option AntId
  clamped : Bool
  taps : Option (List Nat)
deriving DecidableEq, Repr

/-- The RF protection unit. -/
structure Rfp where
  prot : Vector Prot 16
  trips : Vector (List (TxId × Nat)) 40
deriving DecidableEq, Repr

/-! ## SCH: banks (chapter 3), occurrences and bookings (chapter 4) -/

/-- An entry (R37). A `path` of none is LOAD; `days` bit k is weekday k, Monday 0. -/
structure Entry where
  id : Nat
  tx : TxId
  freq : Nat
  path : Option AntId
  beam : Nat
  power : Nat
  start : Nat
  duration : Nat
  days : Nat
  priority : Nat
  firstDay : Option Nat
  lastDay : Option Nat
  tag : Option Nat
deriving DecidableEq, Repr

/-- A season header (R39). -/
structure Header where
  season : Nat
  label : List Nat
  first : Nat
  last : Nat
deriving DecidableEq, Repr

/-- The ACTIVE bank while LIVE (R38, R55, R57, R16): its entries, each with its disabled mark. -/
structure ActiveBank where
  entries : List (Entry × Bool)
  header : Header
  generation : Nat
  recheck : Bool
  expired : Bool
deriving DecidableEq, Repr

/-- States of the STAGED bank (section 3.2). -/
inductive StagedState where
  | empty | open | validating | sealed | rejected
deriving DecidableEq, Repr

/-- Kinds of conflict record (R48, R49). -/
inductive ConflictKind where
  | txUndefined | antUndefined | notInReach | txBand | antBand | beam | days | txOverlap | antOverlap
deriving DecidableEq, Repr

/-- A conflict record (R51). -/
structure Conflict where
  kind : ConflictKind
  entry : Nat
  other : Nat
deriving DecidableEq, Repr

/-- The conflict list's standing (R51). -/
inductive Standing where
  | none | inProgress | complete | aborted
deriving DecidableEq, Repr

/-- The STAGED bank with its sweep (R38, R39, R47, R51). -/
structure StagedBank where
  state : StagedState
  entries : List Entry
  header : Option Header
  pass : Nat
  position : Nat
  conflicts : List Conflict
  overflow : Nat
  willClamp : Nat
  tight : Nat
  standing : Standing
deriving DecidableEq, Repr

/-- The changeover arming (R53). -/
inductive Arming where
  | disarmed | atTime (day sec : Nat) | command | syncLine | onSeal
deriving DecidableEq, Repr

/-- The trigger sources CHANGEOVER-DONE and CHANGEOVER-MISSED carry (R55, R56). -/
inductive Trigger where
  | atTime | command | syncLine | onSeal
deriving DecidableEq, Repr

/-- Reasons of a DONE record (R60). -/
inductive DoneReason where
  | ended | changeover | cancelled | source
deriving DecidableEq, Repr

/-- Causes of a MISSED record (R60, R61). -/
inductive MissCause where
  | late | invalid | abandoned (c : Cause)
deriving DecidableEq, Repr

/-- Status of an occurrence record, with its reason (R60). -/
inductive OccStatus where
  | pending | live | done (r : DoneReason) | missed (c : MissCause) | preempted | disabled
deriving DecidableEq, Repr

/-- An occurrence record (R60); `start` and `finish` are station seconds. -/
structure OccRec where
  id : TargetId
  start : Nat
  finish : Option Nat
  status : OccStatus
  onAir : Option Nat
  tag : Option Nat
deriving DecidableEq, Repr

/-- The two records of a transmitter (R60). -/
structure Occ where
  cur : Option OccRec
  prev : Option OccRec
deriving DecidableEq, Repr

/-- A booking (R72); `start` is a station second. -/
structure Booking where
  id : Nat
  tx : TxId
  freq : Nat
  path : Option AntId
  beam : Nat
  power : Nat
  start : Nat
  duration : Option Nat
  priority : Nat
  wait : Bool
  tag : Option Nat
deriving DecidableEq, Repr

/-- Causes of BOOKING-ENDED (R76). -/
inductive BookEnd where
  | ended | missed (c : MissCause) | preempted | cancelled | source | removed
deriving DecidableEq, Repr

/-- The schedule engine. `recheckDue` is MODEL: the recheck of R16 has been called for by an entry to SURVEYING and not
yet made. -/
structure Sch where
  active : Option ActiveBank
  staged : StagedBank
  arming : Arming
  lastGen : Nat
  recheckDue : Bool
  bookings : List Booking
  occ : Vector Occ 16
deriving DecidableEq, Repr

/-! ## TXS: contexts and hall lines (chapter 5), the survey (chapter 10) -/

/-- Orders on a hall line (section 5.2). -/
inductive Order where
  | warm | darken | tune (freq : Nat) | rfOn (tap : Nat) | drive (v : Nat) | rfOff | statusAsk
deriving DecidableEq, Repr

/-- Who asked TXS for an order (R82, R84, R97): the blocks, and TXS itself with what made it ask. -/
inductive Asker where
  | csq | rfp | sch | txs | emergency | zone | check | fault
deriving DecidableEq, Repr

/-- Causes of REFUSED-INTERNAL (R82 to R88, R93, R97, R158). -/
inductive Refused where
  | superseded | rfOffPending | rejected | lineLost | state | path | localKey | declined | limit
deriving DecidableEq, Repr

/-- The outstanding order (R80, R82). MODEL fields: the asker, and the context state (R83) and the drive (R160) before the
sending. -/
structure Outstanding where
  order : Order
  sent : Nat
  who : Asker
  before : CtxState
  was : Nat
deriving DecidableEq, Repr

/-- The deferred order (R80, R82), with its asker (MODEL). -/
structure Deferred where
  order : Order
  who : Asker
deriving DecidableEq, Repr

/-- Kinds of ramp (R91, R160). -/
inductive RampKind where
  | up | air | down
deriving DecidableEq, Repr

/-- MODEL: a ramp in progress (R91, R160): its kind, the drive D0 it began from, the expiries counted, and the block its
end is handed to (true: CSQ). -/
structure Ramp where
  kind : RampKind
  base : Nat
  count : Nat
  forCsq : Bool
deriving DecidableEq, Repr

/-- MODEL: how a WARMING context ends (R86, R89): timed by the warm-up channel, decided by the next STATE report, or at
the first STATE report showing STANDBY (WARM-UP 0). -/
inductive WarmWait where
  | timed | nextReport | untilStandby
deriving DecidableEq, Repr

/-- MODEL: the orders sent since the last change of context state (R96: "once sent"). -/
structure SentSince where
  warm : Bool
  darken : Bool
  tune : Bool
  rfOn : Bool
  rfOff : Bool
deriving DecidableEq, Repr

/-- A transmitter context (R80). MODEL fields: `ramp`, `warmWait`, `sentSince`; `tuneFreq`, the frequency the retune in
progress was ordered to (R90); `tuneLate`, the tune channel has expired and its report is still to follow (R90); `rfShown`, RF_ON shown since the last RF-ON (R96); `tripSeen`, a TRIP
report digested since the last RF-ON (R95); `localTrip`, under LOCAL a TRIPPED state has been handed as a trip (R168); `tripEnded`, the recycle has ended without a return and the context leaves TRIPPED once RF is OFF (R95);
`lostUnknown`, UNKNOWN through line loss (R184); `unshown`, sent orders whose effect no report has shown (R34);
`clearing`, actuators whose query a CLEAR-FAULT awaits (R98, R185); `queried`, the actuators the last CLEAR-FAULT had queried
(R185); `adopted`, the linked occurrence is ADOPTED (R182). -/
structure Ctx where
  state : CtxState
  rf : Rf
  source : Source
  stored : Stored
  tuned : Option Nat
  tap : Option Nat
  drive : Nat
  trim : Nat
  lineUp : Bool
  outstanding : Option Outstanding
  deferred : Option Deferred
  owed : Bool
  last : Option StateReport
  cause : Option FaultCause
  declined : Bool
  ramp : Option Ramp
  warmWait : WarmWait
  sentSince : SentSince
  tuneFreq : Option Nat
  tuneLate : Bool
  rfShown : Bool
  tripSeen : Bool
  localTrip : Bool
  tripEnded : Bool
  lostUnknown : Bool
  unshown : List Order
  clearing : List ActId
  queried : List ActId
  adopted : Bool
deriving DecidableEq, Repr

/-- A survey turn (R175). -/
inductive Turn where
  | pending | answered | lost
deriving DecidableEq, Repr

/-- The counts of the all-call (R154). -/
structure BusCounts where
  at_ : Nat
  travelling : Nat
  silent : Nat
deriving DecidableEq, Repr

/-- The survey record (R175): a turn for each transmitter defined when the survey began, the two flags, and the counts
SURVEY-DONE carries that are gathered before its end (R183). The MODEL's own field `owners` holds the owner of each antenna and its
claim second as the survey began, by which R178 tells an ownership that survives from before it. -/
structure Survey where
  turns : Vector (Option Turn) 16
  bus : Bool
  recheckDone : Bool
  busCounts : BusCounts
  disabled : Nat
  owners : Vector (Option (TxId × Nat)) 40
deriving DecidableEq, Repr

/-- The transmitter sequencer. -/
structure Txs where
  ctx : Vector Ctx 16
  hall : HallState
  survey : Option Survey
deriving DecidableEq, Repr

/-! ## CSQ: plans (chapter 6) -/

/-- Phase statuses (R106). -/
inductive PStatus where
  | skipped | waiting | running | ended
deriving DecidableEq, Repr

/-- The status of every phase of a plan. -/
structure Phases where
  warm : PStatus
  rampdown : PStatus
  rfOff : PStatus
  toLoad : PStatus
  release : PStatus
  tune : PStatus
  claim : PStatus
  pathOut : PStatus
  toMatrix : PStatus
  hold : PStatus
  rampup : PStatus
  done : PStatus
deriving DecidableEq, Repr

/-- A plan's claim standing (R106, R114). -/
inductive ClaimStanding where
  | none | granted | reserved | retry
deriving DecidableEq, Repr

/-- A retarget taken and not yet in effect (R120), with the setpoint and start second it will copy. -/
structure Retarget where
  target : Option TargetId
  setp : Option Setpoint
  planned : Option Nat
  d : Nat
deriving DecidableEq, Repr

/-- A plan record (R106). A `target` of none is NONE; `setp` is then absent. MODEL fields: `claimSec`, the claim's first
claim second (R129); `claimAnt`, the antenna claimed; `holdReleased`, the AFTER_TUNE hold has been released (R118, R119);
`deferFlags`, flags and phases wait for the retune in progress to end (R107); `awaiting`, the moves the plan waits for. -/
structure Plan where
  target : Option TargetId
  setp : Option Setpoint
  needsRetune : Bool
  needsRelease : Bool
  needsPath : Bool
  needsBeam : Bool
  phases : Phases
  claim : ClaimStanding
  planned : Option Nat
  predicted : Nat
  holdPoint : HoldPoint
  atHold : Bool
  pend : Option Retarget
  windDown : Bool
  cause : Option Cause
  claimSec : Option Nat
  claimAnt : Option AntId
  holdReleased : Bool
  deferFlags : Bool
  awaiting : List (ActId × Place)
deriving DecidableEq, Repr

/-- The changeover sequencer. -/
structure Csq where
  plans : Vector (Option Plan) 16
  hold : Vector HoldPoint 16
deriving DecidableEq, Repr

/-! ## AMX: the antenna matrix (chapter 7) -/

/-- Service of an antenna (R126). -/
inductive Service where
  | inService | outHost | outActuator | suspect
deriving DecidableEq, Repr

/-- Kinds of ownership (R126, R133). -/
inductive OwnKind where
  | schedule | booking | localKey | adopted
deriving DecidableEq, Repr

/-- An ownership (R126). -/
structure Own where
  tx : TxId
  kind : OwnKind
  priority : Nat
  sec : Nat
deriving DecidableEq, Repr

/-- A claim in a reservation queue (section 7.2). -/
structure Claim where
  tx : TxId
  priority : Nat
  kind : ClaimKind
  wait : Bool
  sec : Nat
deriving DecidableEq, Repr

/-- The run-time record of an antenna (R126). The zone condition is taken from its zone. `query` lists the actuators whose
re-query a SET-ANT-SERVICE IN awaits (R141); the service query field is yes while it is not empty. -/
structure AntRun where
  service : Service
  owner : Option Own
  queue : List Claim
  query : List ActId
deriving DecidableEq, Repr

/-- A recorded position (R127). -/
inductive Pos where
  | atp (p : Place) | travelling (p : Place) | unknown
deriving DecidableEq, Repr

/-- Who asked AMX for a move (R134): a transmitter's plan, or AMX itself. -/
inductive MoveAsker where
  | plan (n : TxId) | amx
deriving DecidableEq, Repr

/-- A held move (R134). MODEL field: `told`, the plans whose move of this actuator it superseded and that AMX must tell
again. The same record is kept for a move handed to SWB until it ends. -/
structure Held where
  act : ActId
  place : Place
  asker : MoveAsker
  asked : Nat
  told : List (TxId × Place)
deriving DecidableEq, Repr

/-- The antenna matrix controller. `zone` is the condition of each zone in use (true: OPEN). MODEL fields: `flight`, the
moves handed to SWB and not yet ended; `reask`, superseded moves whose plan has been told again and asks anew. -/
structure Amx where
  ant : Vector (Option AntRun) 40
  rowPos : Vector Pos 16
  selPos : Vector Pos 40
  beamPos : Vector Pos 40
  held : List Held
  flight : List Held
  reask : List (TxId × ActId × Place)
  zone : Vector (Option Bool) 8
deriving DecidableEq, Repr

/-! ## SWB: the switch bus (chapter 8) -/

/-- Fault causes of an actuator (R146). -/
inductive ActFault where
  | stuck | timeout | silent
deriving DecidableEq, Repr

/-- Status of an actuator (R146). -/
inductive ActStatus where
  | unknown | atp (p : Place) | travelling (p : Place) | fault (c : ActFault)
deriving DecidableEq, Repr

/-- Blocks that await a query answer (R146, R148): TXS for a transmitter's CLEAR-FAULT, AMX for a SET-ANT-SERVICE IN, SWB
for a watch. -/
inductive Requester where
  | txs (n : TxId) | amx | swb
deriving DecidableEq, Repr

/-- An actuator table entry (R146). -/
structure ActEntry where
  status : ActStatus
  last : Option Place
  unordered : Bool
  watch : Bool
  requesters : List Requester
  wanted : Bool
deriving DecidableEq, Repr

/-- An order in the bus order queue (R148); `place` is present for a MOVE and absent for a QUERY. -/
structure BusOrder where
  act : ActId
  place : Option Place
  asker : Requester
deriving DecidableEq, Repr

/-- The open transaction (R149, R154). -/
inductive Trans where
  | none | move (act : ActId) (p : Place) | query (act : ActId) | allCall (turn : ActId)
deriving DecidableEq, Repr

/-- The switch bus controller. `allCallWaiting`: an all-call survey waits to be sent (R154); `counts`: its counts so far. -/
structure Swb where
  row : Vector (Option ActEntry) 16
  sel : Vector (Option ActEntry) 40
  beam : Vector (Option ActEntry) 40
  queue : List BusOrder
  trans : Trans
  allCallWaiting : Bool
  counts : BusCounts
  surveyed : Bool
deriving DecidableEq, Repr

/-! ## Snapshots (section 2.6) -/

/-- A running channel as a snapshot shows it (R34). -/
structure TimerView where
  chan : TxChan
  remaining : Nat
  frozen : Bool
deriving DecidableEq, Repr

/-- The contents of a snapshot (R34). -/
structure Snapshot where
  state : CtxState
  rf : Rf
  tuned : Option Nat
  tap : Option Nat
  drive : Nat
  orderPending : Bool
  window : Option Window
  fold : Nat
  recycleCount : Nat
  timers : List TimerView
  day : Nat
  sec : Nat
  clk : ClkState
  setPending : Bool
deriving DecidableEq, Repr

/-! ## Notices (section 11.5) -/

/-- What a LOCAL VSWR-WARN says R166 would have done (R168). -/
inductive RfAction where
  | warn | fold | trip
deriving DecidableEq, Repr

/-- Causes of a trip (R169). -/
inductive TripCause where
  | reflected | arc | overload | foldExhausted
deriving DecidableEq, Repr

/-- Outcomes a TRIP notice carries (R169). -/
inductive TripOutcome where
  | recycleWaiting | noRecycle | limit
deriving DecidableEq, Repr

/-- A measurement as the RF notices carry it (R166, R169). -/
structure Meas where
  pf : Nat
  pr : Nat
  gamma : Nat
  s : Nat
  thr : Thresholds
deriving DecidableEq, Repr

/-- The counts of SURVEY-DONE (R183). -/
structure SurveyCounts where
  surveyed : Nat
  answered : Nat
  lost : Nat
  adopted : Nat
  adoptedAtLoad : Nat
  lockedOut : Nat
  rfOff : Nat
  stranded : Nat
  derived : Nat
  kept : Nat
  ended : Nat
  bus : BusCounts
  disabled : Nat
deriving DecidableEq, Repr

/-- What depends on an actuator (R153): the antenna of a selector or beam drive, the transmitter of a row switch. -/
inductive Dependant where
  | ant (a : AntId) | tx (n : TxId)
deriving DecidableEq, Repr

/-- The notices, in the order of their codes (section 11.5), each with the fields its posting rule names. -/
inductive Notice where
  | entryStarted (n : TxId) (id : TargetId) (tag : Option Nat) (onAir : Nat) (clamped : Bool)
  | entryEnded (n : TxId) (id : TargetId) (tag : Option Nat) (how : OccStatus)
  | gapExtended (n : TxId) (id ended : TargetId) (start d delay : Nat)
  | entryMissed (n : TxId) (id : TargetId) (tag : Option Nat) (how : OccStatus)
  | entryPreempted (n : TxId) (id : TargetId) (tag : Option Nat)
  | bookingEnded (id : Nat) (n : TxId) (path : Option AntId) (tag : Option Nat) (cause : BookEnd)
  | holdReached (n : TxId) (target : Option TargetId) (hp : HoldPoint) (running : List Phase)
  | planAbandoned (n : TxId) (target : Option TargetId) (cause : Cause) (phase : Phase) (windDown : Bool)
  | claimReserved (n : TxId) (a : AntId) (priority place : Nat)
  | claimGranted (n : TxId) (a : AntId)
  | claimDropped (n : TxId) (a : AntId)
  | vswrWarn (n : TxId) (level : Nat) (m : Meas) (floor short : Bool) (localAction : Option RfAction)
  | fold (n : TxId) (level c d : Nat) (m : Meas) (floor short recovered : Bool)
  | trip (n : TxId) (cause : TripCause) (charged : Option AntId) (m : Option Meas) (level count : Nat)
      (outcome : Option TripOutcome) (floor short isLocal : Bool)
  | recycle (n : TxId) (count level tap d : Nat)
  | txFault (n : TxId) (cause : FaultCause) (left : CtxState) (unitCause : Option Nat)
  | lineLost (n : TxId) (byAccept : Bool) (held : CtxState) (rf : Rf)
  | lineRestored (n : TxId)
  | localTaken (n : TxId)
  | localReleased (n : TxId)
  | antennaSuspect (a : AntId) (owner : Option TxId) (txs : List TxId) (service : Service)
  | zoneOpen (z : ZoneId) (ants : List AntId)
  | zoneClosed (z : ZoneId)
  | actuatorFault (act : ActId) (addr : Nat) (cause : ActFault) (unordered : Bool) (last : Option Place)
      (order : Option Place) (dependant : Dependant)
  | changeoverDone (generation season : Nat) (label : List Nat) (count old : Nat) (src : Trigger)
  | changeoverMissed (src : Trigger) (staged : StagedState)
  | sealResult (outcome : StagedState) (season : Nat) (label : List Nat) (count records overflow willClamp tight : Nat)
      (first : Option Conflict)
  | seasonExpired (generation season : Nat) (label : List Nat) (last : Nat)
  | clockState (prev new : ClkState) (cause : ClkCause)
  | surveyDone (complete : Bool) (counts : SurveyCounts)
  | adoptionLockout (n : TxId) (check : Nat) (rf : Rf) (row : Pos) (sels : List AntId)
  | hallState (prev new : HallState) (cause : HallCause)
deriving DecidableEq, Repr

/-- An entry of a notice queue (R192): a notice, or the overflow marker, each stamped with station time. -/
inductive QEntry where
  | notice (day sec : Nat) (nt : Notice)
  | overflow (day sec count : Nat)
deriving DecidableEq, Repr

/-! ## LNK: ports, replies and notices (chapter 11) -/

/-- Refusal reasons, in the order of their codes (R189). -/
inductive Reason where
  | malformed | unknownKind | notPermitted | state | range | noSuch | full | conflict | busy
deriving DecidableEq, Repr

/-- The status header of a reply (R189). -/
structure Header189 where
  day : Nat
  sec : Nat
  clk : ClkState
  hall : HallState
  notices : Nat
  emergency : Bool
  lockout : Bool
  pending : Bool
deriving DecidableEq, Repr

/-- A booking as READ-BOOKINGS lists it (R78); a `status` of none is NOT-STARTED. -/
structure BookingView where
  booking : Booking
  finish : Option Nat
  status : Option OccStatus
deriving DecidableEq, Repr

/-- The linked occurrence READ-TX shows (R100). -/
inductive Linked where
  | absent | adopted | target (id : TargetId)
deriving DecidableEq, Repr

/-- A held move as READ-ANT lists it (R145): position, asker, age in seconds. -/
structure HeldView where
  act : ActId
  place : Place
  asker : MoveAsker
  age : Nat
deriving DecidableEq, Repr

/-- One antenna's line of READ-MATRIX (R145). -/
structure MatrixAnt where
  ant : AntId
  service : Service
  zoneOpen : Bool
  owner : Option Own
  queued : Nat
  selector : Pos
deriving DecidableEq, Repr

/-- One transmitter's line of READ-MATRIX (R145). -/
structure MatrixTx where
  tx : TxId
  row : Pos
  owned : Option AntId
  reservation : Option AntId
deriving DecidableEq, Repr

/-- The context fields READ-TX returns (R80, R100). -/
structure CtxView where
  state : CtxState
  rf : Rf
  source : Source
  stored : Stored
  tuned : Option Nat
  tap : Option Nat
  drive : Nat
  trim : Nat
  lineUp : Bool
  outstanding : Option (Order × Nat)
  deferred : Option Order
  owed : Bool
  last : Option StateReport
  cause : Option FaultCause
  declined : Bool
deriving DecidableEq, Repr

/-- The result bodies of ACCEPTED replies, one for each kind of request, in the fields its rule names; `clamped` lists the
position of each field that a block answers with CLAMPED (R189). -/
inductive Body where
  | empty
  | txDef (number : Nat) (r : TxDef) (minimum : Nat) (group : Option GroupId) (clamped : List Nat)
  | undefined (number : Nat)
  | antUndefined (number : Nat) (zoneInUse : Option Bool)
  | antDef (number : Nat) (r : AntDef) (beamDefined zoneInUse : Bool)
  | hallDef (r : HallDef) (effective : Vector (List TxId) 4) (zones : Vector ZoneRec 8)
  | hallStored (r : HallDef) (effective : Vector (List TxId) 4)
  | timeSet (applied : Bool) (day sec : Nat) (clk : ClkState)
  | time (day sec offset weekday : Nat) (clk : ClkState) (missing stray elapsed : Nat) (pend : Option TimeSet)
  | latched (list : List (TxId × Bool × Nat × Nat))
  | snapshot (latched : Bool) (snap : Snapshot)
  | count (k : Nat)
  | put (replaced : Bool) (position count : Nat)
  | entry (e : Entry) (position : Nat) (activeMarks : Option (Bool × Nat))
  | cursor (pass position : Nat)
  | arming (a : Arming) (fired : Bool)
  | promoted (generation : Nat)
  | missed (staged : StagedState)
  | banks (active : Option (Nat × Header × Nat × Nat × Bool × Bool)) (staged : StagedState) (count : Nat)
      (header : Option Header) (sweep : Option (Nat × Nat × Nat × Nat × Nat × Nat)) (arming : Arming) (lastGen : Nat)
  | conflicts (list : List Conflict) (overflow willClamp tight : Nat) (standing : Standing)
  | source (inForce : Source) (stored : Stored) (removed : Nat)
  | booked (id : Nat) (start : Nat)
  | cancelled (status : Option OccStatus)
  | bookings (list : List BookingView)
  | occurrence (cur prev : Option OccRec) (source : Source) (covering : Option TargetId)
      (next : Option (TargetId × Nat)) (d : Option (Nat × Nat))
  | holdPoints (list : List (TxId × HoldPoint))
  | entered (phase : Phase)
  | noPlan (hp : HoldPoint)
  | plan (p : Plan)
  | trims (list : List (TxId × Nat)) (clamped : List Nat)
  | trimOf (trim : Nat) (members : List TxId)
  | cleared (state : CtxState)
  | clearPending
  | tx (c : CtxView) (row : Pos) (owned : Option AntId) (beam : Option Pos) (reservation : Option AntId)
      (linked : Linked) (phase : Option Phase)
  | hall (h : HallState)
  | serviceOut (before after : Service) (owner : Option Own) (grounding : Bool)
  | serviceIn (pending : Bool)
  | suspectCleared (list : List (TxId × Nat))
  | antenna (r : AntRun) (zoneOpen : Bool) (sel : Pos) (beam : Option Pos) (selStatus : Option ActStatus)
      (beamStatus : Option ActStatus) (held : List HeldView) (trips : List (TxId × Nat))
  | matrix (ants : List MatrixAnt) (txs : List MatrixTx) (zones : List (ZoneId × Bool)) (held waiting : Nat)
  | linkTest (bytes : List Nat) (discards notices : Nat)
deriving DecidableEq, Repr

/-- The result of a request (R189): ACCEPTED with its body, or REFUSED with a reason and a detail. -/
inductive Result where
  | accepted (b : Body)
  | refused (r : Reason) (detail : Nat)
deriving DecidableEq, Repr

/-- A reply (R189): the request's tag, its kind code with 0x80 added, the status header and the result. -/
structure Reply where
  tag : Byte
  kind : Byte
  header : Header189
  result : Result
deriving DecidableEq, Repr

/-- A frame a port transmitter sends (R191): a reply, or a notice with the tag and kind code of its frame. -/
inductive OutFrame where
  | reply (r : Reply) | notice (tag kind : Byte) (q : QEntry)
deriving DecidableEq, Repr

/-- A complete frame that waits in the receive frame, read into its request (R188). -/
structure InFrame where
  tag : Byte
  req : Request
deriving DecidableEq, Repr

/-- Reception states (R187). -/
inductive RxState where
  | hunt | length | tag | kind | body | check
deriving DecidableEq, Repr

/-- A receiver (R187): its state and what it holds of the frame being received. `first` is MODEL: the first byte of a
two-byte field has been held. `bodyRev` holds the body bytes, last first. -/
structure Rx where
  state : RxState
  first : Option Byte
  len : Nat
  tag : Byte
  kind : Byte
  bodyRev : List Byte
deriving DecidableEq, Repr

/-- A port (chapter 11). `sending` is the frame in transmission; `lastReply`: the last frame sent was a reply. MODEL field:
`lost`, where the bytes refused while a frame waits stand in the frame that is being lost (R188). -/
structure PortState where
  rx : Rx
  waiting : Option InFrame
  lost : Rx
  slot : Option Reply
  queue : List QEntry
  discards : Nat
  sending : Option OutFrame
  lastReply : Bool
deriving DecidableEq, Repr

/-- The link controller. -/
structure Lnk where
  a : PortState
  p : PortState
deriving DecidableEq, Repr

/-! ## The whole state -/

/-- The levels of the logic inputs (section 0.7): `emergency` true while the EMERGENCY line is asserted, `sync` true while
the SYNC input is on, `gate` true while a zone gate input is on. -/
structure Pins where
  emergency : Bool
  sync : Bool
  gate : Vector Bool 8
deriving DecidableEq, Repr

/-- The HC-1640. `pending` is the queue of commands that wait, first in, first out. `free` is MODEL: how many free values
have been drawn (`Config.freePower`). -/
structure State where
  pending : List Instr
  pins : Pins
  hds : Hds
  clk : Clock
  tim : Timers
  snaps : Vector (Option Snapshot) 16
  sch : Sch
  csq : Csq
  txs : Txs
  amx : Amx
  swb : Swb
  rfp : Rfp
  lnk : Lnk
  free : Nat
deriving DecidableEq, Repr

/-- The reasons a command can fault: none. Every command of the table has an effect in the spec on every operand (a report
that does not fit is discarded, a request that fails is answered REFUSED), so no meaning raises a fault. -/
inductive Fault where
deriving DecidableEq, Repr

/-- The reasons a command can be refused by the model. -/
inductive Refusal where
  /-- Raised by `exec` alone, for a command that has no meaning yet; safe: nothing is claimed of it. -/
  | notModelled (mnemonic : String)
deriving DecidableEq, Repr

/-! ## Power-on values -/

/-- A stopped channel (R36). -/
def Chan.stopped : Chan := ⟨false, 0, 0⟩

/-- The channels of a transmitter at power-on (R36). -/
def TxTimers.stopped : TxTimers :=
  ⟨.stopped, .stopped, .stopped, .stopped, .stopped, .stopped, .stopped⟩

/-- Every channel stopped (R36). -/
def Timers.stopped : Timers where
  tx := Vector.replicate 16 .stopped
  row := Vector.replicate 16 .stopped
  sel := Vector.replicate 40 .stopped
  beam := Vector.replicate 40 .stopped
  busAnswer := .stopped
  gapA := .stopped
  gapP := .stopped
  sync := .stopped

/-- The hall-wide record's defaults, with empty trim groups (R7, R18). -/
def HallDef.default : HallDef := ⟨50, 120, false, false, Vector.replicate 4 []⟩

/-- HDS at power-on (R18). -/
def Hds.powerOn : Hds where
  tx := Vector.replicate 16 none
  ant := Vector.replicate 40 none
  hall := .default
  zones := Vector.replicate 8 ⟨[], false⟩
  staticMin := Vector.replicate 16 none

/-- The clock at power-on (R27). -/
def Clock.powerOn : Clock := ⟨0, 0, 0, 0, .unset, 0, 0, none, 0, false, none⟩

/-- An RFP record's initial values (R161). -/
def Prot.initial : Prot :=
  ⟨0, 0, 0, false, 0, 0, 0, none, false, false, false, none, 0, none, none, false, none⟩

/-- RFP at power-on and at RESTART (R161, R173). -/
def Rfp.initial : Rfp := ⟨Vector.replicate 16 .initial, Vector.replicate 40 []⟩

/-- An EMPTY STAGED bank (R59). -/
def StagedBank.emptyBank : StagedBank := ⟨.empty, [], none, 1, 1, [], 0, 0, 0, .none⟩

/-- SCH at power-on (R59, R79). -/
def Sch.powerOn : Sch := ⟨none, .emptyBank, .disarmed, 0, false, [], Vector.replicate 16 ⟨none, none⟩⟩

/-- No order sent since the last change of context state. -/
def SentSince.none : SentSince := ⟨false, false, false, false, false⟩

/-- A context's power-on values (R80). -/
def Ctx.powerOn : Ctx where
  state := .unknown
  rf := .unsure
  source := .auto
  stored := .auto
  tuned := none
  tap := none
  drive := 0
  trim := 1000
  lineUp := true
  outstanding := none
  deferred := none
  owed := false
  last := none
  cause := none
  declined := false
  ramp := none
  warmWait := .timed
  sentSince := .none
  tuneFreq := none
  tuneLate := false
  rfShown := false
  tripSeen := false
  localTrip := false
  tripEnded := false
  lostUnknown := false
  unshown := []
  clearing := []
  queried := []
  adopted := false

/-- TXS at power-on (R80, section 0.5). -/
def Txs.powerOn : Txs := ⟨Vector.replicate 16 .powerOn, .halted, none⟩

/-- CSQ at power-on (R106). -/
def Csq.powerOn : Csq := ⟨Vector.replicate 16 none, Vector.replicate 16 .none⟩

/-- An antenna run-time record's first values (R126). -/
def AntRun.initial : AntRun := ⟨.inService, none, [], []⟩

/-- AMX at power-on (R126, R127, R139). -/
def Amx.powerOn : Amx where
  ant := Vector.replicate 40 none
  rowPos := Vector.replicate 16 .unknown
  selPos := Vector.replicate 40 .unknown
  beamPos := Vector.replicate 40 .unknown
  held := []
  flight := []
  reask := []
  zone := Vector.replicate 8 none

/-- An actuator table entry as it enters the table (R146). -/
def ActEntry.initial : ActEntry := ⟨.unknown, none, false, false, [], false⟩

/-- SWB at power-on (R155). -/
def Swb.powerOn : Swb where
  row := Vector.replicate 16 none
  sel := Vector.replicate 40 none
  beam := Vector.replicate 40 none
  queue := []
  trans := .none
  allCallWaiting := false
  counts := ⟨0, 0, 0⟩
  surveyed := false

/-- A receiver in HUNT holding nothing (R187). -/
def Rx.hunting : Rx := ⟨.hunt, none, 0, 0, 0, []⟩

/-- A port at power-on (R187, R191, R192). -/
def PortState.powerOn : PortState := ⟨.hunting, none, .hunting, none, [], 0, none, false⟩

/-- LNK at power-on. -/
def Lnk.powerOn : Lnk := ⟨.powerOn, .powerOn⟩

/-- The input levels at reset: EMERGENCY released, SYNC off, every zone gate on. DESIGN CHOICE (log 3): the manual gives
no input level. -/
def Pins.reset : Pins := ⟨false, false, Vector.replicate 8 true⟩

/-- The machine right after power-on (R18, R27, R36, R59, R79, R80, R106, R126, R127, R155, R161, R187, R192) with the
EMERGENCY line released: the hall is HALTED (section 0.5) and no command waits. -/
def State.reset : State where
  pending := []
  pins := .reset
  hds := .powerOn
  clk := .powerOn
  tim := .stopped
  snaps := Vector.replicate 16 none
  sch := .powerOn
  csq := .powerOn
  txs := .powerOn
  amx := .powerOn
  swb := .powerOn
  rfp := .initial
  lnk := .powerOn
  free := 0

end Sys2Proof.Machine
end

