-- ==== Sys2Proof/Machine/Ops.lean ====
section
/-! DEFINITION. The named operations over the state that every block uses: station seconds, reading and writing one
record, timer channels, notices, and the derived views of the matrix (owned antenna, reservation, confirmed path). -/

namespace Sys2Proof.Machine
open Sys2Proof

/-! ## Arithmetic of section 0.6 -/

/-- ceil(a / b) for a positive b. -/
def ceilDiv (a b : Nat) : Nat := (a + b - 1) / b

/-- Round-half-up of a / b: floor((2a + b) / (2b)). -/
def roundHalfUp (a b : Nat) : Nat := (2 * a + b) / (2 * b)

/-- A value replaced by the nearest end of its range lo..hi. -/
def clampTo (lo hi x : Nat) : Nat := if x < lo then lo else if hi < x then hi else x

/-- One more, stopping at `top`. -/
def bumpTo (top x : Nat) : Nat := if x < top then x + 1 else top

/-! ## Station seconds (chapter 4, introduction) -/

/-- The span of the day number in seconds. -/
def ring : Nat := 65536 * 86400

/-- a - b modulo the span. -/
def ringSub (a b : Nat) : Nat := (a % ring + ring - b % ring) % ring

/-- a + b modulo the span. -/
def ringAdd (a b : Nat) : Nat := (a + b) % ring

/-- Second a is later than second b. -/
def later (a b : Nat) : Bool := decide (0 < ringSub a b) && decide (ringSub a b < 32768 * 86400)

/-- The station second of a day and second of day. -/
def secondOf (day sec : Nat) : Nat := day * 86400 + sec

/-- The present station second. -/
def State.now (s : State) : Nat := secondOf s.clk.day s.clk.sec

/-! ## The items of the hall -/

/-- TX1 to TX16 in ascending order. -/
def allTx : List TxId := List.finRange 16

/-- AN1 to AN40 in ascending order. -/
def allAnt : List AntId := List.finRange 40

/-- Z1 to Z8 in ascending order. -/
def allZones : List ZoneId := List.finRange 8

/-- Apply an operation for each transmitter in ascending order. -/
def State.eachTx (f : TxId → State → State) (s : State) : State := allTx.foldl (fun t n => f n t) s

/-- Apply an operation for each item of a list, in its order. -/
def State.each {α : Type} (l : List α) (f : α → State → State) (s : State) : State := l.foldl (fun t x => f x t) s

/-! ## HDS -/

/-- The record of TXn, or none while it is undefined (R1). -/
def State.txDef (s : State) (n : TxId) : Option TxDef := s.hds.tx[n]

/-- The record of ANa, or none while it is undefined (R1). -/
def State.antDef (s : State) (a : AntId) : Option AntDef := s.hds.ant[a]

/-- TXn is defined. -/
def State.txDefined (s : State) (n : TxId) : Bool := (s.txDef n).isSome

/-- ANa is defined. -/
def State.antDefined (s : State) (a : AntId) : Bool := (s.antDef a).isSome

/-- The defined transmitters in ascending order. -/
def State.definedTx (s : State) : List TxId := allTx.filter s.txDefined

/-- The defined antennas in ascending order. -/
def State.definedAnt (s : State) : List AntId := allAnt.filter s.antDefined

/-- BDa is defined (R5): ANa is defined with BEAMS of 2 or more. -/
def State.beamDefined (s : State) (a : AntId) : Bool :=
  match s.antDef a with
  | some d => decide (2 ≤ d.beams)
  | none => false

/-- The effective members of a trim group (R8): its listed members that are defined. -/
def State.effective (s : State) (g : GroupId) : List TxId := (s.hds.hall.groups[g]).filter s.txDefined

/-! ## Actuators (section 8.1) -/

/-- The bus address of an actuator. -/
def addrOf : ActId → Nat
  | .row n => num n
  | .sel a => 16 + num a
  | .beam a => 56 + num a

/-- The actuator at a bus address, none for 0 and for addresses above 96. -/
def actOf (k : Nat) : Option ActId :=
  if k ≤ 16 then (itemOf 16 k).map .row
  else if k ≤ 56 then (itemOf 40 (k - 16)).map .sel
  else (itemOf 40 (k - 56)).map .beam

/-- Every actuator in ascending address order. -/
def allAct : List ActId := allTx.map .row ++ allAnt.map .sel ++ allAnt.map .beam

/-- The actuator table entry (R146). -/
def State.entry (s : State) : ActId → Option ActEntry
  | .row n => s.swb.row[n]
  | .sel a => s.swb.sel[a]
  | .beam a => s.swb.beam[a]

/-- Write an actuator table entry. -/
def State.setEntry (act : ActId) (e : Option ActEntry) (s : State) : State :=
  match act with
  | .row n => { s with swb := { s.swb with row := s.swb.row.set n e } }
  | .sel a => { s with swb := { s.swb with sel := s.swb.sel.set a e } }
  | .beam a => { s with swb := { s.swb with beam := s.swb.beam.set a e } }

/-- Change the table entry of a defined actuator. -/
def State.updEntry (act : ActId) (f : ActEntry → ActEntry) (s : State) : State :=
  s.setEntry act ((s.entry act).map f)

/-- The actuator is defined (R5), so it has a table entry. -/
def State.actDefined (s : State) (act : ActId) : Bool := (s.entry act).isSome

/-- The actuator's status is FAULT. -/
def State.actFaulted (s : State) (act : ActId) : Bool :=
  match s.entry act with
  | some e => match e.status with
    | .fault _ => true
    | _ => false
  | none => false

/-- The travel timeout of an actuator in ms (R146). -/
def State.travelMs (s : State) : ActId → Nat
  | .row n => match s.txDef n with
    | some d => d.rowTimeout * 1000
    | none => 0
  | .sel a => match s.antDef a with
    | some d => d.selTimeout * 1000
    | none => 0
  | .beam a => match s.antDef a with
    | some d => d.beamTimeout * 1000
    | none => 0

/-! ## The selector table (R127) -/

/-- The recorded position of an actuator. -/
def State.pos (s : State) : ActId → Pos
  | .row n => s.amx.rowPos[n]
  | .sel a => s.amx.selPos[a]
  | .beam a => s.amx.beamPos[a]

/-- Write a recorded position. -/
def State.setPos (act : ActId) (q : Pos) (s : State) : State :=
  match act with
  | .row n => { s with amx := { s.amx with rowPos := s.amx.rowPos.set n q } }
  | .sel a => { s with amx := { s.amx with selPos := s.amx.selPos.set a q } }
  | .beam a => { s with amx := { s.amx with beamPos := s.amx.beamPos.set a q } }

/-! ## Records of the other blocks -/

/-- The context of TXn (R80). -/
def State.ctx (s : State) (n : TxId) : Ctx := s.txs.ctx[n]

/-- Change the context of TXn. -/
def State.updCtx (n : TxId) (f : Ctx → Ctx) (s : State) : State :=
  { s with txs := { s.txs with ctx := s.txs.ctx.set n (f s.txs.ctx[n]) } }

/-- The plan of TXn, or none (R106). -/
def State.plan (s : State) (n : TxId) : Option Plan := s.csq.plans[n]

/-- Write the plan of TXn. -/
def State.setPlan (n : TxId) (p : Option Plan) (s : State) : State :=
  { s with csq := { s.csq with plans := s.csq.plans.set n p } }

/-- Change the plan of TXn where one is present. -/
def State.updPlan (n : TxId) (f : Plan → Plan) (s : State) : State := s.setPlan n ((s.plan n).map f)

/-- The protection record of TXn (R161). -/
def State.prot (s : State) (n : TxId) : Prot := s.rfp.prot[n]

/-- Change the protection record of TXn. -/
def State.updProt (n : TxId) (f : Prot → Prot) (s : State) : State :=
  { s with rfp := { s.rfp with prot := s.rfp.prot.set n (f s.rfp.prot[n]) } }

/-- The recent-trip list of ANa (R173). -/
def State.trips (s : State) (a : AntId) : List (TxId × Nat) := s.rfp.trips[a]

/-- Write the recent-trip list of ANa. -/
def State.setTrips (a : AntId) (l : List (TxId × Nat)) (s : State) : State :=
  { s with rfp := { s.rfp with trips := s.rfp.trips.set a l } }

/-- The run-time record of ANa (R126). -/
def State.run (s : State) (a : AntId) : Option AntRun := s.amx.ant[a]

/-- Write the run-time record of ANa. -/
def State.setRun (a : AntId) (r : Option AntRun) (s : State) : State :=
  { s with amx := { s.amx with ant := s.amx.ant.set a r } }

/-- Change the run-time record of ANa where it has one. -/
def State.updRun (a : AntId) (f : AntRun → AntRun) (s : State) : State := s.setRun a ((s.run a).map f)

/-- The occurrence records of TXn (R60). -/
def State.occ (s : State) (n : TxId) : Occ := s.sch.occ[n]

/-- Change the occurrence records of TXn. -/
def State.updOcc (n : TxId) (f : Occ → Occ) (s : State) : State :=
  { s with sch := { s.sch with occ := s.sch.occ.set n (f s.sch.occ[n]) } }

/-- A port. -/
def State.port (s : State) : Port → PortState
  | .a => s.lnk.a
  | .p => s.lnk.p

/-- Change a port. -/
def State.updPort (p : Port) (f : PortState → PortState) (s : State) : State :=
  match p with
  | .a => { s with lnk := { s.lnk with a := f s.lnk.a } }
  | .p => { s with lnk := { s.lnk with p := f s.lnk.p } }

/-- Write the hall state without a notice. -/
def State.withHall (h : HallState) (s : State) : State := { s with txs := { s.txs with hall := h } }

/-! ## Notices (R192) -/

/-- The entry is an ordinary notice. -/
def QEntry.ordinary : QEntry → Bool
  | .notice .. => true
  | .overflow .. => false

/-- Count one more discard in the overflow marker, stopping at 65535. -/
def QEntry.bump : QEntry → QEntry
  | .overflow d t k => .overflow d t (bumpTo 65535 k)
  | e => e

/-- The notice queue after a posting (R192). -/
def enqueue (day sec : Nat) (nt : Notice) (q : List QEntry) : List QEntry :=
  if (q.filter QEntry.ordinary).length < 63 then q ++ [.notice day sec nt]
  else if q.all QEntry.ordinary then q ++ [.overflow day sec 1]
  else q.map QEntry.bump

/-- Post a notice to both notice queues, stamped with station time (R25, R192). -/
def State.post (nt : Notice) (s : State) : State :=
  { s with lnk :=
    { a := { s.lnk.a with queue := enqueue s.clk.day s.clk.sec nt s.lnk.a.queue }
      p := { s.lnk.p with queue := enqueue s.clk.day s.clk.sec nt s.lnk.p.queue } } }

/-- A change of hall state, which posts HALL-STATE (section 5.8). -/
def State.toHall (h : HallState) (c : HallCause) (s : State) : State :=
  (s.withHall h).post (.hallState s.txs.hall h c)

/-! ## Timer channels (section 2.4) -/

/-- The mode of a channel (table of section 2.4). -/
def ChanId.mode : ChanId → ChanMode
  | .tx _ .ramp => .periodic
  | .tx _ .silence => .retrigger
  | .gap _ => .retrigger
  | _ => .single

/-- One channel of a transmitter. -/
def TxTimers.get (t : TxTimers) : TxChan → Chan
  | .warmUp => t.warmUp
  | .tune => t.tune
  | .ramp => t.ramp
  | .rfOff => t.rfOff
  | .accept => t.accept
  | .silence => t.silence
  | .recycle => t.recycle

/-- Write one channel of a transmitter. -/
def TxTimers.put (c : TxChan) (v : Chan) (t : TxTimers) : TxTimers :=
  match c with
  | .warmUp => { t with warmUp := v }
  | .tune => { t with tune := v }
  | .ramp => { t with ramp := v }
  | .rfOff => { t with rfOff := v }
  | .accept => { t with accept := v }
  | .silence => { t with silence := v }
  | .recycle => { t with recycle := v }

/-- A channel of the controller. -/
def Timers.get (t : Timers) : ChanId → Chan
  | .tx n c => (t.tx[n]).get c
  | .travel (.row n) => t.row[n]
  | .travel (.sel a) => t.sel[a]
  | .travel (.beam a) => t.beam[a]
  | .busAnswer => t.busAnswer
  | .gap .a => t.gapA
  | .gap .p => t.gapP
  | .sync => t.sync

/-- Write a channel of the controller. -/
def Timers.put (ch : ChanId) (v : Chan) (t : Timers) : Timers :=
  match ch with
  | .tx n c => { t with tx := t.tx.set n ((t.tx[n]).put c v) }
  | .travel (.row n) => { t with row := t.row.set n v }
  | .travel (.sel a) => { t with sel := t.sel.set a v }
  | .travel (.beam a) => { t with beam := t.beam.set a v }
  | .busAnswer => { t with busAnswer := v }
  | .gap .a => { t with gapA := v }
  | .gap .p => { t with gapP := v }
  | .sync => { t with sync := v }

/-- A channel's record. -/
def State.chan (s : State) (ch : ChanId) : Chan := s.tim.get ch

/-- Write a channel's record. -/
def State.setChan (ch : ChanId) (v : Chan) (s : State) : State := { s with tim := s.tim.put ch v }

/-- A start from the owner (R28). -/
def State.startChan (ch : ChanId) (ms : Nat) (s : State) : State := s.setChan ch ⟨true, ms, ms⟩

/-- A stop from the owner (R28). -/
def State.stopChan (ch : ChanId) (s : State) : State := s.setChan ch .stopped

/-- A retrigger (R29): a running channel returns to its full duration, a stopped one is not started. -/
def State.retrigger (ch : ChanId) (s : State) : State :=
  let c := s.chan ch
  if c.running then s.setChan ch { c with remaining := c.duration } else s

/-- The order is a DRIVE. -/
def Order.isDrive : Order → Bool
  | .drive _ => true
  | _ => false

/-- The gate of a transmitter's ramp channel (R91): closed while a DRIVE order is outstanding or the plan is at hold. -/
def rampGate (c : Ctx) (p : Option Plan) : Bool :=
  !(match c.outstanding with
    | some o => o.order.isDrive
    | none => false) &&
  !(match p with
    | some q => q.atHold
    | none => false)

/-- A channel's gate (table of section 2.4): OPEN (true) at all times where it has no gate source. -/
def State.gateOpen (s : State) : ChanId → Bool
  | .tx n .ramp => rampGate (s.ctx n) (s.plan n)
  | .sync => s.pins.sync
  | _ => true

/-- A channel after k ms: a running channel with its gate OPEN counts down (R28, R31). -/
def Chan.tick (k : Nat) (isOpen : Bool) (c : Chan) : Chan :=
  if c.running && isOpen then { c with remaining := c.remaining - k } else c

/-- A transmitter's channels after k ms. -/
def TxTimers.tick (k : Nat) (rampOpen : Bool) (t : TxTimers) : TxTimers where
  warmUp := t.warmUp.tick k true
  tune := t.tune.tick k true
  ramp := t.ramp.tick k rampOpen
  rfOff := t.rfOff.tick k true
  accept := t.accept.tick k true
  silence := t.silence.tick k true
  recycle := t.recycle.tick k true

/-- k ms pass on the oscillator: every running channel with its gate OPEN counts down, and the oscillator's phase moves on.
DESIGN CHOICE (log 1): time passes in the idle step and in the commands that carry an instant. -/
def State.elapse (k : Nat) (s : State) : State :=
  { s with
    clk := { s.clk with phase := s.clk.phase + k }
    tim :=
      { tx := Vector.ofFn fun n : Fin 16 => (s.tim.tx[n]).tick k (s.gateOpen (.tx n .ramp))
        row := Vector.ofFn fun i : Fin 16 => (s.tim.row[i]).tick k true
        sel := Vector.ofFn fun i : Fin 40 => (s.tim.sel[i]).tick k true
        beam := Vector.ofFn fun i : Fin 40 => (s.tim.beam[i]).tick k true
        busAnswer := s.tim.busAnswer.tick k true
        gapA := s.tim.gapA.tick k true
        gapP := s.tim.gapP.tick k true
        sync := s.tim.sync.tick k s.pins.sync } }

/-- The expiry of a channel (R28, R30): none where the channel is stopped or frozen, so that no expiry is delivered.
Otherwise the time still remaining passes, and the channel stops, or reloads where it is PERIODIC. -/
def State.expire (ch : ChanId) (s : State) : Option State :=
  let c := s.chan ch
  if c.running && s.gateOpen ch then
    let t := s.elapse c.remaining
    some (match ch.mode with
      | .periodic => t.setChan ch ⟨true, c.duration, c.duration⟩
      | _ => t.stopChan ch)
  else none

/-- What step does with no command waiting: one millisecond passes. DESIGN CHOICE (log 2). -/
def State.idle (s : State) : State := s.elapse 1

/-! ## Views of the matrix -/

/-- TXn owns ANa. -/
def AntRun.ownedBy (n : TxId) (r : AntRun) : Bool :=
  match r.owner with
  | some o => decide (o.tx = n)
  | none => false

/-- TXn has a claim in the queue of ANa. -/
def AntRun.queues (n : TxId) (r : AntRun) : Bool := r.queue.any fun c => decide (c.tx = n)

/-- The antenna TXn owns, or none: its path (R126). -/
def State.owned (s : State) (n : TxId) : Option AntId :=
  allAnt.find? fun a => match s.run a with
    | some r => r.ownedBy n
    | none => false

/-- The antenna on which TXn holds a queued claim, or none: its reservation (R126). -/
def State.reservation (s : State) (n : TxId) : Option AntId :=
  allAnt.find? fun a => match s.run a with
    | some r => r.queues n
    | none => false

/-- The ownership of ANa. -/
def State.owner (s : State) (a : AntId) : Option Own :=
  match s.run a with
  | some r => r.owner
  | none => none

/-- The zone of ANa is OPEN. -/
def State.zoneOpenAt (s : State) (a : AntId) : Bool :=
  match s.antDef a with
  | some d => decide (s.amx.zone[d.zone] = some true)
  | none => false

/-- The service of ANa is IN_SERVICE. -/
def State.inService (s : State) (a : AntId) : Bool :=
  match s.run a with
  | some r => decide (r.service = .inService)
  | none => false

/-- The selectors that stand at TXn (section 10.2), in ascending antenna order. -/
def State.standing (s : State) (n : TxId) : List AntId :=
  s.definedAnt.filter fun a => decide (s.pos (.sel a) = .atp (.tx n))

/-- The row switch of TXn is recorded AT a position. -/
def State.rowAt (s : State) (n : TxId) (p : Place) : Bool := decide (s.pos (.row n) = .atp p)

/-- The hall is RUNNING or HALTING. -/
def State.hallRuns (s : State) : Bool := decide (s.txs.hall = .running) || decide (s.txs.hall = .halting)

/-- The path of TXn is fully confirmed (R88). DESIGN CHOICE (log 87): of two selectors AT its row, either may confirm it. -/
def State.pathConfirmed (s : State) (n : TxId) : Bool :=
  s.rowAt n .load ||
  (s.rowAt n .matrix &&
    ((s.standing n).any fun a => s.inService a && !s.zoneOpenAt a) &&
    s.hallRuns && !s.pins.emergency)

/-! ## The context state -/

/-- The context of TXn takes a state. A change clears what counts from the last change of context state (R93, R96). -/
def State.toState (n : TxId) (st : CtxState) (s : State) : State :=
  s.updCtx n fun c =>
    if c.state = st then c
    else { c with
      state := st
      declined := false
      sentSince := .none
      cause := none
      tripEnded := false
      clearing := []
      tuneLate := false
      adopted := c.adopted && decide (st = .onAir) }

/-- The context of TXn becomes FAULTED with a cause. -/
def State.toFaulted (n : TxId) (f : FaultCause) (s : State) : State :=
  (s.toState n .faulted).updCtx n fun c => { c with cause := some f }

/-- Stop the ramp of TXn (R91). -/
def State.stopRamp (n : TxId) (s : State) : State :=
  (s.stopChan (.tx n .ramp)).updCtx n fun c => { c with ramp := none }

end Sys2Proof.Machine
end

