-- ==== Sys2Proof/Machine/Records.lean ====
section
/-! DEFINITION. SCH's occurrence records and booking list: reading them, and each change of status with the notice R61 and
R76 give it. -/

namespace Sys2Proof.Machine
open Sys2Proof

/-- The record is in service (R60): PENDING or LIVE. -/
def OccRec.inService (r : OccRec) : Bool := decide (r.status = .pending) || decide (r.status = .live)

/-- The record of TXn that names a target (R60), the current one first. -/
def State.recordOf (s : State) (n : TxId) (id : TargetId) : Option OccRec :=
  match (s.occ n).cur with
  | some r => if r.id = id then some r else (s.occ n).prev.filter fun q => decide (q.id = id)
  | none => (s.occ n).prev.filter fun q => decide (q.id = id)

/-- The target is recorded (R60). -/
def State.recorded (s : State) (n : TxId) (id : TargetId) : Bool := (s.recordOf n id).isSome

/-- The target is recorded and in service (R60). -/
def State.inServiceRec (s : State) (n : TxId) (id : TargetId) : Bool :=
  match s.recordOf n id with
  | some r => r.inService
  | none => false

/-- The target is recorded and finished (R60). -/
def State.finished (s : State) (n : TxId) (id : TargetId) : Bool :=
  match s.recordOf n id with
  | some r => !r.inService
  | none => false

/-- The record of TXn that names a target is PENDING. -/
def State.pendingRec (s : State) (n : TxId) (id : TargetId) : Bool :=
  match s.recordOf n id with
  | some r => decide (r.status = .pending)
  | none => false

/-- The current record of TXn where it is LIVE. -/
def State.liveRec (s : State) (n : TxId) : Option OccRec :=
  (s.occ n).cur.filter fun r => decide (r.status = .live)

/-- Creating a record (R60): the current record becomes the previous one. -/
def State.newRecord (n : TxId) (r : OccRec) (s : State) : State := s.updOcc n fun o => ⟨some r, o.cur⟩

/-- Change the record that names a target. -/
def Occ.change (id : TargetId) (f : OccRec → OccRec) (o : Occ) : Occ :=
  match o.cur with
  | some r => if r.id = id then { o with cur := some (f r) }
    else { o with prev := o.prev.map fun q => if q.id = id then f q else q }
  | none => { o with prev := o.prev.map fun q => if q.id = id then f q else q }

/-- Set the status of the record that names a target. -/
def State.setStatus (n : TxId) (id : TargetId) (st : OccStatus) (s : State) : State :=
  s.updOcc n (Occ.change id fun r => { r with status := st })

/-- The booking leaves the list with BOOKING-ENDED (R76); its ID becomes free. -/
def State.bookingLeaves (id : Nat) (cause : BookEnd) (s : State) : State :=
  match s.sch.bookings.find? fun b => decide (b.id = id) with
  | some b =>
    ({ s with sch := { s.sch with bookings := s.sch.bookings.filter fun x => !decide (x.id = id) } }).post
      (.bookingEnded b.id b.tx b.path b.tag cause)
  | none => s

/-- The booking a target names leaves the list, where it still stands there with that start second (R60, R76). -/
def State.targetBookingLeaves (id : TargetId) (cause : BookEnd) (s : State) : State :=
  match id with
  | .booking k start =>
    if s.sch.bookings.any fun b => decide (b.id = k) && decide (b.start = start) then s.bookingLeaves k cause else s
  | .entry .. => s

/-- CSQ reports that the plan toward a target has reached DONE: a PENDING record becomes LIVE (R61, R116). -/
def State.recordLive (n : TxId) (id : TargetId) (s : State) : State :=
  match s.recordOf n id with
  | some r =>
    if r.status = .pending then
      (s.updOcc n (Occ.change id fun q => { q with status := .live, onAir := some s.now })).post
        (.entryStarted n id r.tag s.now (s.prot n).clamped)
    else s
  | none => s

/-- CSQ reports a plan abandoned, or a transmitter taken off the air, with a cause (R61, R76, R123). -/
def State.recordLost (n : TxId) (id : TargetId) (cause : Cause) (s : State) : State :=
  match s.recordOf n id with
  | some r =>
    if r.inService then
      if cause = .preempted then
        ((s.setStatus n id .preempted).post (.entryPreempted n id r.tag)).targetBookingLeaves id .preempted
      else
        let how := OccStatus.missed (.abandoned cause)
        ((s.setStatus n id how).post
          (if r.status = .live then .entryEnded n id r.tag how else .entryMissed n id r.tag how)).targetBookingLeaves id
          (.missed (.abandoned cause))
    else s
  | none => s

/-- A record in service becomes DONE with a reason (R61): ENTRY-ENDED is posted from LIVE, nothing from PENDING. -/
def State.recordDone (n : TxId) (id : TargetId) (why : DoneReason) (s : State) : State :=
  match s.recordOf n id with
  | some r =>
    if r.inService then
      let t := s.setStatus n id (.done why)
      if r.status = .live then t.post (.entryEnded n id r.tag (.done why)) else t
    else s
  | none => s

/-- The booking is named by a LIVE record (R77). -/
def State.bookingLive (s : State) (b : Booking) : Bool :=
  match s.recordOf b.tx (.booking b.id b.start) with
  | some r => decide (r.status = .live)
  | none => false

/-- The bookings that leave as the source of TXn becomes AUTO (R77): those no LIVE record names. -/
def State.bookingsToEnd (s : State) (n : TxId) : List Booking :=
  s.sch.bookings.filter fun b => decide (b.tx = n) && !s.bookingLive b

/-- The source of TXn has become AUTO: its bookings leave, but for a LIVE one (R77). -/
def State.endBookings (n : TxId) (s : State) : State :=
  (s.bookingsToEnd n).foldl (fun t b => t.bookingLeaves b.id .source) s

/-- The interval from `start` to `finish` (none: open-ended) covers second `at_` (section 4.1). -/
def covers (start : Nat) (finish : Option Nat) (at_ : Nat) : Bool :=
  match finish with
  | some e => decide (ringSub at_ start < ringSub e start)
  | none => decide (ringSub at_ start < 32768 * 86400)

/-- The interval has ended at second `at_`: its end is at or before it. An open-ended interval never ends. -/
def hasEnded (finish : Option Nat) (at_ : Nat) : Bool :=
  match finish with
  | some e => !later e at_
  | none => false

end Sys2Proof.Machine
end

