-- ==== Sys2Proof/Machine/Matrix.lean ====
section
/-! DEFINITION. AMX's grants, offers, withdrawals and the end of an ownership (sections 7.2 and 7.3), and the removal of
held moves (R134). -/

namespace Sys2Proof.Machine
open Sys2Proof

/-- The ownership kind a claim kind gives (R133). -/
def ClaimKind.own : ClaimKind → OwnKind
  | .schedule => .schedule
  | .booking => .booking

/-- CSQ is told that a claim was granted (R114): the standing becomes GRANTED and CLAIM ends. -/
def Plan.granted (p : Plan) : Plan := { p with claim := .granted, phases := { p.phases with claim := .ended } }

/-- An ownership of ANa begins (R133): the owner never stands in its own antenna's queue (R129). -/
def State.takeAnt (a : AntId) (o : Own) (s : State) : State :=
  s.updRun a fun r => { r with owner := some o, queue := r.queue.filter fun c => !decide (c.tx = o.tx) }

/-- A transmitter becomes the owner with its claim's kind, priority and claim second, and CLAIM-GRANTED is posted (R128,
R130). -/
def State.grant (a : AntId) (c : Claim) (s : State) : State :=
  (s.takeAnt a ⟨c.tx, c.kind.own, c.priority, c.sec⟩).post (.claimGranted c.tx a)

/-- The conditions of a grant to the head of a queue (R130). -/
def State.mayGrant (s : State) (a : AntId) (r : AntRun) (c : Claim) : Bool :=
  decide (r.service = .inService) && r.owner.isNone && !s.zoneOpenAt a && (s.owned c.tx).isNone

/-- AMX offers an antenna to the head of its queue (R130). -/
def State.offer (a : AntId) (s : State) : State :=
  match s.run a with
  | some r => match r.queue with
    | c :: rest =>
      if s.mayGrant a r c then
        ((s.updRun a fun q => { q with queue := rest }).grant a c).updPlan c.tx Plan.granted
      else s
    | [] => s
  | none => s

/-- The claim of TXn leaves the queue of ANa; where it headed the queue, the antenna is offered to the new head (R131). -/
def State.withdrawFrom (a : AntId) (n : TxId) (s : State) : State :=
  match s.run a with
  | some r =>
    let t := s.updRun a fun q => { q with queue := q.queue.filter fun c => !decide (c.tx = n) }
    if (r.queue.head?.any fun c => decide (c.tx = n)) then t.offer a else t
  | none => s

/-- The reservation of TXn is withdrawn, where it holds one (R131). -/
def State.withdrawClaim (n : TxId) (s : State) : State :=
  match s.reservation n with
  | some a => s.withdrawFrom a n
  | none => s

/-- The transmitter's own reservation is offered for grant (R112 step 3). -/
def State.offerReservation (n : TxId) (s : State) : State :=
  match s.reservation n with
  | some b => s.offer b
  | none => s

/-- The ownership of ANa ends, and the three steps of R112 are taken in order (R127). -/
def State.endOwnership (a : AntId) (s : State) : State :=
  match s.owner a with
  | some o => ((s.updRun a fun r => { r with owner := none }).offer a).offerReservation o.tx
  | none => s

/-- The plans a move superseded are told again: each asks its move anew (R134). -/
def State.retell (h : Held) (s : State) : State :=
  { s with amx := { s.amx with reask := s.amx.reask ++ h.told.map fun x => (x.1, h.act, x.2) } }

/-- Held moves leave the list without being handed (R134). -/
def State.dropHeld (p : Held → Bool) (s : State) : State :=
  let t := { s with amx := { s.amx with held := s.amx.held.filter fun h => !p h } }
  t.each (s.amx.held.filter p) State.retell

/-- The move of an actuator that was handed to SWB ends: its record leaves, and the plans it superseded are told again. -/
def State.endFlight (act : ActId) (s : State) : State :=
  let t := { s with amx := { s.amx with flight := s.amx.flight.filter fun h => !decide (h.act = act) } }
  t.each (s.amx.flight.filter fun h => decide (h.act = act)) State.retell

end Sys2Proof.Machine
end

