-- ==== Sys2Proof/Machine/Changeover.lean ====
section
/-! DEFINITION. CSQ's plans: flags and phase statuses (R107, section 6.2), the end of a phase, DONE, hold points (R118),
abandonment, wind-down and interruption (section 6.6), and the end of a waiting recycle (R172). -/

namespace Sys2Proof.Machine
open Sys2Proof

/-! ## Phases -/

/-- The phases in list order (section 6.2). -/
def allPhases : List Phase :=
  [.warm, .rampdown, .rfOff, .toLoad, .release, .tune, .claim, .pathOut, .toMatrix, .hold, .rampup, .done]

/-- The status of a phase. -/
def Phases.get (p : Phases) : Phase → PStatus
  | .warm => p.warm
  | .rampdown => p.rampdown
  | .rfOff => p.rfOff
  | .toLoad => p.toLoad
  | .release => p.release
  | .tune => p.tune
  | .claim => p.claim
  | .pathOut => p.pathOut
  | .toMatrix => p.toMatrix
  | .hold => p.hold
  | .rampup => p.rampup
  | .done => p.done

/-- Write the status of a phase. -/
def Phases.put (ph : Phase) (v : PStatus) (p : Phases) : Phases :=
  match ph with
  | .warm => { p with warm := v }
  | .rampdown => { p with rampdown := v }
  | .rfOff => { p with rfOff := v }
  | .toLoad => { p with toLoad := v }
  | .release => { p with release := v }
  | .tune => { p with tune := v }
  | .claim => { p with claim := v }
  | .pathOut => { p with pathOut := v }
  | .toMatrix => { p with toMatrix := v }
  | .hold => { p with hold := v }
  | .rampup => { p with rampup := v }
  | .done => { p with done := v }

/-- Every phase WAITING (R107: a plan created while the context is TUNING). -/
def Phases.allWaiting : Phases :=
  ⟨.waiting, .waiting, .waiting, .waiting, .waiting, .waiting, .waiting, .waiting, .waiting, .waiting, .waiting, .waiting⟩

/-- The phase is ENDED or SKIPPED. -/
def Phases.over (p : Phases) (ph : Phase) : Bool := decide (p.get ph = .ended) || decide (p.get ph = .skipped)

/-- Every phase of a list is ENDED or SKIPPED. -/
def Phases.allOver (p : Phases) (l : List Phase) : Bool := l.all p.over

/-- The phase READ-PLAN shows (R106): the first, in list order, not ENDED or SKIPPED. -/
def Plan.phase (p : Plan) : Phase := (allPhases.find? fun ph => !p.phases.over ph).getD .done

/-- The phases that are RUNNING. -/
def Plan.running (p : Plan) : List Phase := allPhases.filter fun ph => decide (p.phases.get ph = .running)

/-- TO_LOAD and the phases before it. -/
def upToLoad : List Phase := [.warm, .rampdown, .rfOff, .toLoad]

/-- The phases a phase depends on (R108). DESIGN CHOICE (log 99): a phase waits too for what the phases it depends on wait for,
where these are SKIPPED. -/
def phaseDeps : Phase → List Phase
  | .warm => []
  | .rampdown => [.warm]
  | .rfOff => [.warm, .rampdown]
  | .toLoad => [.warm, .rampdown, .rfOff]
  | .release => upToLoad
  | .tune => upToLoad
  | .claim => []
  | .pathOut => upToLoad ++ [.release, .claim]
  | .toMatrix => upToLoad ++ [.release, .tune, .claim, .pathOut]
  | .hold => upToLoad ++ [.release, .tune, .claim, .pathOut, .toMatrix]
  | .rampup => upToLoad ++ [.release, .tune, .claim, .pathOut, .toMatrix, .hold]
  | .done => upToLoad ++ [.release, .tune, .claim, .pathOut, .toMatrix, .hold, .rampup]

/-- An AFTER_TUNE hold stands in the way of TO_MATRIX and RAMPUP (R108, R118). -/
def Plan.holdBars (p : Plan) (ph : Phase) : Bool :=
  decide (p.holdPoint = .afterTune) && p.setp.isSome && !p.holdReleased &&
    (decide (ph = .toMatrix) || decide (ph = .rampup))

/-- A WAITING phase may become RUNNING (R108); none may while flags wait for a retune (R107) or a retarget is pending
(R120: CSQ "asks for no further phase"). -/
def Plan.mayBegin (p : Plan) (ph : Phase) : Bool :=
  decide (p.phases.get ph = .waiting) && p.phases.allOver (phaseDeps ph) && !p.holdBars ph && !p.deferFlags &&
    p.pend.isNone

/-! ## Flags and phase statuses from the present state (R107, section 6.2) -/

/-- An RF-OFF of TXn is in hand (R110): deferred, outstanding, or sent and not yet confirmed. -/
def State.rfOffInHand (s : State) (n : TxId) : Bool :=
  ((s.ctx n).outstanding.any fun o => decide (o.order = .rfOff)) ||
  ((s.ctx n).deferred.any fun d => decide (d.order = .rfOff)) ||
  (s.chan (.tx n .rfOff)).running

/-- An RF-OFF of TXn is outstanding or deferred (R95, R104). -/
def State.rfOffOnLine (s : State) (n : TxId) : Bool :=
  ((s.ctx n).outstanding.any fun o => decide (o.order = .rfOff)) ||
  ((s.ctx n).deferred.any fun d => decide (d.order = .rfOff))

/-- WAITING where needed, SKIPPED where not. -/
def needed (b : Bool) : PStatus := if b then .waiting else .skipped

/-- The target path of a setpoint: none for LOAD and for NONE. -/
def targetPath (t : Option Setpoint) : Option AntId := t.bind (·.path)

/-- needs-retune (R107). -/
def State.needsRetune (s : State) (n : TxId) (t : Option Setpoint) : Bool :=
  match t with
  | some q => !decide ((s.ctx n).tuned = some q.freq)
  | none => false

/-- needs-release (R107). -/
def State.needsRelease (s : State) (n : TxId) (t : Option Setpoint) : Bool :=
  match s.owned n with
  | some a => !decide (targetPath t = some a)
  | none => false

/-- needs-path (R107). -/
def State.needsPath (s : State) (n : TxId) (t : Option Setpoint) : Bool :=
  match targetPath t with
  | some a => !decide (s.owned n = some a)
  | none => false

/-- needs-beam (R107). -/
def State.needsBeam (s : State) (t : Option Setpoint) : Bool :=
  match t with
  | some q => match q.path with
    | some a => s.beamDefined a && !decide (s.pos (.beam a) = .atp (.beam q.beam))
    | none => false
  | none => false

/-- TO_LOAD is needed (section 6.2). -/
def State.needsToLoad (s : State) (n : TxId) (t : Option Setpoint) (anyFlag : Bool) : Bool :=
  match s.pos (.row n) with
  | .travelling .load => true
  | .atp .load => false
  | _ => (targetPath t).isNone || anyFlag

/-- A ramp down of TXn is running. -/
def State.rampingDown (s : State) (n : TxId) : Bool :=
  match (s.ctx n).ramp with
  | some r => decide (r.kind = .down)
  | none => false

/-- The plan with its flags and phase statuses computed from the present state (R107); where the context is TUNING they
wait until the retune in progress ends. DESIGN CHOICE (log 100): until then the flags show what they were, no in a new plan. -/
def State.recompute (s : State) (n : TxId) (p : Plan) : Plan :=
  if (s.ctx n).state = .tuning then
    { p with deferFlags := true, phases := .allWaiting, awaiting := [] }
  else
    let retune := s.needsRetune n p.setp
    let release := s.needsRelease n p.setp
    let path := s.needsPath n p.setp
    let beam := s.needsBeam p.setp
    let toLoad := s.needsToLoad n p.setp (retune || release || path || beam)
    let c := s.ctx n
    let occ := p.setp.isSome
    { p with
      deferFlags := false
      awaiting := []
      needsRetune := retune
      needsRelease := release
      needsPath := path
      needsBeam := beam
      phases :=
        { warm := needed (occ && (decide (c.state = .dark) || decide (c.state = .warming)))
          rampdown := if decide (c.rf = .on) && !s.rfOffInHand n then
              (if s.rampingDown n then .running else .waiting) else .skipped
          rfOff := needed (!decide (c.rf = .off))
          toLoad := needed toLoad
          release := needed release
          tune := needed retune
          claim := needed path
          pathOut := needed (path || beam)
          toMatrix := needed ((targetPath p.setp).isSome && (!s.rowAt n .matrix || toLoad))
          hold := needed (occ && decide (p.holdPoint = .beforeRf))
          rampup := needed occ
          done := .waiting } }

/-! ## Leaving TRIPPED, and the end of a waiting recycle -/

/-- The state a context leaves TRIPPED for, by its last unit report (R95; log 14). -/
def offState (r : Option StateReport) : CtxState :=
  match r with
  | some q => match q.unit with
    | .tuned => .ready
    | .tripped => if q.freq.isSome then .ready else .standby
    | _ => .standby
  | none => .standby

/-- A recycle that has ended without a return lets the context leave TRIPPED once RF is OFF (section 5.4, R95). -/
def State.leaveTripped (n : TxId) (s : State) : State :=
  let c := s.ctx n
  if c.state = .tripped ∧ c.tripEnded = true ∧ c.rf = .off then s.toState n (offState c.last) else s

/-- RFP ends the recycle of TXn without a return (R95, R169). -/
def State.endTrip (n : TxId) (s : State) : State :=
  (s.updCtx n fun c => { c with tripEnded := decide (c.state = .tripped) || c.tripEnded }).leaveTripped n

/-- A WAITING recycle ends before its expiry (R172). -/
def State.stopRecycle (n : TxId) (s : State) : State :=
  if (s.prot n).waiting then
    ((s.stopChan (.tx n .recycle)).updProt n fun p => { p with waiting := false }).endTrip n
  else s

/-! ## The end of a plan -/

/-- The plan of TXn is removed, its reservation and its held moves withdrawn (R122, R131, R134). -/
def State.removePlan (n : TxId) (s : State) : State :=
  let t := ((s.withdrawClaim n).dropHeld fun h => decide (h.asker = .plan n)).setPlan n none
  { t with amx := { t.amx with reask := t.amx.reask.filter fun x => !decide (x.1 = n) } }

/-- The ownership of TXn takes the kind and priority of a setpoint (R116, R124). -/
def State.ownAs (n : TxId) (t : Setpoint) (s : State) : State :=
  match s.owned n with
  | some a => s.updRun a fun r =>
      { r with owner := r.owner.map fun o => { o with kind := t.kind.own, priority := t.priority } }
  | none => s

/-- A plan reaches DONE (R116): its occurrence is reported to SCH and the plan is removed. -/
def State.planDone (n : TxId) (p : Plan) (s : State) : State :=
  let t := match p.setp with
    | some q => s.ownAs n q
    | none => s
  match p.target with
  | some id => (t.recordLive n id).removePlan n
  | none => t.removePlan n

/-- A plan has come to its AFTER_TUNE hold (R118). -/
def Plan.atAfterTune (p : Plan) : Bool :=
  decide (p.holdPoint = .afterTune) && p.setp.isSome && !p.atHold && !p.holdReleased &&
    (decide (p.phases.tune = .ended) || (decide (p.phases.tune = .skipped) && p.phases.allOver upToLoad))

/-- A plan reaches its hold: at-hold becomes yes and HOLD-REACHED is posted (R118). -/
def State.reachHold (n : TxId) (p : Plan) (s : State) : State :=
  (s.setPlan n (some { p with atHold := true })).post (.holdReached n p.target p.holdPoint p.running)

/-- What follows a change of phase statuses: DONE once every other phase is over (R108), or the AFTER_TUNE hold (R118). -/
def State.settlePlan (n : TxId) (s : State) : State :=
  match s.plan n with
  | some p =>
    if p.deferFlags || p.pend.isSome then s
    else if p.phases.allOver (phaseDeps .done) then s.planDone n p
    else if p.atAfterTune then s.reachHold n p
    else s
  | none => s

/-- A RUNNING phase of the plan of TXn ends (R108). -/
def State.endPhase (n : TxId) (ph : Phase) (s : State) : State :=
  match s.plan n with
  | some p =>
    if p.phases.get ph = .running then
      (s.setPlan n (some { p with phases := p.phases.put ph .ended })).settlePlan n
    else s
  | none => s

/-! ## Abandonment, wind-down, interruption (section 6.6) -/

/-- The conditions of a wind-down (R122). -/
def State.windable (s : State) (n : TxId) : Bool :=
  (s.ctx n).lineUp && !decide ((s.ctx n).source = .localKey) && !decide ((s.ctx n).state = .faulted) &&
    !decide (s.txs.hall = .emergency)

/-- A plan toward NONE with its flags not yet computed, and the hold point it carries (R106). DESIGN CHOICE (log 74): a wind-down has
claim standing NONE, where its plan stood GRANTED too. -/
def Plan.toNone (cause : Option Cause) (windDown : Bool) (predicted : Nat) (hp : HoldPoint) : Plan where
  target := none
  setp := none
  needsRetune := false
  needsRelease := false
  needsPath := false
  needsBeam := false
  phases := .allWaiting
  claim := .none
  planned := none
  predicted := predicted
  holdPoint := hp
  atHold := false
  pend := none
  windDown := windDown
  cause := cause
  claimSec := none
  claimAnt := none
  holdReleased := false
  deferFlags := false
  awaiting := []

/-- The planned duration toward NONE: a free value (log 23). -/
def State.noneDuration (s : State) : Nat := Config.freeDuration s.free

/-- One free value has been used for a changeover toward NONE (log 23). -/
def State.drawnDuration (s : State) : State := { s with free := s.free + 1 }

/-- A wind-down stands as the plan of TXn (R122), with the hold point of the plan it was (R106, R120) or, where it is created,
of the transmitter's setting (R117, R123). -/
def State.windDown (n : TxId) (cause : Cause) (predicted : Nat) (hp : HoldPoint) (s : State) : State :=
  (s.setPlan n (some (s.recompute n (.toNone (some cause) true predicted hp)))).settlePlan n

/-- A cause that removes a wind-down, or leaves an interrupted transmitter without a plan (R122, R123). -/
def Cause.hard : Cause → Bool
  | .lineLost => true
  | .localKey => true
  | .txFault => true
  | .emergency => true
  | _ => false

/-- The target an abandonment concerns (R120, R121): the pending retarget's, where one is pending. -/
def Plan.concerned (p : Plan) : Option TargetId :=
  match p.pend with
  | some r => r.target
  | none => p.target

/-- The target antenna of a plan (R120, R121): the pending retarget's, where one is pending; none for LOAD and NONE. -/
def Plan.aim (p : Plan) : Option AntId :=
  match p.pend with
  | some r => targetPath r.setp
  | none => targetPath p.setp

/-- A plan is abandoned with a cause (R121, R122); its claim standing becomes NONE, GRANTED too (log 74). -/
def State.abandon (n : TxId) (cause : Cause) (s : State) : State :=
  match s.plan n with
  | some p =>
    let wd := s.windable n
    let s1 := s.post (.planAbandoned n p.concerned cause p.phase wd)
    let s2 := s1.setPlan n (some { p with cause := some cause, atHold := false, pend := none, claim := .none, awaiting := [] })
    let s3 := (s2.withdrawClaim n).dropHeld fun h => decide (h.asker = .plan n)
    let s4 := match p.concerned with
      | some id => s3.recordLost n id cause
      | none => s3
    let s5 := s4.stopRecycle n
    if wd then s5.windDown n cause p.predicted p.holdPoint else s5.removePlan n
  | none => s

/-- TXn has no plan but is on the air on a LIVE occurrence, or is ON_AIR with an ADOPTED antenna (R123). -/
def State.onAirNoPlan (s : State) (n : TxId) : Bool :=
  (s.plan n).isNone &&
  ((s.liveRec n).isSome ||
    (decide ((s.ctx n).state = .onAir) &&
      (match s.owned n with
        | some a => (s.owner a).any fun o => decide (o.kind = .adopted)
        | none => false)))

/-- The cause is reported to SCH for the LIVE record (R123). -/
def State.liveLost (n : TxId) (cause : Cause) (s : State) : State :=
  match s.liveRec n with
  | some r => s.recordLost n r.id cause
  | none => s

/-- A transmitter with no plan is taken toward NONE with a cause, where the conditions of R122 hold (R123). -/
def State.takeDown (n : TxId) (cause : Cause) (s : State) : State :=
  let t := (s.liveLost n cause).stopRecycle n
  if !cause.hard && t.windable n then t.drawnDuration.windDown n cause (ringAdd t.now t.noneDuration) t.csq.hold[n]
  else t

/-- An event of R121 reaches a transmitter with no plan in flight: an interruption (R123). -/
def State.interrupt (n : TxId) (cause : Cause) (s : State) : State :=
  if s.onAirNoPlan n then s.takeDown n cause else s

/-- A cause of R121 reaches TXn: its plan is abandoned, its wind-down removed or left running (R122), or it is interrupted
(R123). DESIGN CHOICE (log 67): a wind-down with a retarget toward an occurrence pending is taken as a wind-down, so that a cause
removes it or leaves it and reports nothing. -/
def State.causeReaches (n : TxId) (cause : Cause) (s : State) : State :=
  match s.plan n with
  | some p =>
    if p.windDown then (if cause.hard then s.removePlan n else s) else s.abandon n cause
  | none => s.interrupt n cause

/-- ACTUATOR_FAULT on an actuator reaches the plan of TXn that asked to move it: a wind-down that waits for it is removed,
any other plan abandoned (R121, R122). -/
def State.planActuatorFault (n : TxId) (act : ActId) (s : State) : State :=
  match s.plan n with
  | some p =>
    if p.windDown then
      (if p.awaiting.any fun x => decide (x.1 = act) then s.removePlan n else s)
    else s.abandon n .actuatorFault
  | none => s

/-- CSQ is told of a REFUSED-INTERNAL on a plan's order (R121); it is the plan's order while its phase is RUNNING. -/
def State.planRefused (n : TxId) (ph : Phase) (why : Refused) (s : State) : State :=
  match s.plan n with
  | some p =>
    if p.phases.get ph = .running then
      s.causeReaches n (match why with
        | .lineLost => .lineLost
        | .localKey => .localKey
        | _ => .rejected)
    else s
  | none => s

/-! ## Arrivals -/

/-- The phase a move belongs to (R111, R112, R115). -/
def movePhase : ActId → Place → Phase
  | .row _, .load => .toLoad
  | .row _, _ => .toMatrix
  | .sel _, .ground => .release
  | _, _ => .pathOut

/-- An arrival is handed to the plan of TXn where it waits for it; the phase ends once every move it asked has arrived
(R111, R112, R115). -/
def State.planMoved (act : ActId) (p : Place) (n : TxId) (s : State) : State :=
  match s.plan n with
  | some q =>
    if q.awaiting.contains (act, p) then
      let rest := q.awaiting.filter fun x => !decide (x = (act, p))
      let t := s.setPlan n (some { q with awaiting := rest })
      if rest.any fun x => decide (movePhase x.1 x.2 = movePhase act p) then t else t.endPhase n (movePhase act p)
    else s
  | none => s

/-- AMX still holds a move of the actuator that TXn's plan asked (R134). -/
def State.holdsMove (s : State) (act : ActId) (n : TxId) : Bool :=
  s.amx.held.any fun h => decide (h.act = act) && decide (h.asker = .plan n)

/-- An arrival AMX records is handed to every plan that waits for it (R127). A plan whose own move of the actuator is still held
waits for that move's arrival: the present one is of an earlier move (R115, R134). -/
def State.moved (act : ActId) (p : Place) (s : State) : State :=
  s.eachTx fun n t => if t.holdsMove act n then t else t.planMoved act p n

end Sys2Proof.Machine
end

