-- ==== Sys2Proof/Machine/Power.lean ====
section
/-! DEFINITION. The calculations of chapter 9 (power composition, reflection and VSWR, thresholds, ramp values), the static
minimum of R9 and the integer square root of section 0.6. -/

namespace Sys2Proof.Machine
open Sys2Proof

/-! ## Integer square root -/

/-- The largest r' that agrees with r above bit k and has r' × r' ≤ q, found bit by bit. -/
def isqrtBits : Nat → Nat → Nat → Nat
  | 0, _, r => r
  | k + 1, q, r => isqrtBits k q (if (r + 2 ^ k) * (r + 2 ^ k) ≤ q then r + 2 ^ k else r)

/-- isqrt (section 0.6), for q below 2^64. -/
def isqrt (q : Nat) : Nat := isqrtBits 32 q 0

/-! ## Static minimum (R9) -/

/-- The time of a whole ramp in ms: ceil(drive / RAMP-STEP) × RAMP-INTERVAL. -/
def rampMs (d : TxDef) (drive : Nat) : Nat := ceilDiv drive d.rampStep * d.rampInterval

/-- The largest of a list, 0 for the empty list. -/
def largest (l : List Nat) : Nat := l.foldl max 0

/-- The static minimum changeover of TXn under given records (R9): S and B are taken over the defined antennas whose REACH
includes n, B over those with BEAMS of 2 or more. -/
def staticMinimum (d : TxDef) (n : TxId) (ants : List AntDef) : Nat :=
  let reaching := ants.filter fun a => a.reach.contains n
  let s := largest (reaching.map (·.selEst))
  let b := largest ((reaching.filter fun a => decide (2 ≤ a.beams)).map (·.beamEst))
  let ramp := rampMs d 1000
  ceilDiv (ramp + d.rowEst * 1000 + max (d.tuneLong * 1000) ((s + max s b) * 1000) + d.rowEst * 1000 + ramp) 1000

/-! ## Composition (R156 to R159) -/

/-- The fold factor of a fold level (R157). -/
def foldFactor : Nat → Nat
  | 0 => 1000
  | 1 => 841
  | 2 => 707
  | 3 => 595
  | _ => 500

/-- The target power T (R156). -/
def targetPower (power trim rTx rPath : Nat) : Nat := min (power * trim / 1000) (min rTx rPath)

/-- T has been set by a rating: CLAMPED(POWER) (R156). -/
def powerClamped (power trim rTx rPath : Nat) : Bool := decide (min rTx rPath < power * trim / 1000)

/-- The ceiling C (R157). -/
def ceiling (t fold : Nat) : Nat := t * foldFactor fold / 1000

/-- The tap powers P_k (R158). -/
def tapPowers (rTx : Nat) (taps : List Nat) : List Nat := taps.map fun t => rTx * t / 1000

/-- The smallest index k, from 1, with P_k ≥ C (R158 step 1); the last tap where none is. -/
def chooseTap : List Nat → Nat → Nat
  | [], _ => 0
  | [_], _ => 1
  | p :: ps, c => if c ≤ p then 1 else chooseTap ps c + 1

/-- The limit step of R158: d lowered by one while P × d exceeds 1000 × the lesser rating. -/
def limitDrive (p lim d : Nat) : Nat := if p = 0 then d else min d (1000 * lim / p)

/-- A composition (R158, R159): tap index, drive, the ceiling it was made for, the marks, CLAMPED(POWER), and the failure
LIMIT of R158 step 5. -/
structure Comp where
  tap : Nat
  d : Nat
  c : Nat
  floor : Bool
  short : Bool
  clamped : Bool
  limit : Bool
deriving DecidableEq, Repr

/-- Drive for a ceiling C on a tap of power P (R158 steps 2 and 3), before the clamp. -/
def rawDrive (p lim c : Nat) : Nat := limitDrive p lim (roundHalfUp (1000 * c) p)

/-- The power P_k of a tap index (R158). DESIGN CHOICE (log 60): of a tap that a unit reports and its TAPS list lacks the manual
gives none, and it is a free value. -/
def tapPower (d : TxDef) (tap : Nat) : Nat := (tapPowers d.rating d.taps).getD (tap - 1) (Config.freeTap tap)

/-- The composition on a given tap index (R158 steps 2 to 5; R159 on the present tap). -/
def composeOn (d : TxDef) (tap rPath c : Nat) (clamped : Bool) : Comp :=
  let p := tapPower d tap
  let lim := min d.rating rPath
  let raw := rawDrive p lim c
  { tap := tap
    d := clampTo 100 1000 raw
    c := c
    floor := decide (raw < 100)
    short := decide (1000 < raw)
    clamped := clamped
    limit := decide (raw < 100) && decide (1000 * lim < p * 100) }

/-- The composition at an RF-ON (R156 to R158). -/
def compose (d : TxDef) (power trim rPath fold : Nat) : Comp :=
  let c := ceiling (targetPower power trim d.rating rPath) fold
  composeOn d (chooseTap (tapPowers d.rating d.taps) c) rPath c (powerClamped power trim d.rating rPath)

/-- The path rating R_path (R156): the antenna's RATING, or the transmitter's own for LOAD. An antenna that is no longer
defined has none, and its rating is a free value (log 22). -/
def State.pathRating (s : State) (d : TxDef) : Option AntId → Nat
  | none => d.rating
  | some a => match s.antDef a with
    | some r => r.rating
    | none => Config.freeRating (num a)

/-- The record of TXn with the TAPS list in use: a new list serves from the next RF-ON (R13). -/
def State.onTaps (s : State) (n : TxId) (d : TxDef) : TxDef := { d with taps := (s.prot n).taps.getD d.taps }

/-- The composition for TXn at its present trim (R156 to R158), none while TXn is undefined. -/
def State.composeFor (s : State) (n : TxId) (power : Nat) (path : Option AntId) (fold : Nat) : Option Comp :=
  (s.txDef n).map fun d => compose d power (s.ctx n).trim (s.pathRating d path) fold

/-! ## Reflection and VSWR (R164) -/

/-- The reflection coefficient Γ (R164). -/
def gammaOf (pf pr : Nat) : Nat := if pf ≤ pr then 1000 else isqrt (1000000 * pr / pf)

/-- The VSWR before saturation (R164). -/
def rawVswr (g : Nat) : Nat := 100 * (1000 + g) / (1000 - g)

/-- The VSWR S (R164). -/
def vswrOf (pf pr : Nat) : Nat := if pf ≤ pr then 9999 else min 9999 (rawVswr (gammaOf pf pr))

/-- The saturation at 9999 was applied (R164): CLAMPED(S). -/
def vswrClamped (pf pr : Nat) : Bool := !decide (pf ≤ pr) && decide (9999 < rawVswr (gammaOf pf pr))

/-- The antenna R165 charges a window to: the row is recorded AT MATRIX and a selector AT the transmitter's row. DESIGN CHOICE
(log 87): where two selectors stand there (R136, R178), the lowest-numbered antenna. -/
def State.chargedAnt (s : State) (n : TxId) : Option AntId :=
  if s.rowAt n .matrix then (s.standing n).head? else none

/-- The thresholds of the path at a window's close (R165). -/
def State.thresholds (s : State) (n : TxId) : Thresholds :=
  let load : Thresholds := match s.txDef n with
    | some d => ⟨d.loadWarn, d.loadFold, d.loadTrip⟩
    | none => ⟨0, 0, 0⟩
  match s.chargedAnt n with
  | some a => match s.antDef a with
    | some r => ⟨r.warn, r.fold, r.trip⟩
    | none => load
  | none => load

/-! ## Ramp values (R160) -/

/-- The drive a ramp sends at its j-th expiry: min(d, j × RAMP-STEP) up from RF-ON, min(d, D0 + j × RAMP-STEP) on air,
max(0, D0 − j × RAMP-STEP) down. -/
def rampValue (r : Ramp) (j step d : Nat) : Nat :=
  match r.kind with
  | .up => min d (j * step)
  | .air => min d (r.base + j * step)
  | .down => r.base - j * step

end Sys2Proof.Machine
end

