-- ==== Sys2Proof/Machine/HallLine.lean ====
section
/-! DEFINITION. The hall lines: the orders TXS sends (R82, R83, R87, R88), their refusals, ramps (R91, R160), faults of a
context (R94), and the loss and restoration of a line (R84, R85). -/

namespace Sys2Proof.Machine
open Sys2Proof

/-! ## Orders -/

/-- Two orders of the same kind (R82). -/
def Order.sameKind : Order → Order → Bool
  | .warm, .warm => true
  | .darken, .darken => true
  | .tune _, .tune _ => true
  | .rfOn _, .rfOn _ => true
  | .drive _, .drive _ => true
  | .rfOff, .rfOff => true
  | .statusAsk, .statusAsk => true
  | _, _ => false

/-- The phase of a plan that asks an order (section 6.2). -/
def Order.phase : Order → Phase
  | .warm => .warm
  | .tune _ => .tune
  | .rfOff => .rfOff
  | .rfOn _ => .rampup
  | .drive _ => .rampup
  | _ => .done

/-- The sent orders whose effect no report has shown, after one more is sent (R34). -/
def noteSent (o : Order) (l : List Order) : List Order := (l.filter fun x => !x.sameKind o) ++ [o]

/-- The sent order counts from now on (R96). -/
def SentSince.note (o : Order) (x : SentSince) : SentSince :=
  match o with
  | .warm => { x with warm := true }
  | .darken => { x with darken := true }
  | .tune _ => { x with tune := true }
  | .rfOn _ => { x with rfOn := true }
  | .rfOff => { x with rfOff := true }
  | _ => x

/-! ## RFP's answer to a recycle that ends without a return (R171) -/

/-- RFP names a cause to CSQ, which abandons the plan or winds the transmitter down (R123, R171). -/
def State.nameCause (n : TxId) (cause : Cause) (s : State) : State :=
  match s.plan n with
  | some _ => s.causeReaches n cause
  | none => s.takeDown n cause

/-- RFP ends a recycle without a return and names a cause to CSQ (R171). -/
def State.recycleFails (n : TxId) (cause : Cause) (s : State) : State :=
  ((s.updProt n fun p => { p with waiting := false }).endTrip n).nameCause n cause

/-! ## Refusals -/

/-- REFUSED-INTERNAL is answered to the block that asked an order (R82 to R88); on a recycle RF-ON RFP names REJECTED (R171;
DEDUCED, log 9). -/
def State.answer (n : TxId) (who : Asker) (o : Order) (why : Refused) (s : State) : State :=
  match who with
  | .csq => s.planRefused n o.phase why
  | .rfp => match o with
    | .rfOn _ => s.recycleFails n .rejected
    | _ => s
  | _ => s

/-- A DRIVE that fails stops the ramp, and the block the ramp's end was to be handed to is answered (R83, R91, R171). -/
def State.rampFails (n : TxId) (why : Refused) (s : State) : State :=
  match (s.ctx n).ramp with
  | some r =>
    let t := s.stopRamp n
    match r.kind with
    | .up => if r.forCsq then t.planRefused n .rampup why else t.recycleFails n .rejected
    | .down => t.planRefused n .rampdown why
    | .air => t
  | none => s

/-- An order is refused or rejected: a DRIVE stops the ramp, and the asker is answered (R83, R87, R88, R91). -/
def State.refuse (n : TxId) (who : Asker) (o : Order) (why : Refused) (s : State) : State :=
  let t := if o.isDrive && !decide (why = .superseded) && !decide (why = .rfOffPending) then s.rampFails n why else s
  t.answer n who o why

/-! ## Whether an order may be sent -/

/-- The askers whose RF-OFF is held across a line loss (R84). -/
def Asker.owes : Asker → Bool
  | .emergency => true
  | .zone => true
  | .check => true
  | _ => false

/-- The askers whose RF-OFF is sent under LOCAL (R97). -/
def Asker.overLocal : Asker → Bool
  | .fault => true
  | w => w.owes

/-- The order is an RF-ON, or a DRIVE above the drive last ordered: what R88 checks. -/
def Order.upward (o : Order) (drive : Nat) : Bool :=
  match o with
  | .rfOn _ => true
  | .drive v => decide (drive < v)
  | _ => false

/-- The context takes the order (table of R87). STATUS-ASK is taken in every state (DEDUCED, log 11). -/
def Ctx.takes (c : Ctx) (who : Asker) (o : Order) : Bool :=
  match o with
  | .warm => decide (c.state = .dark) || decide (c.state = .warming)
  | .darken => (decide (c.state = .standby) || decide (c.state = .ready)) && decide (c.rf = .off) && !c.declined
  | .tune _ => (decide (c.state = .standby) || decide (c.state = .ready)) && decide (c.rf = .off)
  | .rfOn _ => decide (c.state = .ready) || (decide (c.state = .tripped) && decide (who = .rfp))
  | .drive _ => (decide (c.state = .rampingUp) || decide (c.state = .onAir) || decide (c.state = .rampingDown)) &&
      decide (c.rf = .on)
  | .rfOff => true
  | .statusAsk => true

/-- Why an order is refused (R87, R88, R93, R97), or none. -/
def State.orderBar (s : State) (n : TxId) (who : Asker) (o : Order) : Option Refused :=
  let c := s.ctx n
  if c.source = .localKey ∧ (o = .rfOff → who.overLocal = false) then some .localKey
  else if o = .darken ∧ c.declined = true then some .declined
  else if !c.takes who o then some .state
  else if o.upward c.drive && !(s.pathConfirmed n && s.hallRuns && !s.pins.emergency) then some .path
  else none

/-! ## Sending -/

/-- An order leaves on the line: it is outstanding, the order accept channel runs, and the sending has its effects on the
context (R81, R82, R91, R92) and on RFP's accumulator (R162). -/
def State.sendNow (n : TxId) (who : Asker) (o : Order) (s : State) : State :=
  let t := (s.startChan (.tx n .accept) 1000).updCtx n fun c => { c with
    outstanding := some ⟨o, s.now, who, c.state, c.drive⟩
    unshown := noteSent o c.unshown
    sentSince := c.sentSince.note o }
  match o with
  | .rfOn tap =>
    (((t.stopRamp n).toState n .rampingUp).updCtx n fun c => { c with
        rf := .on
        drive := 0
        tap := some tap
        rfShown := false
        tripSeen := false
        localTrip := false
        ramp := some ⟨.up, 0, 0, decide (who = .csq)⟩ }).updProt n fun p =>
      { p with count := 0, fwdSum := 0, reflSum := 0, mask := true }
  | .drive v => t.updCtx n fun c => { c with drive := v }
  | .rfOff =>
    (((t.stopRamp n).startChan (.tx n .rfOff) 5000).updCtx n fun c => { c with rf := .unsure }).updProt n fun p =>
      { p with count := 0, fwdSum := 0, reflSum := 0 }
  | _ => t

/-- Put an order in the deferred slot. -/
def State.slot (n : TxId) (who : Asker) (o : Order) (s : State) : State :=
  s.updCtx n fun c => { c with deferred := some ⟨o, who⟩ }

/-- An order asked while another is outstanding (R82). -/
def State.defer (n : TxId) (who : Asker) (o : Order) (s : State) : State :=
  match (s.ctx n).deferred with
  | none => s.slot n who o
  | some d =>
    if d.order = .rfOff then (if o = .rfOff then s else s.refuse n who o .rfOffPending)
    else if d.order.sameKind o then s.slot n who o
    else (s.slot n who o).answer n d.who d.order .superseded

/-- A block asks TXS for an order of TXn (R82, R84, R87, R88). A WARM asked of a WARMING context sends nothing (R87). -/
def State.askOrder (n : TxId) (who : Asker) (o : Order) (s : State) : State :=
  if s.txDefined n then
    if (s.ctx n).lineUp then
      match s.orderBar n who o with
      | some why => s.refuse n who o why
      | none =>
        if o = .warm ∧ (s.ctx n).state = .warming then s
        else if (s.ctx n).outstanding.isSome then s.defer n who o
        else s.sendNow n who o
    else if o = .rfOff ∧ who.owes = true then s.updCtx n fun c => { c with owed := true }
    else s.refuse n who o .lineLost
  else s

/-- The deferred order is sent once no order is outstanding, under the checks of R87 and R88 (R82). RF-OFF is always sent
(R97 keeps it in the slot). -/
def State.sendDeferred (n : TxId) (s : State) : State :=
  match (s.ctx n).outstanding, (s.ctx n).deferred with
  | none, some d =>
    let t := s.updCtx n fun c => { c with deferred := none }
    match if d.order = .rfOff then none else t.orderBar n d.who d.order with
    | some why => t.refuse n d.who d.order why
    | none => t.sendNow n d.who d.order
  | _, _ => s

/-! ## Faults of a context -/

/-- The context becomes FAULTED with TX-FAULT, and CSQ takes TX_FAULT (R83, R89, R90, R92, R95). -/
def State.txFault (n : TxId) (f : FaultCause) (unitCause : Option Nat) (s : State) : State :=
  let left := (s.ctx n).state
  (((s.toFaulted n f).post (.txFault n f left unitCause)).stopRecycle n).causeReaches n .txFault

/-- The warm-up, tune and ramp channels stop (R94, R97). -/
def State.stopWork (n : TxId) (s : State) : State :=
  ((s.stopChan (.tx n .warmUp)).stopChan (.tx n .tune)).stopRamp n

/-- RF-OFF without a ramp where the RF condition is not OFF. -/
def State.rfOffUnlessOff (n : TxId) (who : Asker) (s : State) : State :=
  if (s.ctx n).rf = .off then s else s.askOrder n who .rfOff

/-- The context becomes FAULTED with the actions of R94. -/
def State.faultActions (n : TxId) (f : FaultCause) (s : State) : State :=
  ((s.rfOffUnlessOff n .fault).stopWork n).txFault n f none

/-! ## Ramps (R91, R160) -/

/-- The RAMP-INTERVAL of TXn in ms. -/
def State.rampInterval (s : State) (n : TxId) : Nat :=
  match s.txDef n with
  | some d => d.rampInterval
  | none => 0

/-- The RAMP-STEP of TXn. -/
def State.rampStep (s : State) (n : TxId) : Nat :=
  match s.txDef n with
  | some d => d.rampStep
  | none => 0

/-- A ramp begins from the drive last ordered: an upward change on air or a ramp down (R160). -/
def State.startRamp (n : TxId) (k : RampKind) (s : State) : State :=
  (s.startChan (.tx n .ramp) (s.rampInterval n)).updCtx n fun c => { c with ramp := some ⟨k, c.drive, 0, true⟩ }

/-- The end of a ramp, handed to the block that asked for it (R91, R116). -/
def State.rampEnd (n : TxId) (s : State) : State :=
  match (s.ctx n).ramp with
  | some r => match r.kind with
    | .up => ((s.stopRamp n).toState n .onAir).endPhase n .rampup
    | .air => s.stopRamp n
    | .down => (s.stopRamp n).endPhase n .rampdown
  | none => s

/-- An expiry of the ramp channel (R160): the next DRIVE, or the end of a ramp down that has sent 0. -/
def State.rampStepped (n : TxId) (s : State) : State :=
  match (s.ctx n).ramp with
  | some r =>
    if decide (r.kind = .down) && decide ((s.ctx n).drive = 0) then s.rampEnd n
    else
      let j := r.count + 1
      (s.updCtx n fun c => { c with ramp := some { r with count := j } }).askOrder n .txs
        (.drive (rampValue r j (s.rampStep n) (s.prot n).d))
  | none => s

/-! ## ACCEPT and REJECT (R83) -/

/-- The accepted order takes effect, where the context still stands as it did at the sending and is not LOCAL (R89, R90,
R91; DEDUCED, log 12). -/
def State.acceptEffect (n : TxId) (o : Outstanding) (s : State) : State :=
  let c := s.ctx n
  if c.source = .localKey then s
  else match o.order with
  | .warm =>
    if c.state = .dark then
      match s.txDef n with
      | some d =>
        if d.warmUp = 0 then (s.toState n .warming).updCtx n fun x => { x with warmWait := .untilStandby }
        else ((s.toState n .warming).startChan (.tx n .warmUp) (d.warmUp * 1000)).updCtx n fun x =>
          { x with warmWait := .timed }
      | none => s
    else s
  | .tune f =>
    if c.state = .standby ∨ c.state = .ready then
      match s.txDef n with
      | some d => ((s.toState n .tuning).startChan (.tx n .tune) (d.tuneTimeout * 1000)).updCtx n fun x =>
          { x with tuned := none, tuneFreq := some f }
      | none => s
    else s
  | .rfOn _ => if c.ramp.isSome then s.startChan (.tx n .ramp) (s.rampInterval n) else s
  | .drive v =>
    match c.ramp with
    | some r => if decide (v = (s.prot n).d) && !decide (r.kind = .down) then s.rampEnd n else s
    | none => s
  | _ => s

/-- The order accept channel stops and the order is no longer outstanding (R83). -/
def State.answered (n : TxId) (s : State) : State :=
  (s.stopChan (.tx n .accept)).updCtx n fun c => { c with outstanding := none }

/-- ACCEPT (R83): with no order outstanding it is discarded. -/
def State.accepted (n : TxId) (s : State) : State :=
  match (s.ctx n).outstanding with
  | some o => ((s.answered n).acceptEffect n o).sendDeferred n
  | none => s

/-- A DRIVE the unit has rejected leaves the drive last accepted (R160). -/
def Ctx.driveBack (o : Outstanding) (c : Ctx) : Ctx :=
  { c with drive := if o.order = .drive c.drive then o.was else c.drive }

/-- The effect of a REJECT by the order it answers (table of R83). -/
def State.rejectEffect (n : TxId) (o : Outstanding) (s : State) : State :=
  let t := s.updCtx n fun c => { c with unshown := c.unshown.filter fun x => !x.sameKind o.order }
  match o.order with
  | .darken => t.updCtx n fun c => { c with declined := true }
  | .rfOff =>
    if (t.ctx n).state = .unknown then t.stopChan (.tx n .rfOff)
    else (t.stopChan (.tx n .rfOff)).txFault n .rfOffUnconfirmed none
  | .statusAsk => t
  | .rfOn _ =>
    let u := if (t.ctx n).state = .rampingUp then t.toState n o.before else t
    ((u.stopRamp n).updCtx n fun c => { c with rf := .unsure }).refuse n o.who o.order .rejected
  | _ => (t.updCtx n (Ctx.driveBack o)).refuse n o.who o.order .rejected

/-- REJECT (R83): with no order outstanding it is discarded. -/
def State.rejected (n : TxId) (s : State) : State :=
  match (s.ctx n).outstanding with
  | some o => ((s.answered n).rejectEffect n o).sendDeferred n
  | none => s

/-! ## Line loss and restoration -/

/-- The survey turn of TXn takes a value, where it has one (R175). -/
def State.setTurn (n : TxId) (v : Turn) (s : State) : State :=
  { s with txs := { s.txs with survey := s.txs.survey.map fun q =>
    { q with turns := q.turns.set n ((q.turns[n]).map fun _ => v) } } }

/-- The survey turn of TXn becomes LOST where it has not ended (R175). -/
def State.loseTurn (n : TxId) (s : State) : State :=
  { s with txs := { s.txs with survey := s.txs.survey.map fun q =>
    { q with turns := q.turns.set n ((q.turns[n]).map fun v => if v = .pending then .lost else v) } } }

/-- The sent orders that still count, once an outstanding order is discarded (R34). -/
def keptUnshown (o : Option Outstanding) (l : List Order) : List Order :=
  match o with
  | some x => l.filter fun y => !y.sameKind x.order
  | none => l

/-- Answer the askers of the orders a line loss discards, other than TXS (R84 step 4). -/
def State.loseOrders (n : TxId) (s : State) : State :=
  let o := (s.ctx n).outstanding
  let d := (s.ctx n).deferred
  let t := s.updCtx n fun c => { c with outstanding := none, deferred := none, unshown := keptUnshown c.outstanding c.unshown }
  let u := match o with
    | some x => t.answer n x.who x.order .lineLost
    | none => t
  match d with
  | some x => u.answer n x.who x.order .lineLost
  | none => u

/-- The line of TXn is marked LOST (R84), with the end of a waiting recycle (R172), the accumulator discarded (R162) and the
survey turn LOST (R175). -/
def State.lineLost (n : TxId) (byAccept : Bool) (s : State) : State :=
  let held := (s.ctx n).state
  let rf := (s.ctx n).rf
  let s1 := (((s.updCtx n fun c => { c with lineUp := false }).stopChan (.tx n .silence)).stopChan (.tx n .accept)).stopWork n
  let s2 := (s1.stopChan (.tx n .rfOff)).updCtx n fun c => { c with owed := c.owed || s.rfOffOnLine n }
  let s3 := s2.loseOrders n
  let s4 := ((s3.toState n .unknown).updCtx n fun c => { c with rf := .unsure, cause := none, lostUnknown := true }).updProt
    n fun p => { p with count := 0, fwdSum := 0, reflSum := 0 }
  let s5 := (s4.post (.lineLost n byAccept held rf)).stopRecycle n
  (s5.causeReaches n .lineLost).loseTurn n

/-- The first report on a LOST line marks it UP (R85). -/
def State.lineRestored (n : TxId) (s : State) : State :=
  let t := ((s.updCtx n fun c => { c with lineUp := true }).post (.lineRestored n)).startChan (.tx n .silence) 3000
  let u := if (t.ctx n).owed then (t.updCtx n fun c => { c with owed := false }).sendNow n .txs .rfOff else t
  u.askOrder n .txs .statusAsk

end Sys2Proof.Machine
end

