-- ==== Sys2Proof/Machine/MatrixEvents.lean ====
section
/-! DEFINITION. AMX's decisions: claims and queues (R128, R129, R132), ownerships under LOCAL (R133), moves and their
interlocks (R134 to R137), recorded positions (R127), zones (R138, R139) and service (R140 to R144). -/

namespace Sys2Proof.Machine
open Sys2Proof

/-! ## Claims -/

/-- The order of a reservation queue (R129): priority descending, claim second ascending, transmitter ascending. -/
def Claim.outranks (c d : Claim) : Bool :=
  if c.priority = d.priority then
    (if c.sec = d.sec then decide (c.tx.val < d.tx.val) else later d.sec c.sec)
  else decide (d.priority < c.priority)

/-- A claim at its place in a queue (R129). -/
def placeClaim (c : Claim) : List Claim → List Claim
  | [] => [c]
  | d :: q => if c.outranks d then c :: d :: q else d :: placeClaim c q

/-- The place of TXn's claim in a queue, from 1. -/
def placeOf (n : TxId) (q : List Claim) : Nat := (q.findIdx fun c => decide (c.tx = n)) + 1

/-- A claim stands in the queue of ANa, and CLAIM-RESERVED is posted (R128). -/
def State.reserve (a : AntId) (c : Claim) (s : State) : State :=
  let t := s.updRun a fun r => { r with queue := placeClaim c r.queue }
  match t.run a with
  | some r => t.post (.claimReserved c.tx a c.priority (placeOf c.tx r.queue))
  | none => t

/-- A displaced claim: CLAIM-DROPPED, and its plan's standing becomes RETRY (R129). -/
def State.displace (a : AntId) (d : Claim) (s : State) : State :=
  ((s.updRun a fun r => { r with queue := r.queue.filter fun c => !decide (c.tx = d.tx) }).post (.claimDropped d.tx a)).updPlan
    d.tx fun p => { p with claim := .retry }

/-- A claim enters the queue of ANa (R129): none where a full queue answers it BUSY. -/
def State.enterQueue (a : AntId) (c : Claim) (s : State) : Option State :=
  match s.run a with
  | some r =>
    if r.queue.length < 4 then some (s.reserve a c)
    else match r.queue.getLast? with
      | some d => if c.outranks d then some ((s.displace a d).reserve a c) else none
      | none => none
  | none => none

/-- The answers to a claim (R128). -/
inductive ClaimAnswer where
  | granted | reserved | busy | unusable
deriving DecidableEq, Repr

/-- ANa is unusable for a claim of TXn (R128 test 1). -/
def State.unusable (s : State) (a : AntId) (n : TxId) : Bool :=
  match s.antDef a with
  | some d => !d.reach.contains n || !s.inService a
  | none => true

/-- A plan of TXn is a wind-down. -/
def State.windingDown (s : State) (n : TxId) : Bool :=
  match s.plan n with
  | some p => p.windDown
  | none => false

/-- The owner of ANa may be preempted by a claim (R132). -/
def State.preemptible (s : State) (a : AntId) (c : Claim) : Option TxId :=
  match s.owner a with
  | some o =>
    if c.priority = 7 ∧ o.priority < 7 ∧ o.kind ≠ .localKey ∧ s.windingDown o.tx = false then some o.tx else none
  | none => none

/-- A priority-7 claim is queued whatever its WAIT flag: its owner is not LOCAL and has priority 7 or a wind-down in flight
(R132). -/
def State.queuedBySeven (s : State) (a : AntId) (c : Claim) : Bool :=
  match s.owner a with
  | some o => decide (c.priority = 7) && !decide (o.kind = .localKey) && (decide (7 ≤ o.priority) || s.windingDown o.tx)
  | none => false

/-- A claim judged by its entry to the queue. -/
def State.entered (a : AntId) (c : Claim) (s : State) : State × ClaimAnswer :=
  match s.enterQueue a c with
  | some t => (t, .reserved)
  | none => (s, .busy)

/-- AMX judges a claim once the transmitter's reservation elsewhere is withdrawn (R128 tests 3 to 7). -/
def State.judgeClaim (a : AntId) (c : Claim) (s : State) : State × ClaimAnswer :=
  let unowned := (s.owner a).isNone
  let emptyQueue := match s.run a with
    | some r => r.queue.isEmpty
    | none => true
  let obstacle := s.zoneOpenAt a || (s.owned c.tx).isSome
  if unowned && emptyQueue && !obstacle then (s.grant a c, .granted)
  else match s.preemptible a c with
    | some m => match s.enterQueue a c with
      | some t => (t.nameCause m .preempted, .reserved)
      | none => (s, .busy)
    | none =>
      if (unowned && obstacle) || s.queuedBySeven a c || c.wait then s.entered a c
      else (s, .busy)

/-- AMX answers a claim (R128). No transmitter submits a claim on an antenna that it owns or queues for (R128, R129). DESIGN CHOICE
(log 81): such a one is answered by the standing it has. -/
def State.claim (a : AntId) (c : Claim) (s : State) : State × ClaimAnswer :=
  if s.unusable a c.tx then (s, .unusable)
  else if s.owned c.tx = some a then (s, .granted)
  else if (s.run a).any (AntRun.queues c.tx) then (s, .reserved)
  else (match s.reservation c.tx with
    | some b => s.withdrawFrom b c.tx
    | none => s).judgeClaim a c

/-- Every claim in the queue of ANa is withdrawn, and each plan told so with a cause (R131, R114). -/
def State.withdrawAll (a : AntId) (cause : Cause) (s : State) : State :=
  match s.run a with
  | some r => (s.updRun a fun q => { q with queue := [] }).each (r.queue.map (·.tx)) fun n t => t.causeReaches n cause
  | none => s

/-! ## Ownership under LOCAL (R133) -/

/-- A LOCAL transmitter with its row AT MATRIX and a selector AT its row holds that antenna with kind LOCAL (R133). No ownership
begins through a row at which two selectors stand (R178; DESIGN CHOICE, log 87, where no check has yet found them). -/
def State.localOwn (n : TxId) (s : State) : State :=
  if (s.ctx n).source = .localKey ∧ s.rowAt n .matrix = true then
    match s.owned n with
    | some a =>
      if (s.standing n).contains a then
        s.updRun a fun r => { r with owner := r.owner.map fun o => { o with kind := .localKey, priority := 7 } }
      else s
    | none => match s.standing n with
      | [a] => if (s.owner a).isNone then s.takeAnt a ⟨n, .localKey, 7, s.now⟩ else s
      | _ => s
  else s

/-- The ownership of R133 by a change of position: the row or the selector whose recorded position was `was` has become recorded
in that arrangement. A change of another actuator's position begins none. -/
def State.localFound (was : Pos) (act : ActId) (s : State) : State :=
  if s.pos act = was then s
  else match act, s.pos act with
    | .row n, _ => s.localOwn n
    | .sel _, .atp (.tx n) => s.localOwn n
    | _, _ => s

/-- A LOCAL ownership of TXn takes kind ADOPTED and priority 0 (R133). -/
def State.localReturn (n : TxId) (s : State) : State :=
  match s.owned n with
  | some a => s.updRun a fun r => { r with owner := r.owner.map fun o =>
      if o.kind = .localKey then { o with kind := .adopted, priority := 0 } else o }
  | none => s

/-! ## Recorded positions (R127) -/

/-- The selector has come to GROUND: an ownership of its antenna ends (R127). -/
def State.grounded (act : ActId) (p : Place) (s : State) : State :=
  match act, p with
  | .sel a, .ground => s.endOwnership a
  | _, _ => s

/-- A re-query that SET-ANT-SERVICE IN awaits has found an actuator of ANa at a position (R141). -/
def State.queryFound (act : ActId) (s : State) : State :=
  if s.actFaulted act then s
  else match act with
    | .row _ => s
    | .sel a => s.updRun a fun r =>
        if r.query.contains act then
          { r with query := r.query.filter fun x => !decide (x = act)
                   service := if r.query.all fun x => decide (x = act) then .inService else r.service }
        else r
    | .beam a => s.updRun a fun r =>
        if r.query.contains act then
          { r with query := r.query.filter fun x => !decide (x = act)
                   service := if r.query.all fun x => decide (x = act) then .inService else r.service }
        else r

/-! ## Moves (R134) -/

/-- AMX takes a move asked of it (R134). DESIGN CHOICE (log 76): a superseded move of AMX's own is not asked again. DESIGN CHOICE
(log 102): one asked for the position the actuator is AT hands the arrival and leaves another asker's held move in the list. -/
def State.askMove (who : MoveAsker) (act : ActId) (p : Place) (s : State) : State :=
  if s.pos act = .atp p then
    match who with
    | .plan n =>
      let releases : Bool := match act with
        | .sel a => decide (p = .ground) && decide (s.owned n = some a)
        | _ => false
      (if releases then s.grounded act p else s).planMoved act p n
    | .amx => s
  else if s.actFaulted act then
    match who with
    | .plan n => s.planActuatorFault n act
    | .amx => s
  else
    let told := (s.amx.held.filter fun h => decide (h.act = act)).flatMap fun h =>
      match h.asker with
      | .plan m => if h.asker = who then h.told else h.told ++ [(m, h.place)]
      | .amx => h.told
    { s with amx := { s.amx with held := (s.amx.held.filter fun h => !decide (h.act = act)) ++ [⟨act, p, who, s.now, told⟩] } }

/-- A plan told again of a superseded move asks it anew, where it still waits for it (R134). -/
def State.askAgain (s : State) : State :=
  ({ s with amx := { s.amx with reask := [] } }).each s.amx.reask fun x t =>
    match t.plan x.1 with
    | some p => if p.awaiting.contains (x.2.1, x.2.2) then t.askMove (.plan x.1) x.2.1 x.2.2 else t
    | none => t

/-- AMX records an actuator AT a position: the arrival is handed to the plans that wait for it, the ends of ownership of
R127 and the ownerships of R133 follow. -/
def State.recordAt (act : ActId) (p : Place) (s : State) : State :=
  let t := (((s.setPos act (.atp p)).grounded act p).queryFound act).endFlight act
  ((t.moved act p).localFound (s.pos act) act).askAgain

/-! ## The switching interlocks (R135 to R137) -/

/-- TXn is safe (R135). -/
def State.safe (s : State) (n : TxId) : Bool := decide ((s.ctx n).rf = .off) || s.rowAt n .load

/-- The transmitters a selector's present position names (R135); a reach item that is undefined has no effect (R1). -/
def State.namedBy (s : State) (a : AntId) : List TxId :=
  match s.pos (.sel a) with
  | .atp (.tx n) => [n]
  | .unknown => match s.antDef a with
    | some d => d.reach.filter s.txDefined
    | none => []
  | _ => []

/-- Selector SELb stands in the way of another selector's move to TXn (R136). -/
def State.blocksRow (s : State) (n : TxId) (b : AntId) : Bool :=
  match s.pos (.sel b) with
  | .atp p => decide (p = .tx n)
  | .travelling p => decide (p = .tx n)
  | .unknown => match s.antDef b with
    | some d => d.reach.contains n
    | none => false

/-- The condition of R136 for SELa to TXn. -/
def State.rowFree (s : State) (a : AntId) (n : TxId) : Bool :=
  (s.definedAnt.filter fun b => !decide (b = a)).all fun b => !s.blocksRow n b

/-- The interlock of an actuator for a move to a position (R135). -/
def State.interlock (s : State) (act : ActId) (q : Place) : Bool :=
  match act with
  | .row n => decide ((s.ctx n).rf = .off)
  | .sel a => (s.namedBy a).all s.safe && !s.zoneOpenAt a &&
      (match q with
        | .tx n => s.safe n && s.rowFree a n
        | _ => true)
  | .beam a => !s.zoneOpenAt a &&
      (match s.pos (.sel a) with
        | .atp .ground => true
        | .atp (.tx n) => s.safe n
        | _ => false)

/-- The recorded position is TRAVELLING. -/
def Pos.isTravelling : Pos → Bool
  | .travelling _ => true
  | _ => false

/-- A held move may be handed to SWB (R137). -/
def State.mayHand (s : State) (h : Held) : Bool :=
  (decide (s.txs.hall = .surveying) || s.hallRuns) && decide (s.swb.queue.length < 32) &&
    !(s.pos h.act).isTravelling && s.interlock h.act h.place

/-- AMX hands a held move to SWB (R127, R137, R148). -/
def State.hand (h : Held) (s : State) : State :=
  let t := s.setPos h.act (.travelling h.place)
  { t with
    amx := { t.amx with held := t.amx.held.filter fun x => !decide (x.act = h.act), flight := t.amx.flight ++ [h] }
    swb := { t.swb with queue := t.swb.queue ++ [⟨h.act, some h.place, .amx⟩] } }

/-! ## Zones (R138, R139) -/

/-- The antennas that stand in a zone. -/
def State.zoneAnts (s : State) (z : ZoneId) : List AntId := (s.hds.zones[z]).members

/-- The opening of the zone of ANa acts on TXn (the three conditions of R138). -/
def State.zoneHits (s : State) (a : AntId) (n : TxId) : Bool :=
  !s.rowAt n .load && decide (s.owned n = some a) &&
    (decide (s.pos (.sel a) = .atp (.tx n)) || decide (s.pos (.sel a) = .travelling (.tx n)))

/-- A zone opening takes a transmitter off the air (R138). -/
def State.zoneTakes (n : TxId) (s : State) : State := (s.rfOffUnlessOff n .zone).causeReaches n .zoneOpen

/-- The opening of a zone acts on the owner of one antenna (R138). -/
def State.zoneActs (a : AntId) (s : State) : State :=
  match s.owner a with
  | some o => if s.zoneHits a o.tx then s.zoneTakes o.tx else s
  | none => s

/-- A zone in use becomes OPEN (R138). -/
def State.zoneOpens (z : ZoneId) (s : State) : State :=
  let t := ({ s with amx := { s.amx with zone := s.amx.zone.set z (some true) } }).post (.zoneOpen z (s.zoneAnts z))
  t.each (t.zoneAnts z) State.zoneActs

/-- A zone in use becomes CLOSED (R139). -/
def State.zoneCloses (z : ZoneId) (s : State) : State :=
  let t := ({ s with amx := { s.amx with zone := s.amx.zone.set z (some false) } }).post (.zoneClosed z)
  t.each (t.zoneAnts z) State.offer

/-! ## Service (R140 to R143) -/

/-- The actuators of ANa. -/
def State.antActs (s : State) (a : AntId) : List ActId :=
  if s.beamDefined a then [.sel a, .beam a] else [.sel a]

/-- A cause reaches the owner of ANa (R140, R142). -/
def State.ownerCause (a : AntId) (cause : Cause) (s : State) : State :=
  match s.owner a with
  | some o => s.causeReaches o.tx cause
  | none => s

/-- The plan of TXn has ANa as its target antenna. -/
def State.aimsAt (s : State) (a : AntId) (n : TxId) : Bool :=
  match s.plan n with
  | some p => decide (p.aim = some a)
  | none => false

/-- Every plan whose target antenna has become OUT_OF_SERVICE or SUSPECT, or depends on a faulted actuator, takes the cause
(R121): a plan in RETRY stands in no queue, and the owner's plan may be among them. -/
def State.aimersLose (a : AntId) (cause : Cause) (s : State) : State :=
  s.eachTx fun n t => if t.aimsAt a n then t.causeReaches n cause else t

/-- The owner of ANa has a plan in flight. -/
def State.ownerPlans (s : State) (a : AntId) : Bool :=
  match s.owner a with
  | some o => (s.plan o.tx).isSome
  | none => false

/-- AMX grounds SELa by its own move, where step 3 of R140 asks it. -/
def State.groundIfAway (a : AntId) (s : State) : State :=
  if s.pos (.sel a) = .atp .ground ∨ s.ownerPlans a = true then s else s.askMove .amx (.sel a) .ground

/-- SET-ANT-SERVICE OUT acts on ANa (R140): on one already OUT_OF_SERVICE with cause HOST it ends a pending query alone
(R141). -/
def State.takeOut (a : AntId) (s : State) : State :=
  match s.run a with
  | some r =>
    if r.service = .outHost then s.updRun a fun q => { q with query := [] }
    else
      let t := (s.updRun a fun q => { q with service := .outHost, query := [] }).withdrawAll a .service
      ((t.ownerCause a .service).aimersLose a .service).groundIfAway a
  | none => s

/-- AMX's own move of SELa is held. -/
def State.amxGrounding (s : State) (a : AntId) : Bool :=
  s.amx.held.any fun h => decide (h.act = .sel a) && decide (h.asker = .amx)

/-- AMX's own held move of SELa is withdrawn (R140, R141). -/
def State.dropGrounding (a : AntId) (s : State) : State :=
  (s.dropHeld fun h => decide (h.act = .sel a) && decide (h.asker = .amx)).askAgain

/-- The held move of a faulted actuator is answered with ACTUATOR_FAULT (R142). -/
def State.dropFaulted (act : ActId) (s : State) : State :=
  { s with amx := { s.amx with
    held := s.amx.held.filter fun h => !decide (h.act = act)
    flight := s.amx.flight.filter fun h => !decide (h.act = act) } }

/-- The plan of TXn has asked to move an actuator and waits for it. -/
def State.planAwaits (s : State) (act : ActId) (n : TxId) : Bool :=
  match s.plan n with
  | some p => p.awaiting.any fun x => decide (x.1 = act)
  | none => false

/-- ACTUATOR_FAULT reaches TXn: as the plan that waits for the actuator (R121, R122), or as its dependant. -/
def State.faultReaches (act : ActId) (n : TxId) (s : State) : State :=
  if s.planAwaits act n then s.planActuatorFault n act else s.causeReaches n .actuatorFault

/-- Every plan that waits for the actuator takes ACTUATOR_FAULT (R121, R142). -/
def State.awaitersFault (act : ActId) (s : State) : State :=
  s.eachTx fun n t => if t.planAwaits act n then t.planActuatorFault n act else t

/-- A fault of SELa or BDa acts on ANa (R142). -/
def State.antFault (act : ActId) (a : AntId) (s : State) : State :=
  let t := (s.updRun a fun r => { r with
    service := if r.service = .outHost ∧ r.query = [] then .outHost else .outActuator
    query := [] }).withdrawAll a .actuatorFault
  (match t.owner a with
    | some o => t.faultReaches act o.tx
    | none => t).aimersLose a .actuatorFault

/-- AMX is handed a fault by SWB and records the position R127 gives (R153 step 4). -/
def State.amxRecords (act : ActId) (carried : Option Place) (s : State) : State :=
  let t := (s.dropFaulted act).setPos act (match carried with
    | some p => .atp p
    | none => .unknown)
  match carried with
  | some p => t.grounded act p
  | none => t

/-- AMX acts on what depends on a faulted actuator (R142), whose recorded position was `was` (R133). -/
def State.amxActs (was : Pos) (act : ActId) (s : State) : State :=
  ((match act with
    | .sel a => s.antFault act a
    | .beam a => s.antFault act a
    | .row n => s.faultReaches act n).awaitersFault act).localFound was act

/-- RFP's suspect decision reaches AMX (R143). A plan whose target antenna it is is abandoned with cause SERVICE (R121); a
transmitter on the air with no plan is left. -/
def State.suspectDecision (a : AntId) (txs : List TxId) (s : State) : State :=
  match s.run a with
  | some r =>
    let owner := r.owner.map (·.tx)
    match r.service with
    | .suspect => s
    | .inService =>
      (((s.updRun a fun q => { q with service := .suspect }).post (.antennaSuspect a owner txs .suspect)).withdrawAll a
        .service).aimersLose a .service
    | v => s.post (.antennaSuspect a owner txs v)
  | none => s

end Sys2Proof.Machine
end

