-- ==== Sys2Proof/Machine/Protection.lean ====
section
/-! DEFINITION. RFP: recomposition on the present tap (R159), meter windows (R162, R163), fold, warning and recovery (R166 to
R168), trips and recycles (R169 to R172), recent-trip lists and suspect decisions (R173, R174). -/

namespace Sys2Proof.Machine
open Sys2Proof

/-! ## Recomposition (R159) -/

/-- The power of the setpoint last composed, or a free value where none is known (log 21). -/
def State.powerOf (s : State) (n : TxId) : Nat :=
  match (s.prot n).power with
  | some p => p
  | none => Config.freePower s.free

/-- One free value has been used, where the power is not known (log 21). -/
def State.drawn (n : TxId) (s : State) : State :=
  if (s.prot n).power.isSome then s else { s with free := s.free + 1 }

/-- The composition on the present tap of the TAPS list in use, for the ceiling of the present fold level (R13, R157, R159). -/
def State.presentComp (s : State) (n : TxId) (d : TxDef) : Comp :=
  let path := s.pathRating d (s.prot n).path
  let trim := (s.ctx n).trim
  composeOn (s.onTaps n d) ((s.ctx n).tap.getD 1) path (ceiling (targetPower (s.powerOf n) trim d.rating path) (s.prot n).fold)
    (powerClamped (s.powerOf n) trim d.rating path)

/-- RFP recomputes C and d on the present tap and keeps them (R159); the ceiling is returned beside the state. -/
def State.recomposed (n : TxId) (s : State) : State × Nat :=
  match s.txDef n with
  | some d =>
    let k := s.presentComp n d
    ((s.drawn n).updProt n fun p => { p with d := k.d, floor := k.floor, short := k.short, clamped := k.clamped }, k.c)
  | none => (s, 0)

/-- What RFP asks of TXS for a recomputed d (table of R159). Under LOCAL it asks nothing (R168). -/
def State.driveTo (n : TxId) (s : State) : State :=
  let c := s.ctx n
  let d := (s.prot n).d
  if c.source = .localKey then s
  else match c.state with
    | .onAir =>
      if d < c.drive then s.askOrder n .rfp (.drive d)
      else if c.drive < d then s.startRamp n .air
      else s
    | .rampingUp => if d < c.drive then s.askOrder n .rfp (.drive d) else s
    | _ => s

/-- A change of ceiling with RF on by a trim or a match (R99, R124, R159). -/
def State.reshape (n : TxId) (s : State) : State := (s.recomposed n).1.driveTo n

/-! ## Recent-trip lists (R173, R174) -/

/-- The age of an entry on the elapsed-second count (R20). -/
def State.tripAge (s : State) (at_ : Nat) : Nat := (s.clk.elapsed + 4294967296 - at_ % 4294967296) % 4294967296

/-- The list of ANa with the entries older than 600 s removed (R173). -/
def State.recentTrips (s : State) (a : AntId) : List (TxId × Nat) :=
  (s.trips a).filter fun x => decide (s.tripAge x.2 ≤ 600)

/-- The different transmitters a list names, in its order. -/
def namesIn (l : List (TxId × Nat)) : List TxId := (l.map (·.1)).eraseDups

/-- A trip enters the list of the antenna charged, and a suspect decision follows where the list names two transmitters
(R173, R174). -/
def State.enterTrip (n : TxId) (a : AntId) (s : State) : State :=
  let l := ((n, s.clk.elapsed) :: s.recentTrips a).take 4
  let t := s.setTrips a l
  if 2 ≤ (namesIn l).length then t.suspectDecision a (namesIn l) else t

/-- The causes R173 enters. -/
def TripCause.listed : TripCause → Bool
  | .overload => false
  | _ => true

/-- A trip is entered where R173 requires it. -/
def State.noteTrip (n : TxId) (cause : TripCause) (s : State) : State :=
  match s.chargedAnt n with
  | some a => if cause.listed then s.enterTrip n a else s
  | none => s

/-! ## Trips (R169, R170) -/

/-- The trip's RF-OFF serves as the RF-OFF of a plan in RAMPDOWN (R110). -/
def State.tripServesPlan (n : TxId) (s : State) : State :=
  match s.plan n with
  | some p =>
    if p.phase = .rampdown ∧ p.deferFlags = false then
      s.setPlan n (some { p with phases := { p.phases with rampdown := .ended, rfOff := .running } })
    else s
  | none => s

/-- TXS takes a trip decision (R95): RF-OFF without a ramp and TRIPPED, or the RF-OFF already in hand completes it. -/
def State.tripAtTxs (n : TxId) (s : State) : State :=
  if (s.ctx n).state = .rampingDown ∧ s.rfOffOnLine n = true then s
  else (((s.askOrder n .rfp .rfOff).stopRamp n).toState n .tripped).tripServesPlan n

/-- No plan of TXn, or one whose RAMPUP is RUNNING (R169). -/
def State.recyclePlan (s : State) (n : TxId) : Bool :=
  match s.plan n with
  | some p => decide (p.phases.rampup = .running)
  | none => true

/-- A recycle is wanted (R169), by the state the trip found and the state its listing has left: a plan the trip's own suspect
decision has ended (R121, R143) is not recycled (DEDUCED, log 37). -/
def State.recycleWanted (s after : State) (n : TxId) : Bool :=
  !s.rfOffInHand n && s.recyclePlan n && after.recyclePlan n && ((s.plan n).isNone || (after.plan n).isSome)

/-- The recycle window begins afresh where it is absent or over (R170 step 1). -/
def State.freshWindow (n : TxId) (d : TxDef) (s : State) : State :=
  let p := s.prot n
  let isOver := match p.windowStart with
    | some w => decide (d.recycleWindow ≤ s.tripAge w)
    | none => true
  if isOver then s.updProt n fun q => { q with recycleCount := 0, windowStart := some s.clk.elapsed } else s

/-- A wanted recycle (R170): its outcome beside the state. -/
def State.countRecycle (n : TxId) (s : State) : State × TripOutcome :=
  match s.txDef n with
  | some d =>
    let t := s.freshWindow n d
    if d.recycleLimit ≤ (t.prot n).recycleCount then (t.txFault n .recycleLimit none, .limit)
    else
      ((t.updProt n fun p => { p with recycleCount := p.recycleCount + 1, waiting := true }).startChan (.tx n .recycle)
        (d.recycleDelay * 1000), .recycleWaiting)
  | none => (s, .noRecycle)

/-- A trip decision (R169). -/
def State.tripDecision (n : TxId) (cause : TripCause) (m : Option Meas) (s : State) : State :=
  let charged := s.chargedAnt n
  let s1 := (s.tripAtTxs n).updProt n fun p => { p with count := 0, fwdSum := 0, reflSum := 0, mask := true }
  let s2 := s1.noteTrip n cause
  let r := if s.recycleWanted s2 n then s2.countRecycle n else (s2.endTrip n, .noRecycle)
  let p := s2.prot n
  r.1.post (.trip n cause charged m p.fold (r.1.prot n).recycleCount (some r.2) p.floor p.short false)

/-- A unit trip under LOCAL (R168). DESIGN CHOICE (log 89): its TRIP carries none of the outcomes R169 lists, since no recycle logic
is started. -/
def State.localTrip (n : TxId) (cause : TripCause) (s : State) : State :=
  let t := s.noteTrip n cause
  let p := t.prot n
  t.post (.trip n cause (s.chargedAnt n) none p.fold p.recycleCount none p.floor p.short true)

/-- The context carries RF by its state: RAMPING_UP, ON_AIR or RAMPING_DOWN. -/
def CtxState.carries : CtxState → Bool
  | .rampingUp => true
  | .onAir => true
  | .rampingDown => true
  | _ => false

/-- A unit trip handed by TXS (R95, R168, R169). -/
def State.unitTrip (n : TxId) (cause : TripCause) (s : State) : State :=
  if (s.ctx n).source = .localKey then s.localTrip n cause
  else if (s.ctx n).state.carries then s.tripDecision n cause none
  else s

/-- A TRIP report (R95, R168): one that is not discarded bars every later STATE report from being taken for a trip until the
next RF-ON. -/
def State.tripReport (n : TxId) (cause : TripCause) (s : State) : State :=
  if (s.ctx n).source = .localKey ∨ (s.ctx n).state.carries = true then
    (s.updCtx n fun c => { c with tripSeen := true }).unitTrip n cause
  else s

/-! ## Windows (R162 to R168) -/

/-- The action an evaluated window leads to (R166). -/
def windowAction (e : Eval) (fold : Nat) : Option RfAction :=
  if e.thr.trip ≤ e.s then some .trip
  else if e.thr.fold ≤ e.s then (if fold < 4 then some .fold else some .trip)
  else if e.thr.warn ≤ e.s then some .warn
  else none

/-- The measurement a notice carries. -/
def measOf (pf pr : Nat) (e : Eval) : Meas := ⟨pf, pr, e.gamma, e.s, e.thr⟩

/-- The fold level changes with the drive recomposed, FOLD is posted and the drive asked for (R166, R167). -/
def State.foldTo (n : TxId) (level : Nat) (m : Meas) (recovered : Bool) (s : State) : State :=
  let r := (s.updProt n fun p => { p with fold := level, run := 0 }).recomposed n
  let p := r.1.prot n
  (r.1.post (.fold n level r.2 p.d m p.floor p.short recovered)).driveTo n

/-- A clean window (R166, R167): the run count rises, and at 8 a recovery is made where it may be. -/
def State.cleanWindow (n : TxId) (m : Meas) (s : State) : State :=
  let t := s.updProt n fun p => { p with run := bumpTo 8 p.run }
  let p := t.prot n
  if p.run < 8 then t
  else if p.fold = 0 then t.updProt n fun q => { q with run := 0 }
  else if (t.ctx n).state = .rampingDown ∨ t.pathConfirmed n = true then t.foldTo n (p.fold - 1) m true
  else t

/-- The actions of an evaluated window (R166, R168). -/
def State.judge (n : TxId) (m : Meas) (e : Eval) (s : State) : State :=
  let p := s.prot n
  let act := windowAction e p.fold
  if (s.ctx n).source = .localKey then
    match act with
    | some x => s.post (.vswrWarn n p.fold m p.floor p.short (some x))
    | none => s
  else match act with
    | some .trip => s.tripDecision n (if e.thr.trip ≤ e.s then .reflected else .foldExhausted) (some m)
    | some .fold => s.foldTo n (p.fold + 1) m false
    | some .warn => (s.updProt n fun q => { q with run := 0 }).post (.vswrWarn n p.fold m p.floor p.short none)
    | none => s.cleanWindow n m

/-- The evaluation of a window (R164, R165). -/
def State.evalWindow (s : State) (n : TxId) (pf pr : Nat) : Eval :=
  let p := s.prot n
  ⟨gammaOf pf pr, vswrOf pf pr, vswrClamped pf pr, s.thresholds n, p.floor, p.short⟩

/-- A window closes (R162, R163). -/
def State.closeWindow (n : TxId) (s : State) : State :=
  let p := s.prot n
  let pf := p.fwdSum / 4
  let pr := p.reflSum / 4
  let t := s.updProt n fun q => { q with count := 0, fwdSum := 0, reflSum := 0 }
  if p.mask then t.updProt n fun q => { q with mask := false, last := some ⟨pf, pr, true, false, none⟩ }
  else if decide (pf < s.hds.hall.minForward) || decide (pf = 0) then
    t.updProt n fun q => { q with last := some ⟨pf, pr, false, true, none⟩ }
  else
    let e := s.evalWindow n pf pr
    (t.updProt n fun q => { q with last := some ⟨pf, pr, false, false, some e⟩ }).judge n (measOf pf pr e) e

/-- A METER report handed to RFP (R162). -/
def State.meter (n : TxId) (forward reflected : Nat) (s : State) : State :=
  if (s.ctx n).state.carries && decide ((s.ctx n).rf = .on) then
    let t := s.updProt n fun p =>
      { p with count := p.count + 1, fwdSum := p.fwdSum + forward, reflSum := p.reflSum + reflected }
    if (t.prot n).count = 4 then t.closeWindow n else t
  else s

/-! ## The recycle expiry (R171) -/

/-- The record's booking has been cancelled (R61, R75). -/
def OccRec.cancelled (r : OccRec) : Bool := decide (r.status = .done .cancelled)

/-- The target test of R171: a plan in RAMPUP or a LIVE occurrence whose interval has not ended. A cancelled booking fails it; the
target of a plan that a promotion made DONE (R61) is tested by its interval alone. -/
def State.recycleTarget (s : State) (n : TxId) : Bool :=
  match s.plan n with
  | some p => decide (p.phases.rampup = .running) &&
      (match p.target with
        | some id => match s.recordOf n id with
          | some r => !r.cancelled && !hasEnded r.finish s.now
          | none => false
        | none => false)
  | none => match s.liveRec n with
    | some r => !hasEnded r.finish s.now
    | none => false

/-- The path test of R171. -/
def State.recyclePath (s : State) (n : TxId) : Bool :=
  s.rowAt n .load ||
  (match s.owned n with
    | some a => s.inService a && decide (s.pos (.sel a) = .atp (.tx n)) && !s.zoneOpenAt a
    | none => false)

/-- The composition of a recycle (R158, R171) at the present fold level. -/
def State.recycleComp (s : State) (n : TxId) : Option Comp :=
  (s.composeFor n (s.powerOf n) (s.prot n).path (s.prot n).fold).filter fun k => !k.limit

/-- The recycle RF-ON is asked (R171, R159), with the TAPS list as stored (R13). -/
def State.recycleOn (n : TxId) (k : Comp) (s : State) : State :=
  let t := s.updProt n fun p => { p with d := k.d, floor := k.floor, short := false, clamped := k.clamped, waiting := false, taps := none }
  (t.post (.recycle n (t.prot n).recycleCount (t.prot n).fold k.tap k.d)).askOrder n .rfp (.rfOn k.tap)

/-- The expiry of the recycle channel (R171). -/
def State.recycleExpired (n : TxId) (s : State) : State :=
  let t := s.updProt n fun p => { p with waiting := false }
  if (s.ctx n).state = .tripped then
    if !s.recycleTarget n then t.recycleFails n .targetEnded
    else if !(s.recyclePath n && s.hallRuns) then t.recycleFails n .service
    else match s.recycleComp n with
      | some k => (t.drawn n).recycleOn n k
      | none => t.recycleFails n .rejected
  else t

end Sys2Proof.Machine
end

