-- ==== Sys2Proof/Machine/Sequence.lean ====
section
/-! DEFINITION. CSQ's requests: a changeover (R107), claims (R114), the beginning of each phase (R108 to R116), retargets
(R120), the release of a hold (R119) and the matching test (R124). -/

namespace Sys2Proof.Machine
open Sys2Proof

/-! ## Claims of a plan (R114) -/

/-- CSQ submits the claim of TXn's plan, keeping the first claim second on the same antenna (R114, R129). -/
def State.submitClaim (n : TxId) (s : State) : State :=
  match s.plan n with
  | some p => match p.setp, targetPath p.setp with
    | some t, some a =>
      let sec := if p.claimAnt = some a then p.claimSec.getD s.now else s.now
      let u := s.setPlan n (some { p with
        claimSec := some sec, claimAnt := some a, phases := { p.phases with claim := .running } })
      let r := u.claim a ⟨n, t.priority, t.kind, t.wait, sec⟩
      match r.2 with
      | .granted => r.1.updPlan n Plan.granted
      | .reserved => r.1.updPlan n fun q => { q with claim := .reserved }
      | .busy => r.1.updPlan n fun q => { q with claim := .retry }
      | .unusable => r.1.causeReaches n .service
    | _, _ => s
  | none => s

/-- The claim of a plan whose needs-path is yes is submitted once its flags are set, where the antenna is not already claimed
(R107, R120). -/
def State.claimIfNeeded (n : TxId) (s : State) : State :=
  match s.plan n with
  | some p =>
    if p.phases.claim = .waiting ∧ p.deferFlags = false then
      (if (p.claim = .reserved ∨ p.claim = .retry) ∧ p.claimAnt = targetPath p.setp then
        s.setPlan n (some { p with phases := { p.phases with claim := .running } })
      else s.submitClaim n)
    else s
  | none => s

/-- At a whole minute each claim in RETRY is submitted again (R114). -/
def State.resubmit (s : State) : State :=
  if s.clk.sec % 60 = 0 then
    s.eachTx fun n t => match t.plan n with
      | some p => if p.claim = .retry then t.submitClaim n else t
      | none => t
  else s

/-! ## Creation (R107) -/

/-- A changeover wanted: a target, its setpoint and planned second (absent for NONE), and D. -/
structure Changeover where
  target : Option TargetId
  setp : Option Setpoint
  planned : Option Nat
  d : Nat
deriving DecidableEq, Repr

/-- The plan a request creates, before its flags are computed (R106, R107). -/
def State.freshPlan (s : State) (n : TxId) (c : Changeover) (cause : Option Cause) (windDown : Bool) : Plan :=
  { Plan.toNone cause windDown (ringAdd s.now c.d) s.csq.hold[n] with
    target := c.target
    setp := c.setp
    planned := c.planned }

/-- A ramp up in progress under a recycle is taken over by the plan (R107). -/
def State.takeOverRamp (n : TxId) (s : State) : State :=
  s.updCtx n fun c => { c with ramp := c.ramp.map fun r => { r with forCsq := true } }

/-- CSQ takes a changeover request for a transmitter with no plan in flight (R107). -/
def State.changeover (n : TxId) (c : Changeover) (s : State) : State :=
  match s.plan n with
  | some _ => s
  | none =>
    let t := (s.setPlan n (some (s.recompute n (s.freshPlan n c none false)))).takeOverRamp n
    (t.claimIfNeeded n).settlePlan n

/-- The flags of a plan created in TUNING are set when the retune ends (R107), unless a retarget is pending: then they are set as
it takes effect (R120). -/
def State.flagsDue (n : TxId) (s : State) : State :=
  match s.plan n with
  | some p =>
    if p.deferFlags = true ∧ p.pend = none ∧ (s.ctx n).state ≠ .tuning then
      ((s.setPlan n (some (s.recompute n p))).claimIfNeeded n).settlePlan n
    else s
  | none => s

/-! ## The beginning of a phase (R108 to R116) -/

/-- A phase becomes RUNNING. -/
def State.running (n : TxId) (ph : Phase) (s : State) : State :=
  s.updPlan n fun p => { p with phases := p.phases.put ph .running }

/-- The plan of TXn asks AMX for a move and waits for its arrival. A row already TRAVELLING to the position is waited for and
not ordered again (R111). DESIGN CHOICE (log 75): so is the selector of a RELEASE that is TRAVELLING to GROUND (R112). -/
def State.planMove (n : TxId) (act : ActId) (p : Place) (s : State) : State :=
  match s.plan n with
  | some q =>
    let t := s.setPlan n (some { q with awaiting := q.awaiting ++ [(act, p)] })
    if t.pos act = .travelling p then t else t.askMove (.plan n) act p
  | none => s

/-- RAMPDOWN begins (R110). A phase whose work is done already ends at once (DEDUCED, log 15). -/
def State.beginRampdown (n : TxId) (s : State) : State :=
  let c := s.ctx n
  if decide (c.rf = .on) && c.state.carries && !s.rfOffInHand n then
    (if s.rampingDown n then s else (s.toState n .rampingDown).startRamp n .down)
  else s.endPhase n .rampdown

/-- RF_OFF begins (R110): an RF-OFF in hand is waited for. -/
def State.beginRfOff (n : TxId) (s : State) : State :=
  if (s.ctx n).rf = .off then s.endPhase n .rfOff
  else if s.rfOffInHand n then s
  else s.askOrder n .csq .rfOff

/-- RELEASE begins (R112). -/
def State.beginRelease (n : TxId) (s : State) : State :=
  match s.owned n with
  | some a => s.planMove n (.sel a) .ground
  | none => s.endPhase n .release

/-- PATH_OUT begins (R115): up to two moves. -/
def State.beginPathOut (n : TxId) (p : Plan) (t : Setpoint) (s : State) : State :=
  match t.path with
  | some a =>
    let both := (if p.needsPath then [(ActId.sel a, Place.tx n)] else []) ++
      (if p.needsBeam then [(ActId.beam a, Place.beam t.beam)] else [])
    let u := s.updPlan n fun q => { q with awaiting := q.awaiting ++ both }
    u.each both fun x v => match v.plan n with
      | some q => if q.awaiting.contains x then v.askMove (.plan n) x.1 x.2 else v
      | none => v
  | none => s.endPhase n .pathOut

/-- RAMPUP begins (R116): fold level 0, the composition with the TAPS list as stored (R13), and RF-ON. -/
def State.beginRampup (n : TxId) (t : Setpoint) (s : State) : State :=
  let u := s.updProt n fun p => { p with fold := 0, run := 0, power := some t.power, path := t.path }
  match u.composeFor n t.power t.path 0 with
  | some k =>
    if k.limit then u.planRefused n .rampup .limit
    else
      (u.updProt n fun p => { p with d := k.d, floor := k.floor, short := false, clamped := k.clamped, taps := none }).askOrder n .csq
        (.rfOn k.tap)
  | none => u

/-- A phase makes its request. -/
def State.request (n : TxId) (ph : Phase) (p : Plan) (s : State) : State :=
  match ph with
  | .warm =>
    if (s.ctx n).state = .dark ∨ (s.ctx n).state = .warming then s.askOrder n .csq .warm else s.endPhase n .warm
  | .rampdown => s.beginRampdown n
  | .rfOff => s.beginRfOff n
  | .toLoad => s.planMove n (.row n) .load
  | .release => s.beginRelease n
  | .tune => match p.setp with
    | some t => s.askOrder n .csq (.tune t.freq)
    | none => s.endPhase n .tune
  | .claim => s.submitClaim n
  | .pathOut => match p.setp with
    | some t => s.beginPathOut n p t
    | none => s.endPhase n .pathOut
  | .toMatrix => s.planMove n (.row n) .matrix
  | .hold => s.updPlan n (fun q => { q with atHold := true }) |>.post (.holdReached n p.target p.holdPoint (p.running ++ [.hold]))
  | .rampup => match p.setp with
    | some t => s.beginRampup n t
    | none => s.endPhase n .rampup
  | .done => s.settlePlan n

/-- A WAITING phase begins, where R108 lets it. -/
def State.phaseBegins (n : TxId) (ph : Phase) (s : State) : State :=
  match s.plan n with
  | some p => if p.mayBegin ph && !decide (ph = .done) then (s.running n ph).request n ph p else s
  | none => s

/-! ## Holds (R119) -/

/-- The hold of a plan ends (R119). -/
def Plan.released (p : Plan) : Plan :=
  if p.holdPoint = .beforeRf then { p with atHold := false, phases := { p.phases with hold := .ended } }
  else { p with atHold := false, holdReleased := true }

/-! ## Retargets (R120) -/

/-- CSQ takes a retarget: RAMPUP neither RUNNING nor ENDED. -/
def Plan.takesRetarget (p : Plan) : Bool :=
  !decide (p.phases.rampup = .running) && !decide (p.phases.rampup = .ended)

/-- The claim is withdrawn where the new target's antenna differs from the claimed one (R120). -/
def State.withdrawForRetarget (n : TxId) (path : Option AntId) (s : State) : State :=
  match s.plan n with
  | some p =>
    if (p.claim = .reserved ∨ p.claim = .retry) ∧ p.claimAnt ≠ path then
      (s.withdrawClaim n).updPlan n fun q => { q with claim := .none, claimAnt := none, claimSec := none }
    else s
  | none => s

/-- CSQ takes a retarget of TXn's plan (R120). -/
def State.retarget (n : TxId) (c : Changeover) (s : State) : State :=
  match s.plan n with
  | some p =>
    if p.takesRetarget then
      let t := (s.withdrawForRetarget n (targetPath c.setp)).dropHeld fun h => decide (h.asker = .plan n)
      (t.updPlan n fun q => { q with
        awaiting := q.awaiting.filter fun x => decide (s.pos x.1 = .travelling x.2)
        atHold := false
        pend := some ⟨c.target, c.setp, c.planned, c.d⟩ }).askAgain
    else s
  | none => s

/-- A request of the plan is in progress (R120). -/
def Plan.inProgress (p : Plan) : Bool :=
  decide (p.phases.warm = .running) || decide (p.phases.rampdown = .running) || decide (p.phases.rfOff = .running) ||
    decide (p.phases.tune = .running) || !p.awaiting.isEmpty

/-- The setpoint, planned and predicted seconds taken from a retarget (R120); the claim second stays with its antenna (R129). DESIGN
CHOICE (log 101): a hold already released holds again for the new target. -/
def State.retargeted (s : State) (p : Plan) (r : Retarget) : Plan :=
  { p with
    target := r.target
    setp := r.setp
    planned := r.planned
    predicted := ringAdd s.now r.d
    pend := none
    windDown := p.windDown && r.setp.isNone
    cause := if r.setp.isNone then p.cause else none
    claimSec := if p.claimAnt = targetPath r.setp then p.claimSec else none
    claimAnt := if p.claimAnt = targetPath r.setp then p.claimAnt else none
    holdReleased := false }

/-- A pending retarget takes effect once no request of the plan is in progress (R120). -/
def State.retargetEffect (n : TxId) (s : State) : State :=
  match s.plan n with
  | some p => match p.pend with
    | some r =>
      if p.inProgress then s
      else ((s.setPlan n (some (s.recompute n (s.retargeted p r)))).claimIfNeeded n).settlePlan n
    | none => s
  | none => s

/-! ## Matching (R124) -/

/-- The composition of a target at the present fold level, on the TAPS list in use (R13), chooses the tap the context holds
(R124). -/
def State.sameTap (s : State) (n : TxId) (t : Setpoint) : Bool :=
  (s.txDef n).any fun d =>
    let k := compose (s.onTaps n d) t.power (s.ctx n).trim (s.pathRating d t.path) (s.prot n).fold
    !k.limit && decide ((s.ctx n).tap = some k.tap)

/-- The transmitter is on the path of a target (R124). -/
def State.onPath (s : State) (n : TxId) (t : Setpoint) : Bool :=
  match t.path with
  | none => s.rowAt n .load && (s.owned n).isNone
  | some a => decide (s.owned n = some a) && s.rowAt n .matrix && decide (s.pos (.sel a) = .atp (.tx n)) &&
      (!s.beamDefined a || decide (s.pos (.beam a) = .atp (.beam t.beam)))

/-- CSQ answers MATCH (R124). -/
def State.matching (s : State) (n : TxId) (t : Setpoint) : Bool :=
  decide ((s.ctx n).state = .onAir) && decide ((s.ctx n).rf = .on) && (s.plan n).isNone &&
    !decide ((s.ctx n).source = .localKey) && decide ((s.ctx n).tuned = some t.freq) && s.onPath n t && s.sameTap n t

/-- The effects of a MATCH (R124): the ownership takes the target's kind and priority, and RFP recomputes the drive. -/
def State.matched (n : TxId) (t : Setpoint) (s : State) : State :=
  (((s.ownAs n t).updProt n fun p => { p with power := some t.power, path := t.path }).updCtx n fun c =>
    { c with adopted := false }).reshape n

end Sys2Proof.Machine
end

