-- ==== Sys2Proof/Machine/Context.lean ====
section
/-! DEFINITION. Reports on the hall lines: intake (R83 to R85), the rebuild of a context (R86), STATE (R81, R92, R96, R97),
TUNED, TUNE-FAIL, TRIP and FAULT (R90, R94, R95), the timed ends (R84, R89, R90, R92), the consistency checks on one
transmitter (R178 to R180, R184), adoption (R182) and the judging of a CLEAR-FAULT (R98, R185). -/

namespace Sys2Proof.Machine
open Sys2Proof

/-! ## Intake -/

/-- A report on the line of TXn: discarded while TXn is undefined (R1), it retriggers the silence channel (R29), and the
first one on a LOST line restores it, where only a STATE report is then digested (R85). DESIGN CHOICE (log 71): that STATE report is
digested after the restoration's STATUS-ASK, and so shows it (R34). -/
def State.report (n : TxId) (isState : Bool) (f : State → State) (s : State) : State :=
  if s.txDefined n then
    if (s.ctx n).lineUp then f (s.retrigger (.tx n .silence))
    else if isState then f (s.lineRestored n)
    else s.lineRestored n
  else s

/-- A report other than STATE, ACCEPT and REJECT is discarded while the context is UNKNOWN (R85). DESIGN CHOICE (log 70): it shows no
sent order then (R34). -/
def State.known (n : TxId) (f : State → State) (s : State) : State :=
  if (s.ctx n).state = .unknown then s else f s

/-! ## What a STATE report shows -/

/-- An RF-ON is outstanding or deferred (R81). -/
def Ctx.rfOnInHand (c : Ctx) : Bool :=
  (match c.outstanding with
    | some o => match o.order with
      | .rfOn _ => true
      | _ => false
    | none => false) ||
  (match c.deferred with
    | some d => match d.order with
      | .rfOn _ => true
      | _ => false
    | none => false)

/-- The report confirms RF off (R81). DEDUCED (log 61): a report that shows RF_ON confirms nothing, whatever its flag. -/
def Ctx.confirms (c : Ctx) (r : StateReport) : Bool :=
  !decide (r.unit = .rfOn) && r.rfOffConfirmed && !c.rfOnInHand

/-- The RF condition after a STATE report (R81); RF_ON gives ON even with the flag set (DEDUCED, log 61). -/
def Ctx.rfBy (c : Ctx) (r : StateReport) : Rf :=
  if r.unit = .rfOn then .on else if c.confirms r then .off else c.rf

/-- The report shows the effect of a sent order (table of R34). -/
def Order.shownBy (o : Order) (r : StateReport) : Bool :=
  match o with
  | .warm => decide (r.unit = .warming) || decide (r.unit = .standby)
  | .darken => decide (r.unit = .dark)
  | .tune _ => false
  | .rfOn _ => decide (r.unit = .rfOn)
  | .drive v => decide (r.drive = v)
  | .rfOff => r.rfOffConfirmed
  | .statusAsk => true

/-- What every digested STATE report writes: the RF condition (R81), the last unit report (R80), the orders shown (R34). -/
def State.noteState (n : TxId) (r : StateReport) (s : State) : State :=
  s.updCtx n fun c => { c with
    rf := c.rfBy r
    last := some r
    unshown := c.unshown.filter fun o => !o.shownBy r }

/-! ## The rebuild of a context (R86) -/

/-- The context takes a state, the channels of the state it leaves stopped (DEDUCED, log 13). -/
def State.rebuildTo (n : TxId) (st : CtxState) (s : State) : State :=
  if (s.ctx n).state = st then s else ((s.stopChan (.tx n .warmUp)).stopChan (.tx n .tune)).toState n st

/-- The context is set from a STATE report by the table of R86, without the RF condition; the channel of WARMING and of TUNING is
started with its full time. DESIGN CHOICE (log 98): for TRIPPED the report's frequency is taken where the context goes READY, and
the tuned frequency stays where it goes STANDBY. -/
def State.rebuild (n : TxId) (r : StateReport) (s : State) : State :=
  match r.unit with
  | .dark => (s.rebuildTo n .dark).updCtx n fun c => { c with tuned := none }
  | .warming => match s.txDef n with
    | some d =>
      if d.warmUp = 0 then (s.rebuildTo n .warming).updCtx n fun c => { c with warmWait := .untilStandby }
      else ((s.rebuildTo n .warming).startChan (.tx n .warmUp) (d.warmUp * 1000)).updCtx n fun c =>
        { c with warmWait := .timed }
    | none => s
  | .standby => (s.rebuildTo n .standby).updCtx n fun c => { c with tuned := none }
  | .tuning => match s.txDef n with
    | some d => ((s.rebuildTo n .tuning).startChan (.tx n .tune) (d.tuneTimeout * 1000)).updCtx n fun c =>
        { c with tuneFreq := none }
    | none => s
  | .tuned => (s.rebuildTo n .ready).updCtx n fun c => { c with tuned := r.freq }
  | .rfOn => (s.rebuildTo n .onAir).updCtx n fun c => { c with
      tap := some r.tap
      drive := r.drive
      tuned := match r.freq with
        | some f => some f
        | none => c.tuned }
  | .tripped => match r.freq with
    | some f => (s.rebuildTo n .ready).updCtx n fun c => { c with tuned := some f }
    | none => s.rebuildTo n .standby
  | .fault => ((s.stopWork n).toFaulted n .unit)

/-! ## Adoption (R182, R184) -/

/-- The ownership of ANa by TXn is kept or begins as R182 states. -/
def State.adoptOwn (n : TxId) (a : AntId) (s : State) : State :=
  match s.owner a with
  | some o =>
    if o.tx = n ∧ o.kind ≠ .localKey then
      s.updRun a fun r => { r with owner := some { o with kind := .adopted, priority := 0 } }
    else s
  | none =>
    if (s.owned n).isNone then
      let own : Own := if (s.ctx n).source = .localKey then ⟨n, .localKey, 7, s.now⟩ else ⟨n, .adopted, 0, s.now⟩
      s.takeAnt a own
    else s

/-- The drive of the last STATE report (R182). -/
def Ctx.shownDrive (c : Ctx) : Nat :=
  match c.last with
  | some r => r.drive
  | none => c.drive

/-- The tap of the last STATE report (R182). -/
def Ctx.shownTap (c : Ctx) : Option Nat :=
  match c.last with
  | some r => some r.tap
  | none => c.tap

/-- A transmitter found on the air is adopted (R182): its context is ON_AIR with the tap and drive of its last STATE report, and
its windows begin afresh, with no power known to RFP. -/
def State.adopt (n : TxId) (s : State) : State :=
  let own := s.owned n
  let drive := (s.ctx n).shownDrive
  (((s.stopWork n).toState n .onAir).updCtx n fun c =>
    { c with tap := c.shownTap, drive := c.shownDrive, adopted := true }).updProt n fun p =>
    { p with fold := 0, run := 0, mask := true, power := none, path := own, d := drive }

/-! ## The consistency checks on one transmitter (R178 to R180) -/

/-- The condition of check 1 (R178). -/
def State.twoSelectors (s : State) (n : TxId) : Bool := decide (2 ≤ (s.standing n).length)

/-- The condition of check 2 (R179). -/
def State.noSelector (s : State) (n : TxId) : Bool :=
  !decide ((s.ctx n).rf = .off) && s.rowAt n .matrix && (s.standing n).isEmpty

/-- The cases of check 3 (R180); a transmitter whose line is LOST is left UNSURE. -/
def State.mustComeOff (s : State) (n : TxId) : Bool :=
  !decide ((s.ctx n).rf = .off) && (s.ctx n).lineUp &&
    ((s.rowAt n .matrix && (s.standing n).any fun a => s.zoneOpenAt a || !s.inService a) ||
     (!s.rowAt n .matrix && !s.rowAt n .load) ||
     decide ((s.ctx n).rf = .unsure))

/-- The queries that TXS still awaits once a check has locked a context out: those of a clearing of cause ADOPTION go on to be
judged (R185). DESIGN CHOICE (log 95): a clearing of a cause that the check replaces ends. -/
def Ctx.clearingKept (c : Ctx) : List ActId := if c.cause = some .adoption then c.clearing else []

/-- TXn becomes FAULTED with cause ADOPTION (R178, R179): one TX-FAULT where it was not FAULTED before. -/
def State.lockOut (n : TxId) (s : State) : State :=
  let t := s.rfOffUnlessOff n .check
  if (t.ctx n).state = .faulted then (t.updCtx n fun c => { c with clearing := c.clearingKept }).toFaulted n .adoption
  else t.txFault n .adoption none

/-- AMX asks its own move of every selector that stands at TXn to GROUND (R178). -/
def State.groundStanding (n : TxId) (s : State) : State :=
  s.each (s.standing n) fun a t => t.askMove .amx (.sel a) .ground

/-- ADOPTION-LOCKOUT for TXn as it was found (R183). -/
def State.lockoutNotice (s : State) (n : TxId) (check : Nat) (rf : Rf) : Notice :=
  .adoptionLockout n check rf (s.pos (.row n)) (s.standing n)

/-- Checks 1 to 3 and the adoption of one transmitter rebuilt after a line loss (R184). Where an RF-OFF is in hand, it is not
adopted (R85). -/
def State.lineAdoption (n : TxId) (s : State) : State :=
  let rf := (s.ctx n).rf
  if s.twoSelectors n then ((s.lockOut n).groundStanding n).post (s.lockoutNotice n 1 rf)
  else if s.noSelector n then (s.lockOut n).post (s.lockoutNotice n 2 rf)
  else if s.mustComeOff n then s.askOrder n .check .rfOff
  else if rf = .on ∧ s.rfOffInHand n = false then
    (match s.owned n with
      | some a => s.adoptOwn n a
      | none => if s.rowAt n .matrix then s.each (s.standing n) fun a t => t.adoptOwn n a else s).adopt n
  else s

/-! ## Local control (R97) -/

/-- The key is found at LOCAL (R97, R133, R172). -/
def State.localTaken (n : TxId) (s : State) : State :=
  let d := (s.ctx n).deferred
  let s1 := s.updCtx n fun c => { c with
    source := .localKey
    deferred := c.deferred.filter fun x : Deferred => decide (x.order = .rfOff) }
  let s2 := match d with
    | some x => if x.order = Order.rfOff then s1 else s1.answer n x.who x.order .localKey
    | none => s1
  ((((s2.stopWork n).post (.localTaken n)).stopRecycle n).causeReaches n .localKey).localOwn n

/-- The source a stored setting puts in force. -/
def sourceOf : Stored → Source
  | .auto => .auto
  | .manual => .manual

/-- The key is found at REMOTE (R97, R133). Where AUTO comes into force the bookings leave as R77 states (DEDUCED, log 17). -/
def State.localReleased (n : TxId) (s : State) : State :=
  let t := ((s.updCtx n fun c => { c with source := sourceOf c.stored }).post (.localReleased n)).localReturn n
  if (s.ctx n).stored = .auto then t.endBookings n else t

/-- The source in force follows the key a STATE report shows (R97). -/
def State.keySeen (n : TxId) (r : StateReport) (s : State) : State :=
  if r.keyLocal then (if (s.ctx n).source = .localKey then s else s.localTaken n)
  else if (s.ctx n).source = .localKey then s.localReleased n
  else s

/-! ## The check of R96 -/

/-- The unit state is one the context can explain (table of R96). -/
def Ctx.explains (c : Ctx) (u : UnitState) : Bool :=
  match c.state with
  | .dark => decide (u = .dark) || (decide (u = .warming) && c.sentSince.warm)
  | .warming => decide (u = .dark) || decide (u = .warming) || decide (u = .standby)
  | .standby => decide (u = .standby) || (decide (u = .tuning) && c.sentSince.tune) || (decide (u = .dark) && c.sentSince.darken)
  | .tuning => decide (u = .standby) || decide (u = .tuned) || decide (u = .tuning)
  | .ready => decide (u = .tuned) || (decide (u = .tuning) && c.sentSince.tune) || (decide (u = .rfOn) && c.sentSince.rfOn) ||
      (decide (u = .dark) && c.sentSince.darken)
  | .rampingUp => (decide (u = .tuned) && !c.rfShown) || decide (u = .rfOn) ||
      ((decide (u = .tuned) || decide (u = .standby)) && c.sentSince.rfOff)
  | .onAir => decide (u = .rfOn) || ((decide (u = .tuned) || decide (u = .standby)) && c.sentSince.rfOff)
  | .rampingDown => decide (u = .rfOn) || ((decide (u = .tuned) || decide (u = .standby)) && c.sentSince.rfOff)
  | .tripped => decide (u = .rfOn) || decide (u = .tripped) || decide (u = .tuned) || decide (u = .standby)
  | _ => true

/-- WARMING ends at STANDBY, handed to CSQ as the end of the WARM phase (R89). -/
def State.warmed (n : TxId) (s : State) : State := (s.toState n .standby).endPhase n .warm

/-- A WARMING context whose warm-up is over awaits its next STATE report (R89). -/
def Ctx.awaitsReport (c : Ctx) : Bool := decide (c.state = .warming) && decide (c.warmWait = .nextReport)

/-- What an explained report moves (R89, R91, R93, R96), and the report a WARMING context awaits (R89). -/
def State.explained (n : TxId) (r : StateReport) (s : State) : State :=
  let t := s.updCtx n fun c => { c with
    tuned := match r.freq with
      | some f => some f
      | none => c.tuned
    rfShown := c.rfShown || decide (r.unit = .rfOn) }
  let c := t.ctx n
  match c.state with
  | .warming => match c.warmWait with
    | .timed => t
    | .untilStandby => if r.unit = .standby then t.warmed n else t
    | .nextReport => if r.unit = .standby then t.warmed n else t.txFault n .warm none
  | .standby => if r.unit = .dark then (t.toState n .dark).updCtx n fun x => { x with tuned := none } else t
  | .ready => if r.unit = .dark then (t.toState n .dark).updCtx n fun x => { x with tuned := none } else t
  | _ => t

/-- An RF-OFF that was sent is confirmed (R92): the channel stops, a context that carried RF by its state becomes READY or STANDBY,
and CSQ is told. -/
def State.confirmed (n : TxId) (r : StateReport) (s : State) : State :=
  let t := s.stopChan (.tx n .rfOff)
  let u :=
    if (t.ctx n).state.carries then
      (if r.unit = .tuned then (t.toState n .ready).updCtx n fun c => { c with tuned := match r.freq with
          | some f => some f
          | none => c.tuned }
       else t.toState n .standby)
    else t.leaveTripped n
  u.endPhase n .rfOff

/-! ## STATE -/

/-- A trip of this RF period has been handed under LOCAL (log 39). -/
def Ctx.localTripped (c : Ctx) : Bool := c.tripSeen || c.localTrip

/-- What a STATE report digested under LOCAL does beside the state it sets: the actions of R94 for FAULT, and the TRIP of R168,
once until RF_ON (log 39). -/
def State.localShown (n : TxId) (r : StateReport) (s : State) : State :=
  match r.unit with
  | .fault => if (s.ctx n).state = .faulted then s else s.faultActions n .unit
  | .tripped =>
    if (s.ctx n).localTripped then s else (s.updCtx n fun c => { c with localTrip := true }).unitTrip n .overload
  | .rfOn => s.updCtx n fun c => { c with tripSeen := false, localTrip := false }
  | _ => s

/-- A STATE report under LOCAL sets the context by R86 (R97). -/
def State.localState (n : TxId) (r : StateReport) (s : State) : State :=
  let t := s.localShown n r
  if r.unit = .fault then t else t.rebuild n r

/-- The key comes back to REMOTE in a STATE report on a context under LOCAL that is not UNKNOWN. -/
def State.keyReturns (s : State) (n : TxId) (r : StateReport) : Bool :=
  decide ((s.ctx n).source = .localKey) && !r.keyLocal && !decide ((s.ctx n).state = .unknown)

/-- The check of R96, and the report that a WARMING context awaits (R89). -/
def State.checkState (n : TxId) (r : StateReport) (s : State) : State :=
  if (s.ctx n).awaitsReport || (s.ctx n).explains r.unit then s.explained n r else s.faultActions n .mismatch

/-- A STATE report on a context neither UNKNOWN nor under LOCAL (R94, R95, R96). After a TRIP report the STATE form of a trip is
discarded (R169: one trip is counted once). -/
def State.judgeState (n : TxId) (r : StateReport) (s : State) : State :=
  let c := s.ctx n
  if c.state = .faulted then s
  else match r.unit with
    | .fault => s.faultActions n .unit
    | .tripped =>
      if c.state.carries then (if c.tripSeen then s else s.unitTrip n .overload) else s.checkState n r
    | _ => s.checkState n r

/-- RSn is found in FAULT as TXS rebuilds an UNKNOWN context (R153). -/
def State.rowCheck (n : TxId) (s : State) : State :=
  if s.actFaulted (.row n) then
    (if (s.ctx n).state = .faulted then s.toFaulted n .rowSwitch else s.faultActions n .rowSwitch)
  else s

/-- An UNKNOWN context is rebuilt (R86, R153), and one lost with its line is checked and adopted (R184): during SURVEYING the
rebuild ends its turn. -/
def State.rebuildUnknown (n : TxId) (r : StateReport) (s : State) : State :=
  let lost := (s.ctx n).lostUnknown
  let t := ((s.rebuild n r).rowCheck n).updCtx n fun c => { c with lostUnknown := false }
  if !lost then t
  else if s.hallRuns || decide (s.txs.hall = .halted) then t.lineAdoption n
  else t.setTurn n .answered

/-- In EMERGENCY a unit found with RF on is taken off again (R104). -/
def State.emergencyOff (n : TxId) (r : StateReport) (s : State) : State :=
  if s.txs.hall = .emergency ∧ r.unit = .rfOn ∧ s.rfOffOnLine n = false then s.askOrder n .emergency .rfOff else s

/-- The survey turn of TXn is LOST. -/
def State.turnLost (s : State) (n : TxId) : Bool :=
  match s.txs.survey with
  | some q => decide (q.turns[n] = some .lost)
  | none => false

/-- The survey turn of TXn ends at a STATE report digested after its STATUS-ASK was sent; a LOST one at the STATE report digested
once the line is restored (R175). DESIGN CHOICE (log 90): a STATUS-ASK that an RF-OFF keeps out of the deferred slot or puts out of
it is never sent, and the turn ends at the next STATE report. -/
def State.turnAnswered (n : TxId) (s : State) : State :=
  if !s.turnLost n && ((s.ctx n).deferred.any fun d => decide (d.order = .statusAsk)) then s else s.setTurn n .answered

/-- A report that shows RF off, taken by a state the rest of the report has left RF OFF, ends an RF-OFF that was sent before it
(`sent`, R92), and lets a context leave TRIPPED (R95). DEDUCED (log 93): where the report is itself a trip that has TXS send RF-OFF,
RF is UNSURE again, and a later report confirms that order; an RF-OFF still deferred is not confirmed either. -/
def State.rfFoundOff (n : TxId) (r : StateReport) (sent : Bool) (s : State) : State :=
  if (s.ctx n).rf = .off then (if sent then s.confirmed n r else s.leaveTripped n) else s

/-- A STATE report is digested. The report that returns the key to REMOTE is digested while the source is LOCAL, so R96 does not
check it, and the context keeps the state it was last set to under R86 (R97). DEDUCED (log 62): what R94 and R168 have a report do
under LOCAL, that one still does. -/
def State.digest (n : TxId) (r : StateReport) (s : State) : State :=
  let confirms := (s.ctx n).confirms r
  let sent := (s.chan (.tx n .rfOff)).running
  let s1 := (s.noteState n r).keySeen n r
  let s2 :=
    if s.keyReturns n r then ((s.noteState n r).localShown n r).localReleased n
    else if (s1.ctx n).state = .unknown then s1.rebuildUnknown n r
    else if (s1.ctx n).source = .localKey then s1.localState n r
    else s1.judgeState n r
  let s3 := if confirms then s2.rfFoundOff n r sent else s2
  (s3.emergencyOff n r).turnAnswered n

/-! ## The other reports -/

/-- A TUNED report (R90). In FAULTED it is stored where it is the report that follows the expiry of the tune channel. -/
def State.tuned (n : TxId) (freq : Nat) (s : State) : State :=
  let t := s.updCtx n fun c => { c with unshown := c.unshown.filter fun o => !o.sameKind (.tune 0) }
  let c := t.ctx n
  match c.state with
  | .tuning =>
    let u := t.stopChan (.tx n .tune)
    if c.tuneFreq.all fun f => decide (f = freq) then
      (((u.toState n .ready).updCtx n fun x => { x with tuned := some freq }).endPhase n .tune).flagsDue n
    else u.txFault n .tune none
  | .faulted => if c.tuneLate then t.updCtx n fun x => { x with tuned := some freq, tuneLate := false } else t
  | _ => t

/-- A TUNE-FAIL report (R90). -/
def State.tuneFailed (n : TxId) (cause : Nat) (s : State) : State :=
  let t := s.updCtx n fun c => { c with unshown := c.unshown.filter (fun o => !o.sameKind (.tune 0)), tuneLate := false }
  if (t.ctx n).state = .tuning then (t.stopChan (.tx n .tune)).txFault n .tune (some cause) else t

/-- The trip cause a unit reports. -/
def unitTripCause : UnitTrip → TripCause
  | .reflected => .reflected
  | .arc => .arc
  | .overload => .overload

/-- The fault cause a unit reports (R94). -/
def unitFaultCause : UnitFault → FaultCause
  | .cooling => .cooling
  | .supply => .supply
  | .pa => .pa
  | .interlock => .interlock

/-- A FAULT report (R94). -/
def State.unitFault (n : TxId) (f : FaultCause) (s : State) : State :=
  if (s.ctx n).state = .faulted then
    (if (s.ctx n).cause = some .unit then s.updCtx n fun c => { c with cause := some f } else s)
  else s.faultActions n f

/-! ## Timed ends -/

/-- The warm-up channel expires (R89). -/
def State.warmUpEnds (n : TxId) (s : State) : State :=
  let c := s.ctx n
  if c.state = .warming then
    (if c.last.any fun r => decide (r.unit = .standby) then s.warmed n
     else s.updCtx n fun x => { x with warmWait := .nextReport })
  else s

/-- The tune channel expires (R90); the report that follows may still set the tuned frequency. -/
def State.tuneEnds (n : TxId) (s : State) : State :=
  if (s.ctx n).state = .tuning then (s.txFault n .tune none).updCtx n fun c => { c with tuneLate := true } else s

/-- The RF-off confirmation channel expires (R92). -/
def State.rfOffUnconfirmed (n : TxId) (s : State) : State :=
  if (s.ctx n).state = .unknown then s else s.txFault n .rfOffUnconfirmed none

/-! ## CLEAR-FAULT judged (R98, R185) -/

/-- The fault cause is cleared and the context rebuilt from the last unit report (R98). -/
def State.clearRebuild (n : TxId) (s : State) : State :=
  match (s.ctx n).last with
  | some r =>
    (s.rebuild n r).updCtx n fun c => { c with
      rf := c.rfBy r
      cause := if c.state = .faulted then some .unit else none }
  | none => ((s.toState n .unknown).updCtx n fun c => { c with rf := .unsure })

/-- The recorded position is AT a position. -/
def Pos.isAt : Pos → Bool
  | .atp _ => true
  | _ => false

/-- The selectors a CLEAR-FAULT on cause ADOPTION queries: of the antennas whose REACH lists n (R185). -/
def State.reachingAnts (s : State) (n : TxId) : List AntId :=
  s.definedAnt.filter fun a => match s.antDef a with
    | some d => d.reach.contains n
    | none => false

/-- The check a repeated ADOPTION-LOCKOUT carries (R183, R185). DESIGN CHOICE (log 91): check 1 where two selectors stand, and 2
elsewhere, where neither check's condition need hold. -/
def State.lockoutCheck (s : State) (n : TxId) : Nat := if s.twoSelectors n then 1 else 2

/-- The queries of an ADOPTION clearing are all answered, and TXS judges the positions (R185): of the selectors that were queried,
those still defined (log 24). A FAULT of RSn with a position recorded is no bar (DEDUCED, log 94). -/
def State.judgeAdoption (n : TxId) (s : State) : State :=
  let sels := s.definedAnt.filter fun a => (s.ctx n).queried.contains (.sel a)
  let good := (s.pos (.row n)).isAt &&
    sels.all (fun a => !decide (s.pos (.sel a) = .unknown) && !s.actFaulted (.sel a)) && decide ((s.standing n).length ≤ 1)
  if good then
    let t := s.clearRebuild n
    match s.standing n with
    | [a] => if s.rowAt n .matrix && (s.owner a).isNone && (s.owned n).isNone then
        t.takeAnt a ⟨n, .adopted, 0, s.now⟩
      else t
    | _ => t
  else s.post (s.lockoutNotice n (s.lockoutCheck n) (s.ctx n).rf)

/-- A query that a CLEAR-FAULT of TXn awaits has been answered, by a position, by TRAVELLING or by a fault (R98, R185). -/
def State.clearingAnswered (act : ActId) (n : TxId) (s : State) : State :=
  let c := s.ctx n
  if decide (c.state = .faulted) && c.clearing.contains act then
    let t := s.updCtx n fun x => { x with clearing := x.clearing.filter fun y => !decide (y = act) }
    if c.cause = some .adoption then (if (t.ctx n).clearing.isEmpty then t.judgeAdoption n else t)
    else if c.cause = some .rowSwitch then
      (if s.actFaulted act then t else if (s.pos act).isAt then t.clearRebuild n else s)
    else t
  else s

/-- A row switch has become recorded AT a position: a clearing of ROW_SWITCH that still waits for it ends (R98). -/
def State.rowFound (n : TxId) (s : State) : State :=
  if (s.ctx n).cause = some .rowSwitch ∧ s.actFaulted (.row n) = false then s.clearingAnswered (.row n) n else s

end Sys2Proof.Machine
end

