-- ==== Sys2Proof/Machine/Bus.lean ====
section
/-! DEFINITION. SWB: the bus order queue and queries (R148), transactions (R149, R150), travel and reports (R147, R151, R152),
faults and where they lead (R153), and the all-call survey (R154). -/

namespace Sys2Proof.Machine
open Sys2Proof

/-! ## Table and queue -/

/-- Write the open transaction. -/
def State.setTrans (t : Trans) (s : State) : State := { s with swb := { s.swb with trans := t } }

/-- Write the bus order queue. -/
def State.setQueue (q : List BusOrder) (s : State) : State := { s with swb := { s.swb with queue := q } }

/-- The order is a MOVE of the actuator. -/
def BusOrder.moves (act : ActId) (o : BusOrder) : Bool := decide (o.act = act) && o.place.isSome

/-- The order is a QUERY of the actuator. -/
def BusOrder.queries (act : ActId) (o : BusOrder) : Bool := decide (o.act = act) && o.place.isNone

/-- A MOVE of the actuator waits in the queue (R151). -/
def State.moveWaits (s : State) (act : ActId) : Bool := s.swb.queue.any (BusOrder.moves act)

/-- SWB asks for a QUERY itself for this actuator's watch. -/
def ActEntry.watchQuery (e : ActEntry) : Bool := e.requesters.contains .swb

/-- Queries wanted enter the queue while it has room, in ascending address order (R148). DESIGN CHOICE (log 77): the order's asker is
the first of the requesters, or SWB where there is none. -/
def State.fillQueries (s : State) : State :=
  s.each allAct fun act t =>
    match t.entry act with
    | some e =>
      if e.wanted = true ∧ t.swb.queue.length < 32 then
        (t.updEntry act fun x => { x with wanted := false }).setQueue
          (t.swb.queue ++ [⟨act, none, e.requesters.headD .swb⟩])
      else t
    | none => t

/-- A query of an actuator is asked for (R148): it joins one that waits, or enters where there is room. -/
def State.askQuery (act : ActId) (who : Requester) (s : State) : State :=
  match s.entry act with
  | some e =>
    let t := s.updEntry act fun x => { x with
      requesters := if x.requesters.contains who then x.requesters else x.requesters ++ [who] }
    if e.wanted || s.swb.queue.any (BusOrder.queries act) then t
    else if s.swb.queue.length < 32 then t.setQueue (s.swb.queue ++ [⟨act, none, who⟩])
    else t.updEntry act fun x => { x with wanted := true }
  | none => s

/-! ## Handing on -/

/-- A query answer reaches each requester (R151, R153). AMX asks the selectors of a clearing of cause ADOPTION for TXS (R148, R185),
and hands the answer to each that waits for it. -/
def State.answerQueries (act : ActId) (l : List Requester) (s : State) : State :=
  s.each l fun q t => match q with
    | .txs n => t.clearingAnswered act n
    | .amx => t.eachTx (State.clearingAnswered act)
    | .swb => t

/-- A position is handed to AMX, unless a MOVE of the actuator waits in the queue (R151), and to a ROW_SWITCH clearing. -/
def State.handAt (act : ActId) (p : Place) (s : State) : State :=
  let t := if s.moveWaits act then s else s.recordAt act p
  match act with
  | .row n => t.rowFound n
  | _ => t

/-- The actuator stands AT a position: travel and watch end, and the position is handed on (R151). -/
def State.arrive (act : ActId) (p : Place) (s : State) : State :=
  ((s.stopChan (.travel act)).updEntry act fun e => { e with
    status := .atp p, last := some p, unordered := false, watch := false }).handAt act p

/-! ## Faults (R153) -/

/-- The order in flight a fault's notice carries (R153). DESIGN CHOICE (log 84): the MOVE the actuator travels under, its transaction
open or closed, and never a QUERY. -/
def ActEntry.inFlight (e : ActEntry) : Option Place :=
  match e.status with
  | .travelling p => some p
  | _ => none

/-- A fault of RSn reaches TXS (R153). A context FAULTED already with another cause, ADOPTION too, takes the cause ROW_SWITCH,
with RF-OFF where RF is not OFF and no second TX-FAULT. DESIGN CHOICE (log 18): a clearing in progress ends with its cause. -/
def State.rowFault (n : TxId) (s : State) : State :=
  let c := s.ctx n
  match c.state with
  | .unknown => s
  | .faulted =>
    if c.cause = some .rowSwitch then s
    else
      ((s.rfOffUnlessOff n .fault).stopWork n).updCtx n fun x => { x with cause := some .rowSwitch, clearing := [] }
  | left =>
    let t := ((s.rfOffUnlessOff n .fault).stopWork n).toFaulted n .rowSwitch
    (t.post (.txFault n .rowSwitch left none)).stopRecycle n

/-- A row switch fault is taken by TXS (R153). -/
def State.txsFault (act : ActId) (s : State) : State :=
  match act with
  | .row n => s.rowFault n
  | _ => s

/-- What depends on an actuator (R153 step 6). -/
def dependantOf : ActId → Dependant
  | .row n => .tx n
  | .sel a => .ant a
  | .beam a => .ant a

/-- The table entry of an actuator in FAULT (R153 step 1). DESIGN CHOICE (log 85): an event with no position, the MOVING of R152 too,
keeps the last position held, which the notice shows. -/
def ActEntry.failed (cause : ActFault) (unordered : Bool) (carried : Option Place) (e : ActEntry) : ActEntry :=
  { e with
    status := .fault cause
    last := match carried with
      | some p => some p
      | none => e.last
    unordered := unordered
    watch := false
    requesters := [] }

/-- SWB records a fault on an actuator: the six steps of R153, then what TXS and AMX do (R142, R153). -/
def State.busFault (act : ActId) (cause : ActFault) (unordered : Bool) (carried : Option Place) (s : State) : State :=
  match s.entry act with
  | some e =>
    let f := e.failed cause unordered carried
    let s1 := ((s.setEntry act (some f)).stopChan (.travel act)).setQueue
      (s.swb.queue.filter fun o => !BusOrder.moves act o)
    let s2 := (s1.fillQueries.amxRecords act carried).answerQueries act e.requesters
    ((s2.post (.actuatorFault act (addrOf act) cause unordered f.last e.inFlight (dependantOf act))).txsFault
      act).amxActs (s.pos act) act
  | none => s

/-! ## Query answers (R151) -/

/-- A query answer giving a position. -/
def State.answerAt (act : ActId) (p : Place) (s : State) : State :=
  match s.entry act with
  | some e =>
    (((s.stopChan (.travel act)).setEntry act (some { e with
      status := .atp p, last := some p, unordered := false, watch := false, requesters := [] })).handAt act p).answerQueries
        act e.requesters
  | none => s

/-- A query answer giving TRAVELLING: a watch begins, or, answering the watch's own QUERY, FAULT TIMEOUT. DESIGN CHOICE (log 79): a
faulted actuator's status becomes UNKNOWN with a watch too (R151), and its FAULT and unordered mark go. DEDUCED (log 86): an answer
of the all-call serves the watch's QUERY that is asked for and not yet sent (R154 step 3), and so gives FAULT TIMEOUT. -/
def State.answerTravelling (act : ActId) (s : State) : State :=
  match s.entry act with
  | some e =>
    if e.watchQuery then s.busFault act .timeout false none
    else
      let t := (s.setEntry act (some { e with
        status := .unknown, unordered := false, watch := true, requesters := [] })).startChan (.travel act) (s.travelMs act)
      (if t.moveWaits act then t else t.setPos act .unknown).answerQueries act e.requesters
  | none => s

/-- A query answer. -/
def State.queryAnswer (act : ActId) (at_ : Option Place) (s : State) : State :=
  match at_ with
  | some p => s.answerAt act p
  | none => s.answerTravelling act

/-! ## The all-call survey (R154) -/

/-- The defined actuators in ascending address order. -/
def State.definedActs (s : State) : List ActId := allAct.filter s.actDefined

/-- The hall survey's bus flag is set with the counts (R154, R175). -/
def State.busSurveyed (s : State) : State :=
  { s with txs := { s.txs with survey := s.txs.survey.map fun q => { q with bus := true, busCounts := s.swb.counts } } }

/-- The all-call ends: the surveyed flag, the transaction closed, the counts handed on (R154 step 7). Where another all-call
waits to be sent, it is that one's end that counts (DEDUCED, log 19). -/
def State.allCallEnd (s : State) : State :=
  let t := (s.stopChan .busAnswer).setTrans .none
  if t.swb.allCallWaiting then t
  else ({ t with swb := { t.swb with surveyed := true } }).busSurveyed

/-- The turn after an address begins, or the all-call ends (R154). -/
def State.nextTurn (act : ActId) (s : State) : State :=
  match s.definedActs.find? fun b => decide (addrOf act < addrOf b) with
  | some b => (s.setTrans (.allCall b)).startChan .busAnswer 1000
  | none => s.allCallEnd

/-- Count an answer of the all-call. -/
def State.countBus (f : BusCounts → BusCounts) (s : State) : State :=
  { s with swb := { s.swb with counts := f s.swb.counts } }

/-- An address that stayed silent in its turn (R154 steps 4 and 5). -/
def State.silentTurn (act : ActId) (s : State) : State :=
  if s.actDefined act then (s.countBus fun k => { k with silent := k.silent + 1 }).busFault act .silent false none else s

/-- The effect of an answer in its turn (R154 steps 3 and 6). -/
def State.turnAnswer (act : ActId) (at_ : Option Place) (s : State) : State :=
  let t := s.countBus fun k => match at_ with
    | some _ => { k with at_ := k.at_ + 1 }
    | none => { k with travelling := k.travelling + 1 }
  match t.entry act with
  | some e => match e.status with
    | .travelling q =>
      let u := if at_ = some q then t.arrive act q else t
      (u.updEntry act fun x => { x with requesters := [] }).answerQueries act e.requesters
    | _ => t.queryAnswer act at_
  | none => t

/-- A POSITION during an all-call (R154 steps 3 and 5): the addresses passed over are silent. -/
def State.allCallAnswer (turn act : ActId) (at_ : Option Place) (s : State) : State :=
  if addrOf act < addrOf turn then s
  else
    let passed := s.definedActs.filter fun b => decide (addrOf turn ≤ addrOf b) && decide (addrOf b < addrOf act)
    (((s.stopChan .busAnswer).each passed State.silentTurn).turnAnswer act at_).nextTurn act

/-- SWB begins an all-call as the hall enters SURVEYING (R154). -/
def State.beginAllCall (s : State) : State :=
  let t := { s with swb := { s.swb with surveyed := false, counts := ⟨0, 0, 0⟩ } }
  if t.definedActs.isEmpty then ({ t with swb := { t.swb with surveyed := true } }).busSurveyed
  else { t with swb := { t.swb with allCallWaiting := true } }

/-- The ALL-QUERY is sent (R154 steps 1 and 2). -/
def State.sendAllQuery (s : State) : State :=
  if s.swb.allCallWaiting = true ∧ s.swb.trans = .none then
    let t := { s with swb := { s.swb with allCallWaiting := false, counts := ⟨0, 0, 0⟩ } }
    match t.definedActs.head? with
    | some act => (t.setTrans (.allCall act)).startChan .busAnswer 1000
    | none => t.allCallEnd
  else s

/-! ## Sending (R150) -/

/-- The order is eligible (R150). -/
def State.eligible (s : State) (o : BusOrder) : Bool :=
  match s.entry o.act with
  | some e =>
    !(match e.status with
      | .travelling _ => true
      | _ => false) &&
    (!e.watch || (o.place.isNone && e.watchQuery)) && (o.place.isNone || s.swb.surveyed)
  | none => false

/-- The order leaves (R149, R151). -/
def State.sendBusOrder (o : BusOrder) (s : State) : State :=
  let t := (s.setQueue (s.swb.queue.erase o)).startChan .busAnswer 1000
  (match o.place with
    | some p => ((t.setTrans (.move o.act p)).updEntry o.act fun e => { e with status := .travelling p }).startChan
        (.travel o.act) (s.travelMs o.act)
    | none => t.setTrans (.query o.act)).fillQueries

/-- SWB serves the queue (R150): the first eligible order is sent. -/
def State.serve (s : State) : State :=
  if s.swb.trans = .none ∧ s.swb.allCallWaiting = false then
    match s.swb.queue.find? s.eligible with
    | some o => s.sendBusOrder o
    | none => s
  else s

/-! ## Reports (R147, R149, R151, R152) -/

/-- The position fits the sender (R147). -/
def State.fits (s : State) (act : ActId) (p : Place) : Bool :=
  match act, p with
  | .row _, .load => true
  | .row _, .matrix => true
  | .sel _, .ground => true
  | .sel _, .tx _ => true
  | .beam a, .beam i => match s.antDef a with
    | some d => decide (i < d.beams)
    | none => false
  | _, _ => false

/-- The defined actuator at an address (R147). -/
def State.sender (s : State) (addr : Nat) : Option ActId := (actOf addr).filter s.actDefined

/-- A report that answers the open MOVE closes the transaction (R149, R151). -/
def State.answersMove (act : ActId) (s : State) : State :=
  match s.swb.trans with
  | .move b _ => if b = act then (s.stopChan .busAnswer).setTrans .none else s
  | _ => s

/-- MOVING from an actuator (R151, R152). -/
def State.movingFrom (act : ActId) (s : State) : State :=
  let t := s.answersMove act
  match t.entry act with
  | some e => match e.status with
    | .atp _ => t.busFault act .stuck true none
    | _ => t
  | none => t

/-- ARRIVED at p from an actuator (R151, R152). -/
def State.arrivedFrom (act : ActId) (p : Place) (s : State) : State :=
  let t := s.answersMove act
  match t.entry act with
  | some e => match e.status with
    | .travelling q => if p = q then t.arrive act p else t.busFault act .stuck false (some p)
    | .unknown => t.arrive act p
    | .atp q => if p = q then t else t.busFault act .stuck true (some p)
    | .fault _ => (t.updEntry act fun x => { x with last := some p }).handAt act p
  | none => t

/-- STUCK with last position q from an actuator (R151, R152); a position that a faulted one reports reaches AMX too. -/
def State.stuckFrom (act : ActId) (q : Place) (s : State) : State :=
  let t := s.answersMove act
  match t.entry act with
  | some e => match e.status with
    | .atp _ => t.busFault act .stuck true (some q)
    | .fault _ => (t.updEntry act fun x => { x with last := some q }).handAt act q
    | _ => t.busFault act .stuck false (some q)
  | none => t

/-- A POSITION that answers nothing (R152). -/
def State.strayPosition (act : ActId) (at_ : Option Place) (s : State) : State :=
  match at_ with
  | some p => if s.actFaulted act then (s.updEntry act fun x => { x with last := some p }).handAt act p else s
  | none => s

/-- POSITION from an actuator (R149, R151, R152, R154). -/
def State.positionFrom (act : ActId) (at_ : Option Place) (s : State) : State :=
  match s.swb.trans with
  | .query b =>
    if b = act then ((s.stopChan .busAnswer).setTrans .none).queryAnswer act at_ else s.strayPosition act at_
  | .allCall turn => s.allCallAnswer turn act at_
  | _ => s.strayPosition act at_

/-- The bus answer channel expires (R149, R154). DESIGN CHOICE (log 78): an actuator removed and defined again meanwhile takes the
end of its open transaction. -/
def State.answerExpired (s : State) : State :=
  match s.swb.trans with
  | .none => s
  | .move act _ => (s.setTrans .none).busFault act .silent false none
  | .query act => (s.setTrans .none).busFault act .silent false none
  | .allCall turn => (s.silentTurn turn).nextTurn turn

/-- The travel timer of an actuator expires (R151). -/
def State.travelExpired (act : ActId) (s : State) : State :=
  match s.entry act with
  | some e => match e.status with
    | .travelling _ => s.busFault act .timeout false none
    | _ => if e.watch then s.askQuery act .swb else s
  | none => s

end Sys2Proof.Machine
end

