-- ==== Sys2Proof/Machine/Survey.lean ====
section
/-! DEFINITION. The hall (R103 to R105) and the survey (chapter 10): its record (R175), its stop (R176), and its end with
the consistency checks and adoption over the whole hall (R177 to R183). -/

namespace Sys2Proof.Machine
open Sys2Proof

/-! ## The record (R175) -/

/-- A survey turn as the survey begins (R175). -/
def State.firstTurn (s : State) (n : TxId) : Option Turn :=
  if s.txDefined n then some (if (s.ctx n).lineUp then .pending else .lost) else none

/-- The owner of ANa and its claim second. -/
def State.holding (s : State) (a : AntId) : Option (TxId × Nat) := (s.owner a).map fun o => (o.tx, o.sec)

/-- The recheck of the ACTIVE bank is called for (R16). -/
def State.recheckWanted (s : State) : Bool := s.sch.active.any fun b => b.recheck

/-- The hall enters SURVEYING: the survey record, a STATUS-ASK for every line that is UP, and the all-call (R154, R175). -/
def State.beginSurvey (s : State) : State :=
  let due := s.recheckWanted
  let q : Survey := ⟨Vector.ofFn s.firstTurn, false, !due, ⟨0, 0, 0⟩, 0, Vector.ofFn s.holding⟩
  let t := { s with sch := { s.sch with recheckDue := due }, txs := { s.txs with survey := some q } }
  (t.each (t.definedTx.filter fun n => (t.ctx n).lineUp) fun n u => u.askOrder n .txs .statusAsk).beginAllCall

/-- The turns of a survey that stand at a value. -/
def Survey.turnCount (q : Survey) (v : Turn) : Nat := (allTx.filter fun n => decide (q.turns[n] = some v)).length

/-- The transmitters a survey surveys. -/
def Survey.surveyed (q : Survey) : Nat := (allTx.filter fun n => (q.turns[n]).isSome).length

/-- The survey may end (R177). -/
def Survey.complete (q : Survey) : Bool := decide (q.turnCount .pending = 0) && q.bus && q.recheckDone

/-- The counts a survey has gathered before its checks. -/
def Survey.gathered (q : Survey) : SurveyCounts where
  surveyed := q.surveyed
  answered := q.turnCount .answered
  lost := q.turnCount .lost
  adopted := 0
  adoptedAtLoad := 0
  lockedOut := 0
  rfOff := 0
  stranded := 0
  derived := 0
  kept := 0
  ended := 0
  bus := q.busCounts
  disabled := q.disabled

/-- The survey record is discarded. -/
def State.dropSurvey (s : State) : State := { s with txs := { s.txs with survey := none } }

/-- The EMERGENCY line stops a survey (R176, R183). -/
def State.stopSurvey (s : State) : State :=
  match s.txs.survey with
  | some q => s.dropSurvey.post (.surveyDone false { q.gathered with bus := s.swb.counts })
  | none => s

/-! ## The checks over the hall (R178 to R181) -/

/-- What a lockout check has found so far: the state, and each lockout's notice with its transmitter. -/
structure Lockouts where
  st : State
  list : List (TxId × Notice)

/-- TXn is among those locked out. -/
def Lockouts.has (l : Lockouts) (n : TxId) : Bool := l.list.any fun x => decide (x.1 = n)

/-- Check 1 over the hall (R178). -/
def State.checkOne (s : State) : Lockouts :=
  s.definedTx.foldl (fun l n =>
    if l.st.twoSelectors n then
      ⟨(l.st.lockOut n).groundStanding n, l.list ++ [(n, l.st.lockoutNotice n 1 (l.st.ctx n).rf)]⟩
    else l) ⟨s, []⟩

/-- Check 2 over the hall (R179). -/
def Lockouts.checkTwo (l : Lockouts) : Lockouts :=
  l.st.definedTx.foldl (fun k n =>
    if !k.has n && k.st.noSelector n then
      ⟨k.st.lockOut n, k.list ++ [(n, k.st.lockoutNotice n 2 (k.st.ctx n).rf)]⟩
    else k) l

/-- The transmitters check 3 sends RF-OFF (R180). -/
def State.offByThree (s : State) (locked : Lockouts) : List TxId :=
  s.definedTx.filter fun n => !locked.has n && s.mustComeOff n

/-- The transmitter a selector stands at. -/
def State.rowOf (s : State) (a : AntId) : Option TxId :=
  match s.pos (.sel a) with
  | .atp (.tx n) => some n
  | _ => none

/-- The antennas whose selector is stranded (R181), where check 1 has not dealt with it. -/
def State.stranded (s : State) (one : List TxId) : List AntId :=
  s.definedAnt.filter fun a => match s.rowOf a with
    | some n => !one.contains n && !(s.txDefined n && s.rowAt n .matrix)
    | none => false

/-- A stranded selector is dealt with (R181). -/
def State.strand (a : AntId) (s : State) : State :=
  match s.rowOf a with
  | some n =>
    if s.txDefined n then s.askMove .amx (.sel a) .ground
    else ((s.updRun a fun r => { r with service := .outHost, query := [] }).withdrawAll a .service).aimersLose a .service
  | none => s

/-! ## Adoption over the hall (R182) -/

/-- The ownership of ANa survives from before the survey (R178). -/
def State.survives (s : State) (q : Survey) (a : AntId) : Bool := decide (s.holding a = q.owners[a])

/-- The positions confirm that TXn holds ANa (R182). At a transmitter that check 1 locks out, neither antenna is owned through
it: an ownership that survives from before the survey is left to the selector's grounding (R178), one begun in the survey ends with
the unconfirmed ones (DEDUCED, log 80). -/
def State.confirmedAt (s : State) (q : Survey) (one : List TxId) (a : AntId) (n : TxId) : Bool :=
  decide (s.rowOf a = some n) && (if one.contains n then s.survives q a else s.rowAt n .matrix)

/-- The antennas whose ownership the positions do not confirm (R182). -/
def State.unconfirmed (s : State) (q : Survey) (one : List TxId) : List AntId :=
  s.definedAnt.filter fun a => match s.owner a with
    | some o => !s.confirmedAt q one a o.tx
    | none => false

/-- The antennas that are owned by the transmitter their selector stands at (R182). -/
def State.derivable (s : State) (one : List TxId) : List (AntId × TxId) :=
  s.definedAnt.filterMap fun a => match s.rowOf a with
    | some n => if s.txDefined n && s.rowAt n .matrix && !one.contains n then some (a, n) else none
    | none => none

/-- The transmitters adopted (R182): RF condition ON, and reached by no check. -/
def State.adoptable (s : State) (reached : List TxId) : List TxId :=
  s.definedTx.filter fun n => !reached.contains n && decide ((s.ctx n).rf = .on)

/-- The survey ends (R177 to R183). DESIGN CHOICE (log 104): the ownerships counted as derived are those that begin here, without
the kept ones. -/
def State.finishSurvey (q : Survey) (s : State) : State :=
  let l1 := s.checkOne
  let one := l1.list.map (·.1)
  let l2 := l1.checkTwo
  let three := l2.st.offByThree l2
  let s3 := l2.st.each three fun n t => t.askOrder n .check .rfOff
  let stray := s3.stranded one
  let s4 := s3.each stray State.strand
  let gone := s4.unconfirmed q one
  let s5 := s4.each gone State.endOwnership
  let pairs := s5.derivable one
  let kept := (pairs.filter fun x => (s5.owner x.1).isSome).length
  let s6 := s5.each pairs fun x t => t.adoptOwn x.2 x.1
  let adopted := s6.adoptable ((l2.list.map (·.1)) ++ three)
  let s7 := s6.each adopted State.adopt
  let counts : SurveyCounts := { q.gathered with
    adopted := adopted.length
    adoptedAtLoad := (adopted.filter fun n => s7.rowAt n .load).length
    lockedOut := l2.list.length
    rfOff := three.length
    stranded := stray.length
    derived := pairs.length - kept
    kept := kept
    ended := gone.length }
  let s8 := s7.each (l2.list.map (·.2)) State.post
  ((s8.dropSurvey).post (.surveyDone true counts)).toHall .running .surveyEnd

/-- The survey ends where it may (R177). -/
def State.surveyEnds (s : State) : State :=
  match s.txs.survey with
  | some q => if s.txs.hall = .surveying ∧ q.complete = true then s.finishSurvey q else s
  | none => s

/-! ## HALTING and the EMERGENCY line (R103 to R105) -/

/-- Every defined transmitter has RF condition OFF and no plan is in flight (R103). -/
def State.allOff (s : State) : Bool :=
  (s.definedTx.all fun n => decide ((s.ctx n).rf = .off)) && allTx.all fun n => (s.plan n).isNone

/-- A HALTING hall becomes HALTED (R103). -/
def State.haltedIfOff (s : State) : State :=
  if s.txs.hall = .halting ∧ s.allOff = true then s.toHall .halted .allOff else s

/-- The EMERGENCY line becomes asserted (R104, R123, R176). -/
def State.emergency (s : State) : State :=
  let t := ({ s with pins := { s.pins with emergency := true } }).toHall .emergency .emergencyAsserted
  let u := t.each t.definedTx fun n v => (v.rfOffUnlessOff n .emergency).stopRamp n
  (u.eachTx fun n v => v.causeReaches n .emergency).stopSurvey

/-- The EMERGENCY line is released (R105). -/
def State.emergencyEnds (s : State) : State :=
  let t := { s with pins := { s.pins with emergency := false } }
  if s.txs.hall = .emergency then t.toHall .halted .emergencyReleased else t

end Sys2Proof.Machine
end

