-- ==== Sys2Proof/Machine/Banks.lean ====
section
/-! DEFINITION. SCH's banks: entry order and validity (R38, R49), the checks of an entry (R48), overlap and tight pairs (R49,
R50), the sweep (R47, R51, R52), the changeover (R55, R56), season expiry (R57) and the recheck (R16). -/

namespace Sys2Proof.Machine
open Sys2Proof

/-! ## The bank order (R38) -/

/-- Entry e stands before entry f (R38): transmitter, then START, then ID ascending. -/
def Entry.before (e f : Entry) : Bool :=
  if e.tx = f.tx then
    (if e.start = f.start then decide (e.id < f.id) else decide (e.start < f.start))
  else decide (e.tx.val < f.tx.val)

/-- An entry at its place in a bank (R38). -/
def placeEntry (e : Entry) : List Entry → List Entry
  | [] => [e]
  | f :: l => if e.before f then e :: f :: l else f :: placeEntry e l

/-- The position of an entry ID in a bank, counted from 1 (R38). -/
def positionOf (id : Nat) (l : List Entry) : Nat := (l.findIdx fun e => decide (e.id = id)) + 1

/-! ## Validity (R49) -/

/-- Day d is within an optional lower bound. -/
def fromDay (o : Option Nat) (d : Nat) : Bool :=
  match o with
  | some x => decide (x ≤ d)
  | none => true

/-- Day d is within an optional upper bound. -/
def toDay (o : Option Nat) (d : Nat) : Bool :=
  match o with
  | some x => decide (d ≤ x)
  | none => true

/-- The flag of weekday w is set in DAYS. -/
def Entry.onWeekday (e : Entry) (w : Nat) : Bool := e.days.testBit w

/-- Day d lies within the season and the entry's validity days (R49). -/
def Entry.inDays (e : Entry) (h : Header) (d : Nat) : Bool :=
  decide (h.first ≤ d) && decide (d ≤ h.last) && fromDay e.firstDay d && toDay e.lastDay d

/-- An occurrence of the entry on day d is valid under a weekday offset (R49). -/
def Entry.validOn (e : Entry) (h : Header) (offset d : Nat) : Bool := e.onWeekday ((d + offset) % 7) && e.inDays h d

/-- The first second of an occurrence on day d, before the ring is applied. -/
def Entry.startOn (e : Entry) (d : Nat) : Nat := d * 86400 + e.start * 60

/-- The end second of an occurrence on day d, before the ring is applied. -/
def Entry.endOn (e : Entry) (d : Nat) : Nat := e.startOn d + e.duration * 60

/-! ## The pass-1 checks (R48) -/

/-- A frequency lies within a band. -/
def inBand (low high f : Nat) : Bool := decide (low ≤ f) && decide (f ≤ high)

/-- An optional day lies within the season. -/
def Header.holds (h : Header) (o : Option Nat) : Bool :=
  match o with
  | some d => decide (h.first ≤ d) && decide (d ≤ h.last)
  | none => true

/-- The antenna checks 3, 5 and 6 of R48, with the transmitter's band between them (check 4). -/
def State.pathFault (s : State) (n : TxId) (d : TxDef) (freq : Nat) (path : Option AntId) (beam : Nat) : Option ConflictKind :=
  match path with
  | none => if inBand d.bandLow d.bandHigh freq then none else some .txBand
  | some a => match s.antDef a with
    | none => some .antUndefined
    | some r =>
      if !r.reach.contains n then some .notInReach
      else if !inBand d.bandLow d.bandHigh freq then some .txBand
      else if !inBand r.bandLow r.bandHigh freq then some .antBand
      else if r.beams ≤ beam then some .beam
      else none

/-- The first pass-1 check an entry fails (R48). -/
def State.entryFault (s : State) (h : Header) (e : Entry) : Option ConflictKind :=
  match s.txDef e.tx with
  | none => some .txUndefined
  | some d => match s.pathFault e.tx d e.freq e.path e.beam with
    | some k => some k
    | none => if h.holds e.firstDay && h.holds e.lastDay then none else some .days

/-- The entry's POWER is above the lesser of the ratings (R48): counted where checks 1 and 2 pass. -/
def State.willClamp (s : State) (e : Entry) : Bool :=
  match s.txDef e.tx with
  | none => false
  | some d => match e.path with
    | none => decide (d.rating < e.power)
    | some a => match s.antDef a with
      | some r => decide (min d.rating r.rating < e.power)
      | none => false

/-! ## Overlap (R49) -/

/-- The first day the season and the entry allow. -/
def Entry.low (e : Entry) (h : Header) : Nat := max h.first (e.firstDay.getD 0)

/-- The last day the season and the entry allow. -/
def Entry.high (e : Entry) (h : Header) : Nat := min h.last (e.lastDay.getD 65535)

/-- Two intervals of seconds intersect: each begins before the other ends. -/
def intersects (s1 e1 s2 e2 : Nat) : Bool := decide (s1 < e2) && decide (s2 < e1)

/-- The weekdays w, 0..6, on which e is aired while f is aired k days later. -/
def Entry.weekdaysWith (e f : Entry) (k : Nat) : Bool :=
  (List.range 7).any fun w => e.onWeekday w && f.onWeekday ((w + k) % 7)

/-- Some occurrence of e intersects the occurrence of f that starts k days later (k is 0 or 1), under some weekday offset: on
days both bounds allow, or on day 65535 and day 0, where one offset makes the weekdays 6 apart (log 20). -/
def Entry.meetsAfter (h : Header) (k : Nat) (e f : Entry) : Bool :=
  intersects (e.start * 60) (e.start * 60 + e.duration * 60) (k * 86400 + f.start * 60)
    (k * 86400 + f.start * 60 + f.duration * 60) &&
  ((e.weekdaysWith f k && decide (max (e.low h + k) (f.low h) ≤ min (e.high h + k) (f.high h))) ||
    (decide (k = 1) && e.weekdaysWith f 6 && decide (e.low h ≤ 65535) && decide (e.high h = 65535) &&
      decide (f.low h = 0)))

/-- Two entries overlap (R49): on the same day, or on neighbouring days either way. -/
def Entry.overlaps (h : Header) (e f : Entry) : Bool :=
  e.meetsAfter h 0 f || e.meetsAfter h 1 f || f.meetsAfter h 1 e

/-! ## Tight pairs (R50) -/

/-- The days the season and the entry allow. -/
def Entry.daysOf (e : Entry) (h : Header) : List Nat := (List.range (e.high h + 1)).drop (e.low h)

/-- The earlier of two candidates, the first where they start together. -/
def earlier (x y : Nat × Nat) : Nat × Nat := if y.1 < x.1 then y else x

/-- The next occurrence on the transmitter at or after second `at_`, among the days d to d + 2: its start and its entry's ID. DESIGN
CHOICE (log 42): after an occurrence on day 65535 it is not sought on day 0. -/
def nextAfter (h : Header) (offset : Nat) (mine : List Entry) (d at_ : Nat) : Option (Nat × Nat) :=
  let l := mine.flatMap fun f => ([d, d + 1, d + 2].filter fun x => f.validOn h offset x && decide (at_ ≤ f.startOn x)).map fun x =>
    (f.startOn x, f.id)
  match l with
  | [] => none
  | x :: r => some (r.foldl earlier x)

/-- The IDs of the entries that e is tight with (R50), each once. -/
def tightWith (h : Header) (offset minimum : Nat) (mine : List Entry) (e : Entry) : List Nat :=
  (((e.daysOf h).filter fun d => e.validOn h offset d).filterMap fun d =>
    match nextAfter h offset mine d (e.endOn d) with
    | some (t, id) => if t - e.endOn d < minimum then some id else none
    | none => none).eraseDups

/-! ## The sweep (R47, R51, R52) -/

/-- Change the STAGED bank. -/
def State.updStaged (f : StagedBank → StagedBank) (s : State) : State := { s with sch := { s.sch with staged := f s.sch.staged } }

/-- A conflict is recorded, or counted where the list is full (R51). -/
def StagedBank.record (c : Conflict) (b : StagedBank) : StagedBank :=
  if b.conflicts.length < 16 then { b with conflicts := b.conflicts ++ [c] }
  else { b with overflow := bumpTo 65535 b.overflow }

/-- The season header a sweep checks against. -/
def StagedBank.season (b : StagedBank) : Header := b.header.getD ⟨0, [], 0, 0⟩

/-- A pass-1 step (R48). -/
def State.passOne (e : Entry) (s : State) : State :=
  let t := if s.willClamp e then s.updStaged fun b => { b with willClamp := b.willClamp + 1 } else s
  match s.entryFault s.sch.staged.season e with
  | some k => t.updStaged (StagedBank.record ⟨k, e.id, 0⟩)
  | none => t

/-- The overlaps of an entry with the entries after it (R49). -/
def StagedBank.pairUp (kind : ConflictKind) (e : Entry) (rest : List Entry) (b : StagedBank) : StagedBank :=
  (rest.filter fun f => e.overlaps b.season f).foldl (fun x f => x.record ⟨kind, e.id, f.id⟩) b

/-- A pass-2 step (R49, R50). -/
def State.passTwo (e : Entry) (rest : List Entry) (s : State) : State :=
  let b := s.sch.staged
  let k := match s.hds.staticMin[e.tx] with
    | some m => (tightWith b.season s.clk.offset m (b.entries.filter fun f => decide (f.tx = e.tx)) e).length
    | none => 0
  (s.updStaged (StagedBank.pairUp .txOverlap e (rest.filter fun f => decide (f.tx = e.tx)))).updStaged fun x =>
    { x with tight := x.tight + k }

/-- A pass-3 step (R49). -/
def State.passThree (e : Entry) (rest : List Entry) (s : State) : State :=
  match e.path with
  | some a => s.updStaged (StagedBank.pairUp .antOverlap e (rest.filter fun f => decide (f.path = some a)))
  | none => s

/-! ## The changeover (R55, R56) -/

/-- The next generation (R55). -/
def nextGeneration (g : Nat) : Nat := if 65535 ≤ g then 1 else g + 1

/-- A PENDING or LIVE record of the old generation becomes DONE, reason CHANGEOVER (R55, R61). -/
def State.endGeneration (old : Nat) (n : TxId) (s : State) : State :=
  let ids := ((s.occ n).cur.toList ++ (s.occ n).prev.toList).filterMap fun r => match r.id with
    | .entry g _ _ => if g = old then some r.id else none
    | .booking .. => none
  s.each ids fun id t => t.recordDone n id .changeover

/-- The SEALED STAGED bank is promoted (R55). -/
def State.promote (src : Trigger) (s : State) : State :=
  let b := s.sch.staged
  let old := match s.sch.active with
    | some a => a.generation
    | none => 0
  let g := nextGeneration s.sch.lastGen
  let live : ActiveBank := ⟨b.entries.map fun e => (e, false), b.season, g, false, false⟩
  let t := ({ s with sch := { s.sch with active := some live, staged := .emptyBank, arming := .disarmed, lastGen := g } }).post
    (.changeoverDone g b.season.season b.season.label b.entries.length old src)
  if s.sch.active.isSome then t.eachTx (State.endGeneration old) else t

/-- A trigger event (R55, R56). -/
def State.trigger (src : Trigger) (s : State) : State :=
  if s.sch.staged.state = .sealed then s.promote src
  else ({ s with sch := { s.sch with arming := .disarmed } }).post (.changeoverMissed src s.sch.staged.state)

/-- The sweep ends (R52). -/
def State.sweepEnds (s : State) : State :=
  let b := s.sch.staged
  let out : StagedState := if b.conflicts.isEmpty && decide (b.overflow = 0) then .sealed else .rejected
  let t := (s.updStaged fun x => { x with state := out, standing := .complete }).post
    (.sealResult out b.season.season b.season.label b.entries.length b.conflicts.length b.overflow b.willClamp b.tight
      b.conflicts.head?)
  if out = .sealed ∧ s.sch.arming = .onSeal then t.trigger .onSeal else t

/-- A sweep begins at pass 1, position 1, with the list and counts emptied (R43, R15, R59); a bank with no entries is swept
at once. -/
def State.sweepBegins (s : State) : State :=
  let t := s.updStaged fun b => { b with
    state := .validating, pass := 1, position := 1, conflicts := [], overflow := 0, willClamp := 0, tight := 0
    standing := .inProgress }
  if s.sch.staged.entries.isEmpty then t.sweepEnds else t

/-- The cursor moves to the next position, the next pass, or the end of the sweep (R47). -/
def State.advanceCursor (s : State) : State :=
  let b := s.sch.staged
  if b.position < b.entries.length then s.updStaged fun x => { x with position := x.position + 1 }
  else if b.pass < 3 then s.updStaged fun x => { x with pass := x.pass + 1, position := 1 }
  else s.sweepEnds

/-- One step of the sweep (R47). -/
def State.sweepStep (s : State) : State :=
  let b := s.sch.staged
  if b.state = .validating then
    match b.entries.drop (b.position - 1) with
    | e :: rest =>
      (match b.pass with
        | 1 => s.passOne e
        | 2 => s.passTwo e rest
        | _ => s.passThree e rest).advanceCursor
    | [] => s.advanceCursor
  else s

/-- The sweep of a VALIDATING or SEALED bank restarts (R15). -/
def State.restartSweep (s : State) : State :=
  if s.sch.staged.state = .validating ∨ s.sch.staged.state = .sealed then s.sweepBegins else s

/-! ## Time (R55, R57) -/

/-- The AT_TIME test on the handed time (R55): times compare as pairs. -/
def State.atTimeTest (s : State) : State :=
  match s.sch.arming with
  | .atTime d t => if secondOf d t ≤ secondOf s.clk.day s.clk.sec then s.trigger .atTime else s
  | _ => s

/-- The season expiry test (R57). -/
def State.expiryTest (s : State) : State :=
  match s.sch.active with
  | some b =>
    if b.header.last < s.clk.day ∧ b.expired = false then
      ({ s with sch := { s.sch with active := some { b with expired := true } } }).post
        (.seasonExpired b.generation b.header.season b.header.label b.header.last)
    else s
  | none => s

/-! ## The recheck (R16) -/

/-- The ACTIVE bank after the recheck: each entry that fails is disabled, and the flag cleared (R16). -/
def State.rechecked (s : State) (b : ActiveBank) : ActiveBank :=
  { b with
    entries := b.entries.map fun x => (x.1, (s.entryFault b.header x.1).isSome)
    recheck := false }

/-- The entries marked disabled. -/
def ActiveBank.disabled (b : ActiveBank) : Nat := (b.entries.filter (·.2)).length

/-- The recheck called for by an entry to SURVEYING is made, and the survey told (R16, R175). -/
def State.recheckBank (s : State) : State :=
  if s.sch.recheckDue then
    let act := s.sch.active.map fun b => if b.recheck then s.rechecked b else b
    let k := match s.sch.active with
      | some b => if b.recheck then (s.rechecked b).disabled else 0
      | none => 0
    { s with
      sch := { s.sch with active := act, recheckDue := false }
      txs := { s.txs with survey := s.txs.survey.map fun q => { q with recheckDone := true, disabled := k } } }
  else s

end Sys2Proof.Machine
end

