-- ==== Sys2Proof/Machine/Evaluator.lean ====
section
/-! DEFINITION. SCH's evaluator (chapter 4): candidates (R63), the planned duration (R67), bookkeeping (R63, R77), the
decision (R64, R65, R68, R69, R70), the retarget check (R66), the work of one station second (R25, R55, R57, R62) and booking
overlap (R74). -/

namespace Sys2Proof.Machine
open Sys2Proof

/-! ## Candidates -/

/-- A candidate (R63): an entry or booking occurrence, with the setpoint CSQ copies from it. -/
structure Cand where
  id : TargetId
  start : Nat
  finish : Option Nat
  setp : Setpoint
  tag : Option Nat
deriving DecidableEq, Repr

/-- The setpoint of an entry (R106); an entry always waits (R72). -/
def Entry.setpoint (e : Entry) : Setpoint := ⟨e.freq, e.path, e.beam, e.power, e.priority, .schedule, true⟩

/-- The setpoint of a booking (R106). -/
def Booking.setpoint (b : Booking) : Setpoint := ⟨b.freq, b.path, b.beam, b.power, b.priority, .booking, b.wait⟩

/-- The end of a booking, or none where it is open-ended. -/
def Booking.finish (b : Booking) : Option Nat := b.duration.map fun k => ringAdd b.start k

/-- An entry occurrence on day d (section 4.1). -/
def Entry.occurrence (e : Entry) (generation d : Nat) : Cand :=
  ⟨.entry generation e.id d, ringAdd (e.startOn d) 0, some (ringAdd (e.endOn d) 0), e.setpoint, e.tag⟩

/-- A booking occurrence (section 4.1). -/
def Booking.occurrence (b : Booking) : Cand := ⟨.booking b.id b.start, b.start, b.finish, b.setpoint, b.tag⟩

/-- The day before the present one, the present one and the one after it. -/
def State.nearDays (s : State) : List Nat := [(s.clk.day + 65535) % 65536, s.clk.day, (s.clk.day + 1) % 65536]

/-- The valid entry occurrences of TXn on the days near now, of the entries with a given disabled mark (R63). DESIGN CHOICE (log 66):
the offset in force tells the weekday of each of these days, of the day across the wrap of the day number too. -/
def State.entryOccs (s : State) (n : TxId) (disabled : Bool) : List Cand :=
  match s.sch.active with
  | some b =>
    (b.entries.filter fun x => decide (x.1.tx = n) && (x.2 == disabled)).flatMap fun x =>
      (s.nearDays.filter fun d => x.1.validOn b.header s.clk.offset d).map fun d => x.1.occurrence b.generation d
  | none => []

/-- The booking occurrences of TXn (R63). -/
def State.bookingOccs (s : State) (n : TxId) : List Cand :=
  (s.sch.bookings.filter fun b => decide (b.tx = n)).map Booking.occurrence

/-- The candidates of TXn, by its source in force (R63). -/
def State.candidates (s : State) (n : TxId) : List Cand :=
  match (s.ctx n).source with
  | .auto => s.entryOccs n false
  | .manual => s.bookingOccs n
  | .localKey => []

/-- The covering target of TXn at now (R63): a finished target does not cover. -/
def State.covering (s : State) (n : TxId) : Option Cand :=
  (s.candidates n).find? fun c => covers c.start c.finish s.now && !s.finished n c.id

/-- The candidate starts later than now and within 86400 s (R63). -/
def Cand.ahead (c : Cand) (now : Nat) : Bool := decide (0 < ringSub c.start now) && decide (ringSub c.start now ≤ 86400)

/-- The candidate with the earlier start after now. -/
def sooner (now : Nat) (c d : Cand) : Cand := if ringSub d.start now < ringSub c.start now then d else c

/-- The next target of TXn (R63). -/
def State.nextTarget (s : State) (n : TxId) : Option Cand :=
  match (s.candidates n).filter fun c => c.ahead s.now && !s.finished n c.id with
  | [] => none
  | c :: l => some (l.foldl (sooner s.now) c)

/-! ## Planned duration (R67) -/

/-- The tune term of R67. -/
def tuneTerm (d : TxDef) (tuned : Option Nat) (freq : Nat) : Nat :=
  match tuned with
  | none => d.tuneLong * 1000
  | some f =>
    if f = freq then 0
    else if (max f freq - min f freq) ≤ d.shortSpan then d.tuneShort * 1000
    else d.tuneLong * 1000

/-- The target antenna has a beam drive whose recorded position is not the target beam (R67). -/
def State.beamDiffers (s : State) (t : Setpoint) : Bool := s.needsBeam (some t)

/-- SEL-EST of an antenna in ms. DESIGN CHOICE (log 105): that of an antenna no longer defined is a free value. -/
def State.selMs (s : State) (a : AntId) : Nat :=
  match s.antDef a with
  | some r => r.selEst * 1000
  | none => Config.freeSelEst (num a) * 1000

/-- BEAM-EST of an antenna in ms. -/
def State.beamMs (s : State) (a : AntId) : Nat :=
  match s.antDef a with
  | some r => r.beamEst * 1000
  | none => 0

/-- The path term of R67. -/
def State.pathTerm (s : State) (n : TxId) (t : Setpoint) : Nat :=
  let release := match s.owned n with
    | some a => if t.path = some a then 0 else s.selMs a
    | none => 0
  match t.path with
  | some a => release + max (if s.owned n = some a then 0 else s.selMs a) (if s.beamDiffers t then s.beamMs a else 0)
  | none => release

/-- The row's recorded position calls for a move to LOAD before a change (R67, section 6.2). -/
def State.rowAway (s : State) (n : TxId) : Bool :=
  match s.pos (.row n) with
  | .atp .matrix => true
  | .travelling .matrix => true
  | .unknown => true
  | _ => false

/-- The toload term of R67 is counted. -/
def State.countsToLoad (s : State) (n : TxId) (t : Setpoint) (tune : Nat) : Bool :=
  s.rowAway n && (!decide (tune = 0) || t.path.isNone || !decide (s.owned n = t.path) || s.beamDiffers t)

/-- The warm term of R67. -/
def State.warmTerm (s : State) (n : TxId) (d : TxDef) : Nat :=
  match (s.ctx n).state with
  | .dark => d.warmUp * 1000
  | .warming => (s.chan (.tx n .warmUp)).remaining
  | _ => 0

/-- The planned duration D of a changeover of TXn toward a target (R67). DESIGN CHOICE (log 88): where the composition fails with
LIMIT (R158 step 5), d_new is the drive 100 that its step 4 has stored. -/
def State.plannedFor (s : State) (n : TxId) (t : Setpoint) : Nat :=
  match s.txDef n with
  | some d =>
    let c := s.ctx n
    let rampdown := if c.rf = .off then 0 else rampMs d c.drive
    let tune := tuneTerm d c.tuned t.freq
    let toLoad := s.countsToLoad n t tune
    let toMatrix := t.path.isSome && (s.rowAt n .load || toLoad)
    let rampup := rampMs d (compose d t.power c.trim (s.pathRating d t.path) 0).d
    ceilDiv (rampdown + (if toLoad then d.rowEst * 1000 else 0) + max tune (s.pathTerm n t) +
      (if toMatrix then d.rowEst * 1000 else 0) + rampup + s.warmTerm n d) 1000
  | none => 0

/-! ## Bookkeeping (R63, R77) -/

/-- The kind of a target (R60). -/
def TargetId.isBooking : TargetId → Bool
  | .booking .. => true
  | .entry .. => false

/-- What ends a LIVE record at now (R63 step 1, R77): its interval, or a covering target of the other kind. -/
def State.liveEnd (s : State) (n : TxId) (r : OccRec) : Option DoneReason :=
  if !covers r.start r.finish s.now then some .ended
  else match s.covering n with
    | some c => if c.id.isBooking = r.id.isBooking then none else some .source
    | none => none

/-- The booking end that goes with a DONE reason (R76). -/
def DoneReason.bookEnd : DoneReason → BookEnd
  | .source => .source
  | _ => .ended

/-- Step 1 of the bookkeeping stage (R63): the identity of a record it ended, beside the state. -/
def State.endLive (n : TxId) (s : State) : State × Option TargetId :=
  match s.liveRec n with
  | some r => match s.liveEnd n r with
    | some why => ((s.recordDone n r.id why).targetBookingLeaves r.id why.bookEnd, some r.id)
    | none => (s, none)
  | none => (s, none)

/-- The bookings of TXn that expire at now (R63 step 2). -/
def State.expiredBookings (s : State) (n : TxId) : List Booking :=
  s.sch.bookings.filter fun b => decide (b.tx = n) && hasEnded b.finish s.now && !s.inServiceRec n (.booking b.id b.start)

/-- Step 2 of the bookkeeping stage (R63). -/
def State.expireBookings (n : TxId) (s : State) : State :=
  (s.expiredBookings n).foldl (fun t b => t.bookingLeaves b.id .ended) s

/-- A record for a candidate. -/
def Cand.record (c : Cand) (st : OccStatus) (onAir : Option Nat) : OccRec := ⟨c.id, c.start, c.finish, st, onAir, c.tag⟩

/-- Step 3 of the bookkeeping stage (R63): a disabled entry's occurrence that covers now is recorded DISABLED. -/
def State.noteDisabled (n : TxId) (s : State) : State :=
  let busy := (s.occ n).cur.any OccRec.inService
  if (s.ctx n).source = .auto ∧ busy = false then
    match (s.entryOccs n true).find? fun c => covers c.start c.finish s.now && !s.recorded n c.id with
    | some c => (s.newRecord n (c.record .disabled none)).post (.entryMissed n c.id c.tag .disabled)
    | none => s
  else s

/-- The bookkeeping stage for one transmitter (R63). -/
def State.bookkeep (n : TxId) (s : State) : State × Option TargetId :=
  let r := s.endLive n
  ((r.1.expireBookings n).noteDisabled n, r.2)

/-! ## The decision (R64, R65) -/

/-- The booking checks of R74 fail for a booking (R64 step 1). -/
def State.invalidBooking (s : State) (n : TxId) (c : Cand) : Bool :=
  c.id.isBooking &&
    (match s.txDef n with
      | some d => (s.pathFault n d c.setp.freq c.setp.path c.setp.beam).isSome
      | none => true)

/-- Too late (R64 step 3): now is later than S and less than MIN-REMAINDER is left. -/
def State.tooLate (s : State) (c : Cand) : Bool :=
  later s.now c.start &&
    (match c.finish with
      | some e => decide (ringSub e s.now < s.hds.hall.minRemainder)
      | none => false)

/-- A candidate is given up unserved (R61): a record MISSED with ENTRY-MISSED, its booking leaving the list. -/
def State.miss (n : TxId) (c : Cand) (why : MissCause) (s : State) : State :=
  ((s.newRecord n (c.record (.missed why) none)).post (.entryMissed n c.id c.tag (.missed why))).targetBookingLeaves c.id
    (.missed why)

/-- An on-air transmitter is linked to a candidate by the match (R64 step 2, R124). -/
def State.link (n : TxId) (c : Cand) (s : State) : State :=
  let t := s.matched n c.setp
  (t.newRecord n (c.record .live (some s.now))).post (.entryStarted n c.id c.tag s.now (t.prot n).clamped)

/-- The changeover a candidate asks for. -/
def State.toward (s : State) (n : TxId) (c : Cand) : Changeover := ⟨some c.id, some c.setp, some c.start, s.plannedFor n c.setp⟩

/-- A changeover toward NONE with its planned duration. -/
def Changeover.toNone (d : Nat) : Changeover := ⟨none, none, none, d⟩

/-- SCH asks for a changeover toward NONE (R65, R69, R75). R67 gives no planned duration toward NONE: it is a free value
(log 23). -/
def State.changeoverToNone (n : TxId) (s : State) : State := s.drawnDuration.changeover n (.toNone s.noneDuration)

/-- A record PENDING is created for a candidate unless it has one in service (R61, R66). -/
def State.pend (n : TxId) (c : Cand) (s : State) : State :=
  if s.inServiceRec n c.id then s else s.newRecord n (c.record .pending none)

/-- GAP-EXTENDED for a changeover started as a LIVE record has just ended (R68). -/
def State.gapNotice (n : TxId) (c : Cand) (ended : Option TargetId) (s : State) : State :=
  match ended with
  | some old =>
    let d := s.plannedFor n c.setp
    let ahead := ringSub c.start s.now
    if ahead < d then s.post (.gapExtended n c.id old c.start d (d - ahead)) else s
  | none => s

/-- The evaluator asks CSQ for a changeover toward a candidate (R61, R64, R65). -/
def State.startToward (n : TxId) (c : Cand) (ended : Option TargetId) (s : State) : State :=
  ((s.pend n c).gapNotice n c ended).changeover n (s.toward n c)

/-- The candidate's changeover is due: now ≥ S − D (R65). -/
def State.due (s : State) (n : TxId) (c : Cand) : Bool := decide (ringSub c.start s.now ≤ s.plannedFor n c.setp)

/-- The next target where its changeover is due (R65, R66). -/
def State.dueNext (s : State) (n : TxId) : Option Cand := (s.nextTarget n).filter fun c => s.due n c

/-- R65 asks for a changeover, with the next target that may be taken. -/
def State.uncoveredStarts (s : State) (n : TxId) (next : Option Cand) : Bool :=
  match next with
  | some _ => !(!decide ((s.ctx n).rf = .off) && (s.liveRec n).isSome)
  | none => !decide ((s.ctx n).rf = .off) && (s.liveRec n).isNone

/-- The full decision asks for a changeover of TXn at this second (R64 step 4, R65). -/
def State.startsChangeover (s : State) (n : TxId) : Bool :=
  match s.covering n with
  | some c => !s.inServiceRec n c.id && !s.invalidBooking n c && !s.matching n c.setp && !s.tooLate c
  | none => s.uncoveredStarts n (s.dueNext n)

/-- The idle-darken test (R70). -/
def State.idleDarken (n : TxId) (s : State) : State :=
  let c := s.ctx n
  match s.txDef n with
  | some d =>
    let ordered := (c.outstanding.any fun o => decide (o.order = .darken)) || (c.deferred.any fun o => decide (o.order = .darken))
    let soon := (s.candidates n).any fun x =>
      decide (0 < ringSub x.start s.now) && decide (ringSub x.start s.now ≤ d.idleDarken * 60)
    if c.state = .standby ∧ c.rf = .off ∧ s.plan n = none ∧ 0 < d.idleDarken ∧ s.covering n = none ∧ soon = false ∧
        ordered = false then s.askOrder n .sch .darken
    else s
  | none => s

/-- R65, with the next target that may be taken. -/
def State.uncovered (n : TxId) (next : Option Cand) (ended : Option TargetId) (s : State) : State :=
  match next with
  | some c => if (s.ctx n).rf ≠ .off ∧ (s.liveRec n).isSome = true then s else s.startToward n c ended
  | none =>
    if (s.ctx n).rf = .off then s
    else if (s.liveRec n).isSome then s
    else s.changeoverToNone n

/-- R64 for a covering target that is not recorded. -/
def State.takeUp (n : TxId) (c : Cand) (ended : Option TargetId) (s : State) : State :=
  if s.invalidBooking n c then s.miss n c .invalid
  else if s.matching n c.setp then s.link n c
  else if s.tooLate c then s.miss n c .late
  else s.startToward n c (if c.start = s.now then ended else none)

/-- R64 and R65 for a transmitter with no plan in flight. -/
def State.serveTarget (n : TxId) (ended : Option TargetId) (s : State) : State :=
  match s.covering n with
  | some c => if s.inServiceRec n c.id then s else s.takeUp n c ended
  | none => s.uncovered n (s.dueNext n) ended

/-- The full decision while the hall is RUNNING (R64, R65, R70): the idle-darken test is made where it started no changeover. -/
def State.decideTx (n : TxId) (ended : Option TargetId) (s : State) : State :=
  if s.startsChangeover n then s.serveTarget n ended else (s.serveTarget n ended).idleDarken n

/-- The full decision while the hall is HALTING (R69). DESIGN CHOICE (log 68): a covering booking that is not recorded is not put to
the booking check either, since no record is to be created. -/
def State.decideHalting (n : TxId) (s : State) : State :=
  match s.covering n with
  | some c => if s.inServiceRec n c.id then s else s.uncovered n none none
  | none => s.uncovered n none none

/-! ## The retarget check (R66) -/

/-- The plan's target stays due (R66). -/
def State.targetDue (s : State) (n : TxId) (p : Plan) : Bool :=
  match p.concerned with
  | some id => match s.recordOf n id with
    | some r => decide (r.status = .pending) && !hasEnded r.finish s.now
    | none => false
  | none => false

/-- The interval of the plan's target has ended (R66). -/
def State.targetEnded (s : State) (n : TxId) (p : Plan) : Bool :=
  match p.concerned with
  | some id => match s.recordOf n id with
    | some r => hasEnded r.finish s.now
    | none => false
  | none => false

/-- The wanted target (R66, R69). -/
def State.wanted (s : State) (n : TxId) : Option Cand :=
  if s.txs.hall = .running then
    match (s.covering n).filter fun c => !s.recorded n c.id && !s.invalidBooking n c && !s.tooLate c with
    | some c => some c
    | none => s.dueNext n
  else none

/-- CSQ is asked to retarget toward the wanted target, where it differs and CSQ takes it (R66, R120). -/
def State.retargetTo (n : TxId) (p : Plan) (s : State) : State :=
  let w := s.wanted n
  if w.map (·.id) = p.concerned ∨ p.takesRetarget = false then s
  else match w with
    | some c => (s.pend n c).retarget n (s.toward n c)
    | none => s.drawnDuration.retarget n (.toNone s.noneDuration)

/-- The retarget check (R66). -/
def State.retargetCheck (n : TxId) (p : Plan) (s : State) : State :=
  if s.targetDue n p then s
  else
    let t := if s.targetEnded n p then s.abandon n .targetEnded else s
    match t.plan n with
    | some q => t.retargetTo n q
    | none => t

/-! ## One station second -/

/-- The context keeps the evaluator from judging TXn (R62). -/
def State.unjudged (s : State) (n : TxId) : Bool :=
  let c := s.ctx n
  decide (c.source = .localKey) || decide (c.state = .faulted) || decide (c.state = .tripped) || decide (c.state = .unknown) ||
    !c.lineUp

/-- The decision stage for one transmitter (R62). -/
def State.decisionStage (n : TxId) (ended : Option TargetId) (s : State) : State :=
  if !s.hallRuns || s.unjudged n then s
  else match s.plan n with
    | some p => s.retargetCheck n p
    | none => if s.txs.hall = .running then s.decideTx n ended else s.decideHalting n

/-- The evaluator takes one transmitter (R62). -/
def State.evaluateTx (n : TxId) (s : State) : State :=
  let r := s.bookkeep n
  r.1.decisionStage n r.2

/-- The evaluator (R62). -/
def State.evaluate (s : State) : State := s.each s.definedTx State.evaluateTx

/-- SCH's work on a handed station time (R25, R55, R57, R62, R114). -/
def State.handSecond (s : State) : State := s.atTimeTest.expiryTest.evaluate.resubmit

/-! ## Booking overlap (R74) -/

/-- The intervals of two bookings intersect (R74). -/
def Booking.meets (b c : Booking) : Bool :=
  covers b.start b.finish c.start || covers c.start c.finish b.start

/-- The booking overlaps another (R74): the same transmitter, or the same antenna. -/
def Booking.overlaps (b c : Booking) : Bool :=
  (decide (b.tx = c.tx) || (b.path.isSome && decide (b.path = c.path))) && b.meets c

end Sys2Proof.Machine
end

