-- ==== Sys2Proof/Machine/Station.lean ====
section
/-! DEFINITION. CLK: second advances (R19, R20, R25), the oscillator, the second-pulse line and the pulse window (R21, R22),
time sets (R23, R24), and the SYNC qualifier (R32). -/

namespace Sys2Proof.Machine
open Sys2Proof

/-- Change the clock. -/
def State.updClk (f : Clock → Clock) (s : State) : State := { s with clk := f s.clk }

/-- A second advance (R19, R20): the elapsed count in every state, station time in every state but UNSET. -/
def Clock.advance (c : Clock) : Clock :=
  let d := { c with elapsed := (c.elapsed + 1) % 4294967296 }
  if c.state = .unset then d
  else if c.sec + 1 < 86400 then { d with sec := c.sec + 1 }
  else if c.day < 65535 then { d with sec := 0, day := c.day + 1 }
  else { d with sec := 0, day := 0, offset := (c.offset + 2) % 7 }

/-- The clock takes a state, with CLOCK-STATE where it changes (R21). -/
def State.toClock (st : ClkState) (cause : ClkCause) (s : State) : State :=
  if s.clk.state = st then s else (s.updClk fun c => { c with state := st }).post (.clockState s.clk.state st cause)

/-- Station time is handed to SCH, except in UNSET (R25). -/
def State.handed (s : State) : State := if s.clk.state = .unset then s else s.handSecond

/-- A set replaces the three parts of station time and re-sets the oscillator's phase (R19, R23). -/
def Clock.take (v : TimeSet) (c : Clock) : Clock :=
  { c with day := v.day, sec := v.sec, offset := v.offset, phase := 0, tail := false, seen := none }

/-- A time set applied at once (R23): the clock becomes FREE with no missing pulse. -/
def State.applySet (v : TimeSet) (s : State) : State :=
  ((s.updClk fun c => { c.take v with missing := 0, pend := none }).toClock .free .set).handed

/-- The oscillator marks a second (R19, R22): the time left to 1000 ms after the base passes, and the base moves there. In
LOCKED the pulse window stays open around it. -/
def State.oscillatorTick (s : State) : State :=
  let t := s.elapse (1000 - s.clk.phase)
  (t.updClk fun c => { c.advance with phase := c.phase - 1000, tail := decide (c.state = .locked), seen := none }).handed

/-- The missing-pulse count rises, and HOLDOVER is entered at 3 (R22), applying a pending set (R24). -/
def State.missedPulse (s : State) : State :=
  let t := s.updClk fun c => { c with tail := false, missing := bumpTo 3 c.missing }
  if t.clk.missing = 3 then
    let u := t.toClock .holdover .missing
    match u.clk.pend with
    | some v => u.applySet v
    | none => u
  else t

/-- The pulse window closes with no pulse in it (R22): 50 ms after the nominal instant. -/
def State.windowCloses (s : State) : State :=
  if s.clk.state = .locked then
    let t := if s.clk.tail then s else s.oscillatorTick
    (t.elapse (50 - t.clk.phase)).missedPulse
  else s

/-- A pulse in FREE or HOLDOVER (R21): 500 ms or more after the last advance it is a second advance. DESIGN CHOICE (log 63): after a
time set the time is counted from the set, which began the second. -/
def State.lockingPulse (s : State) : State :=
  let c := s.clk
  let d := if 500 ≤ c.phase then c.advance else c
  let t := (s.updClk fun _ => { d with phase := 0, tail := false, seen := none, missing := 0 }).toClock .locked .pulse
  if 500 ≤ c.phase then t.handed else t

/-- The pulse window that the last on-time pulse came in is still open (R22; log 5). -/
def Clock.windowOpen (c : Clock) : Bool := !c.tail && c.seen.any fun w => decide (c.phase ≤ w)

/-- The second that the present pulse window is about has begun: by the oscillator, or by an earlier pulse of this window (R22). -/
def Clock.begun (c : Clock) : Bool := c.tail || c.windowOpen

/-- The time left to the close of the present pulse window (R22). -/
def Clock.windowLeft (c : Clock) : Nat :=
  if c.windowOpen then c.seen.getD 0 - c.phase else if c.tail then 50 - c.phase else 1050 - c.phase

/-- The clock after an on-time pulse, before a pending set (R22). -/
def Clock.pulsed (c : Clock) : Clock :=
  { (if c.begun then c else c.advance) with phase := 0, tail := false, seen := some c.windowLeft, missing := 0 }

/-- An on-time pulse (R22): before the nominal instant it is the second advance; the pending set is applied (R24). DESIGN CHOICE
(log 64): a pulse that advances the second and applies a set hands SCH the set's value alone. -/
def State.onTimePulse (s : State) : State :=
  let c := s.clk
  match c.pend with
  | some v => (s.updClk fun _ => { c.pulsed.take v with pend := none, seen := c.pulsed.seen }).handed
  | none => if c.begun then s.updClk fun _ => c.pulsed else (s.updClk fun _ => c.pulsed).handed

/-- A pulse outside any window (R22). -/
def State.strayPulse (s : State) : State := s.updClk fun c => { c with stray := bumpTo 65535 c.stray }

/-- The pulse is on time in LOCKED (R22): from 950 ms after the base to 50 ms after the nominal instant, a second pulse of one window
too (log 5). -/
def Clock.onTime (c : Clock) : Bool :=
  c.windowOpen || (!c.tail && decide (950 ≤ c.phase)) || (c.tail && decide (c.phase ≤ 50))

/-- A pulse in LOCKED (R22). -/
def State.lockedPulse (s : State) : State := if s.clk.onTime then s.onTimePulse else s.strayPulse

/-- A span of `left` ms passes, and what falls due in it is taken at its instant (R19, R22): the close of a window left open, or
the oscillator's second, and then the rest of the span. The first argument bounds how many are taken. -/
def State.passing : Nat → Nat → State → State
  | 0, left, s => s.elapse left
  | k + 1, left, s =>
    if s.clk.state = .locked ∧ s.clk.tail = true then
      (if 50 < s.clk.phase + left then s.windowCloses.passing k (left - (50 - s.clk.phase)) else s.elapse left)
    else if 1000 ≤ s.clk.phase + left then s.oscillatorTick.passing k (left - (1000 - s.clk.phase))
    else s.elapse left

/-- A span passes: each whole second of it holds at most one second of the oscillator and one close of a window. -/
def State.pass (left : Nat) (s : State) : State := s.passing (2 * ((s.clk.phase + left) / 1000) + 2) left

/-- A pulse on the second-pulse line, `after` ms after the command before it (R21, R22; log 5). -/
def State.pulse (after : Nat) (s : State) : State :=
  let t := s.pass after
  match t.clk.state with
  | .unset => t
  | .locked => t.lockedPulse
  | _ => t.lockingPulse

/-- The oscillator's second (R19). In LOCKED a window that is still open closes first (log 5). -/
def State.oscillatorSecond (s : State) : State :=
  (if s.clk.state = .locked ∧ s.clk.tail = true then s.windowCloses else s).oscillatorTick

/-- SET-TIME taken (R23): applied at once, or held while the clock is LOCKED. -/
def State.takeTime (v : TimeSet) (s : State) : State :=
  if s.clk.state = .locked then s.updClk fun c => { c with pend := some v } else s.applySet v

/-- A rising edge on the SYNC line (R32). -/
def State.syncRises (s : State) : State :=
  if s.pins.sync then s else ({ s with pins := { s.pins with sync := true } }).startChan .sync 10

/-- The SYNC input goes off (R32). -/
def State.syncOff (s : State) : State := ({ s with pins := { s.pins with sync := false } }).stopChan .sync

/-- A SYNC edge handed to SCH (R32, R55). -/
def State.syncEdge (s : State) : State := if s.sch.arming = .syncLine then s.trigger .syncLine else s

end Sys2Proof.Machine
end

