-- ==== Sys2Proof/Machine/Operands.lean ====
section
/-! DEFINITION. The operands of the requests: required fields, ranges and consistency conditions of the transmitter record
(R2, R3), the antenna record (R4), the hall-wide record (R7, R8), entries (R37), season headers (R39) and bookings (R72,
R73), each naming the position of the first offending field (R189), and the records built from the fields. -/

namespace Sys2Proof.Machine
open Sys2Proof

/-! ## Checks in order -/

/-- The position named by the first check that fails (R189), or none. -/
def firstBad (l : List (Bool × Nat)) : Option Nat := (l.find? fun x => !x.1).map (·.2)

/-- A value lies in lo..hi. -/
def within (lo hi x : Nat) : Bool := decide (lo ≤ x) && decide (x ≤ hi)

/-- A band edge or frequency: 3900..26100 kHz, a multiple of 5. -/
def isFreq (f : Nat) : Bool := within 3900 26100 f && decide (f % 5 = 0)

/-- A list is strictly ascending. -/
def ascending : List Nat → Bool
  | [] => true
  | [_] => true
  | x :: y :: l => decide (x < y) && ascending (y :: l)

/-- An optional value lies in lo..hi where it is present. -/
def optWithin (lo hi : Nat) : Option Nat → Bool
  | some x => within lo hi x
  | none => true

/-- The items a list of numbers names. -/
def itemsOf (n : Nat) (l : List Nat) : List (Fin n) := l.filterMap (itemOf n)

/-! ## The transmitter record (R2, R3) -/

/-- RAMP-STEP as stored (R3). -/
def storedStep (v : Nat) : Nat := clampTo 10 500 v

/-- RAMP-INTERVAL as stored: clamped, then rounded down to a multiple of 50 (R3). -/
def storedInterval (v : Nat) : Nat := clampTo 50 2000 v / 50 * 50

/-- The first required field of DEFINE-TX that is missing. -/
def txMissing (f : TxFields) : Option Nat :=
  firstBad [(f.rating.isSome, 2), (f.bandLow.isSome, 3), (f.bandHigh.isSome, 4), (f.taps.isSome, 5)]

/-- The record DEFINE-TX builds, with defaults for absent fields and R3 applied; none while a required field is missing. -/
def txRecord (f : TxFields) : Option TxDef :=
  match f.rating, f.bandLow, f.bandHigh, f.taps with
  | some r, some lo, some hi, some taps => some ⟨r, lo, hi, taps, storedStep (f.rampStep.getD 50),
      storedInterval (f.rampInterval.getD 200), f.warmUp.getD 90, f.tuneShort.getD 20, f.tuneLong.getD 45,
      f.shortSpan.getD 500, f.tuneTimeout.getD 90, f.rowEst.getD 3, f.rowTimeout.getD 10, f.recycleLimit.getD 3,
      f.recycleDelay.getD 5, f.recycleWindow.getD 600, f.loadWarn.getD 150, f.loadFold.getD 180, f.loadTrip.getD 250,
      f.idleDarken.getD 0⟩
  | _, _, _, _ => none

/-- A TAPS list (R2): 2 to 6 items, strictly ascending, the first at least 100, the last 1000. -/
def tapsFit (l : List Nat) : Bool :=
  within 2 6 l.length && ascending l && l.head?.any (fun x => decide (100 ≤ x)) && decide (l.getLast? = some 1000)

/-- The first field of a transmitter record that R2 refuses, in table order. DESIGN CHOICE (log 69): a LOAD-WARN or LOAD-FOLD that is
itself outside 101..9999 is named for that. -/
def txFieldFault (d : TxDef) : Option Nat :=
  firstBad [
    (within 100 6000 d.rating, 2),
    (isFreq d.bandLow, 3),
    (isFreq d.bandHigh && decide (d.bandLow ≤ d.bandHigh), 4),
    (tapsFit d.taps, 5),
    (within 0 600 d.warmUp, 8),
    (within 5 300 d.tuneShort, 9),
    (within 5 300 d.tuneLong && decide (d.tuneShort ≤ d.tuneLong), 10),
    (within 0 5000 d.shortSpan, 11),
    (within 10 600 d.tuneTimeout, 12),
    (within 1 60 d.rowEst, 13),
    (within 2 120 d.rowTimeout && decide (d.rowEst < d.rowTimeout), 14),
    (within 1 5 d.recycleLimit, 15),
    (within 2 60 d.recycleDelay, 16),
    (within 60 3600 d.recycleWindow, 17),
    (within 101 9999 d.loadWarn, 18),
    (within 101 9999 d.loadFold && decide (d.loadWarn ≤ d.loadFold), 19),
    (within 101 9999 d.loadTrip && decide (d.loadFold < d.loadTrip), 20),
    (within 0 1440 d.idleDarken, 21)]

/-- The positions of the fields that R3 has changed, RAMP-STEP and RAMP-INTERVAL: CLAMPED (R189). -/
def txClamped (f : TxFields) : List Nat :=
  (if f.rampStep.any fun v => !decide (storedStep v = v) then [6] else []) ++
    (if f.rampInterval.any fun v => !decide (storedInterval v = v) then [7] else [])

/-! ## The antenna record (R4) -/

/-- The first required field of DEFINE-ANT that is missing. -/
def antMissing (f : AntFields) : Option Nat :=
  firstBad [(f.rating.isSome, 2), (f.bandLow.isSome, 3), (f.bandHigh.isSome, 4), (f.zone.isSome, 5), (f.reach.isSome, 6)]

/-- A list of transmitter numbers: each 1..16, strictly ascending. -/
def txList (l : List Nat) : Bool := l.all (within 1 16) && ascending l

/-- The first field of DEFINE-ANT that R4 refuses, in table order. DESIGN CHOICE (log 69): a WARN or FOLD that is itself outside
101..9999 is named for that. -/
def antFieldFault (f : AntFields) : Option Nat :=
  let low := f.bandLow.getD 0
  let high := f.bandHigh.getD 0
  let reach := f.reach.getD []
  let warn := f.warn.getD 150
  let fold := f.fold.getD 180
  let trip := f.trip.getD 250
  let selEst := f.selEst.getD 8
  let selTimeout := f.selTimeout.getD 20
  let beamEst := f.beamEst.getD 20
  let beamTimeout := f.beamTimeout.getD 60
  firstBad [
    (within 100 6000 (f.rating.getD 0), 2),
    (isFreq low, 3),
    (isFreq high && decide (low ≤ high), 4),
    (within 1 8 (f.zone.getD 0), 5),
    (within 1 16 reach.length && txList reach, 6),
    (within 1 9 (f.beams.getD 1), 7),
    (within 101 9999 warn, 8),
    (within 101 9999 fold && decide (warn ≤ fold), 9),
    (within 101 9999 trip && decide (fold < trip), 10),
    (within 1 120 selEst, 11),
    (within 2 300 selTimeout && decide (selEst < selTimeout), 12),
    (within 1 300 beamEst, 13),
    (within 2 600 beamTimeout && decide (beamEst < beamTimeout), 14)]

/-- The record DEFINE-ANT builds, with defaults for absent fields; none while a required field is missing or its zone has no
number. -/
def antRecord (f : AntFields) : Option AntDef :=
  match f.rating, f.bandLow, f.bandHigh, f.zone.bind (itemOf 8), f.reach with
  | some r, some lo, some hi, some z, some reach => some ⟨r, lo, hi, z, itemsOf 16 reach, f.beams.getD 1, f.warn.getD 150,
      f.fold.getD 180, f.trip.getD 250, f.selEst.getD 8, f.selTimeout.getD 20, f.beamEst.getD 20, f.beamTimeout.getD 60⟩
  | _, _, _, _, _ => none

/-! ## The hall-wide record (R7, R8) -/

/-- The member lists of DEFINE-HALL, absent ones empty. -/
def groupLists (f : HallFields) : List (List Nat) :=
  [f.group1.getD [], f.group2.getD [], f.group3.getD [], f.group4.getD []]

/-- A trim group's member list: 0 to 16 transmitter numbers (R7, R8). -/
def groupFits (l : List Nat) : Bool := decide (l.length ≤ 16) && txList l

/-- The first field of DEFINE-HALL that R7 or R8 refuses RANGE. -/
def hallFieldFault (f : HallFields) : Option Nat :=
  firstBad [
    (optWithin 10 500 f.minForward, 1),
    (optWithin 0 900 f.minRemainder, 2),
    (groupFits (f.group1.getD []), 5),
    (groupFits (f.group2.getD []), 6),
    (groupFits (f.group3.getD []), 7),
    (groupFits (f.group4.getD []), 8)]

/-- The lowest-numbered transmitter that stands in two groups (R8). -/
def sharedMember (f : HallFields) : Option Nat :=
  ((List.range 17).drop 1).find? fun k => decide (2 ≤ ((groupLists f).filter fun l => l.contains k).length)

/-- The hall-wide record DEFINE-HALL stores, with defaults for absent fields (R7). -/
def hallRecord (f : HallFields) : HallDef :=
  ⟨f.minForward.getD 50, f.minRemainder.getD 120, f.panelRelease.getD false, f.panelTelemetry.getD false,
    #v[itemsOf 16 (f.group1.getD []), itemsOf 16 (f.group2.getD []), itemsOf 16 (f.group3.getD []),
      itemsOf 16 (f.group4.getD [])]⟩

/-! ## Entries (R37) and headers (R39) -/

/-- The first required field of PUT-ENTRY that is missing. -/
def entryMissing (f : EntryFields) : Option Nat :=
  firstBad [(f.id.isSome, 1), (f.tx.isSome, 2), (f.freq.isSome, 3), (f.path.isSome, 4), (f.beam.isSome, 5),
    (f.power.isSome, 6), (f.start.isSome, 7), (f.duration.isSome, 8), (f.days.isSome, 9), (f.priority.isSome, 10)]

/-- A BEAM value fits its PATH (R37, R72): 0..8, and 0 when PATH is LOAD. -/
def beamFits (path beam : Nat) : Bool := decide (beam ≤ 8) && (!decide (path = 0) || decide (beam = 0))

/-- LAST-DAY is not below FIRST-DAY when both are present (R37). -/
def daysInOrder : Option Nat → Option Nat → Bool
  | some a, some b => decide (a ≤ b)
  | _, _ => true

/-- The first field of PUT-ENTRY that R37 refuses, in table order. -/
def entryFieldFault (f : EntryFields) : Option Nat :=
  firstBad [
    (within 1 65535 (f.id.getD 0), 1),
    (within 1 16 (f.tx.getD 0), 2),
    (isFreq (f.freq.getD 0), 3),
    (within 0 40 (f.path.getD 0), 4),
    (beamFits (f.path.getD 0) (f.beam.getD 0), 5),
    (within 100 6000 (f.power.getD 0), 6),
    (within 0 1439 (f.start.getD 0), 7),
    (within 5 1440 (f.duration.getD 0), 8),
    (within 1 127 (f.days.getD 0), 9),
    (within 0 7 (f.priority.getD 0), 10),
    (optWithin 0 65535 f.firstDay, 11),
    (optWithin 0 65535 f.lastDay && daysInOrder f.firstDay f.lastDay, 12),
    (optWithin 0 65535 f.tag, 13)]

/-- The entry PUT-ENTRY inserts; none while its transmitter has no number. -/
def entryRecord (f : EntryFields) : Option Entry :=
  (f.tx.bind (itemOf 16)).map fun n => ⟨f.id.getD 0, n, f.freq.getD 0, f.path.bind (itemOf 40), f.beam.getD 0,
    f.power.getD 0, f.start.getD 0, f.duration.getD 0, f.days.getD 0, f.priority.getD 0, f.firstDay, f.lastDay, f.tag⟩

/-- A LABEL: four characters, each of code 32..126 (R39). -/
def labelFits (l : List Nat) : Bool := decide (l.length = 4) && l.all (within 32 126)

/-- The first field of SEAL-STAGING that R39 and R43 refuse RANGE. DESIGN CHOICE (log 65): FIRST above LAST names LAST. -/
def sealFieldFault (f : SealFields) : Option Nat :=
  firstBad [
    (within 0 65535 f.season, 1),
    (labelFits f.label, 2),
    (within 0 65535 f.first, 3),
    (within 0 65535 f.last && decide (f.first ≤ f.last), 4),
    (within 0 1024 f.expected, 5)]

/-- The header SEAL-STAGING carries. -/
def sealHeader (f : SealFields) : Header := ⟨f.season, f.label, f.first, f.last⟩

/-! ## Bookings (R72, R73) -/

/-- The first required field of BOOK that is missing: every field but DURATION and TAG (R73 check 1). -/
def bookMissing (f : BookFields) : Option Nat :=
  firstBad [(f.tx.isSome, 1), (f.freq.isSome, 2), (f.path.isSome, 3), (f.beam.isSome, 4), (f.power.isSome, 5),
    (f.start.isSome, 6), (f.priority.isSome, 8), (f.wait.isSome, 9)]

/-- A START is within its range (R73 check 2). -/
def startFits : Option StartReq → Bool
  | some (.on day sec) => within 0 65535 day && within 0 86399 sec
  | _ => true

/-- The first field of BOOK outside its range (R73 check 2). -/
def bookFieldFault (f : BookFields) : Option Nat :=
  firstBad [
    (within 1 16 (f.tx.getD 0), 1),
    (isFreq (f.freq.getD 0), 2),
    (within 0 40 (f.path.getD 0), 3),
    (beamFits (f.path.getD 0) (f.beam.getD 0), 4),
    (within 100 6000 (f.power.getD 0), 5),
    (startFits f.start, 6),
    (optWithin 60 86400 f.duration, 7),
    (within 0 7 (f.priority.getD 0), 8),
    (optWithin 0 65535 f.tag, 10)]

/-- The position a failed path check is reported against (R73 check 6): PATH, FREQ or BEAM. -/
def pathPosition : ConflictKind → Nat
  | .txBand => 2
  | .antBand => 2
  | .beam => 4
  | _ => 3

end Sys2Proof.Machine
end

