-- ==== Sys2Proof/Machine/Description.lean ====
section
/-! DEFINITION. The requests of HDS (chapter 1): DEFINE-TX, DEFINE-ANT, DEFINE-HALL with their effects on every block, and
READ-TX-DEF and READ-ANT-DEF. -/

namespace Sys2Proof.Machine
open Sys2Proof

/-- What a request answers: the state after it, and its result (R188: "answers at once"). -/
structure Answer where
  st : State
  res : Result
deriving DecidableEq, Repr

/-- A refusal changes nothing. -/
def State.refused (r : Reason) (detail : Nat) (s : State) : Answer := ⟨s, .refused r detail⟩

/-- An acceptance with its result body. -/
def State.ok (b : Body) (s : State) : Answer := ⟨s, .accepted b⟩

/-! ## What a change of the description reaches -/

/-- Every static minimum is computed again (R9). -/
def State.recomputeMinima (s : State) : State :=
  { s with hds := { s.hds with
    staticMin := Vector.ofFn fun n : Fin 16 => (s.txDef n).map fun d => staticMinimum d n (s.definedAnt.filterMap s.antDef) } }

/-- SCH is told of a change of the description (R15, R16): the sweep of a VALIDATING or SEALED bank restarts, and the recheck
flag of a LIVE ACTIVE bank is set. -/
def State.tellSch (s : State) : State :=
  let t := s.restartSweep
  { t with sch := { t.sch with active := t.sch.active.map fun b => { b with recheck := true } } }

/-- An actuator becomes defined (R5, R127, R146). -/
def State.actEnters (act : ActId) (s : State) : State := (s.setEntry act (some .initial)).setPos act .unknown

/-- An actuator becomes undefined (R5, R36, R134, R148): its entry and orders go, its travel channel stops, its held move
leaves, and a clearing that waited for its query is answered (log 24). DESIGN CHOICE (log 82): a service query of R141 that waits
for a BDa goes on waiting. -/
def State.actLeaves (act : ActId) (s : State) : State :=
  match s.entry act with
  | some e =>
    let t := (((s.setEntry act none).setPos act .unknown).stopChan (.travel act)).setQueue
      (s.swb.queue.filter fun o => !decide (o.act = act))
    let u := (t.fillQueries).dropHeld fun h => decide (h.act = act)
    let v := { u with amx := { u.amx with flight := u.amx.flight.filter fun h => !decide (h.act = act) } }
    (v.answerQueries act e.requesters).askAgain
  | none => s

/-- The bookings a removal ends leave with cause REMOVED (R14, R76). -/
def State.removeBookings (p : Booking → Bool) (s : State) : State :=
  s.each (s.sch.bookings.filter p) fun b t => t.bookingLeaves b.id .removed

/-! ## DEFINE-TX (R10, R13, R14) -/

/-- A transmitter becomes defined (R1, R5, R80, R161). -/
def State.txEnters (n : TxId) (s : State) : State :=
  ((((s.updCtx n fun _ => .powerOn).updProt n fun _ => .initial).actEnters (.row n)).startChan (.tx n .silence) 3000).askOrder
    n .txs .statusAsk

/-- The recycle count is lowered to a new limit (R161). -/
def State.lowerRecycle (n : TxId) (limit : Nat) (s : State) : State :=
  s.updProt n fun p => { p with recycleCount := min p.recycleCount limit }

/-- A redefinition of TXn that changes TAPS leaves the list in use to serve until the next RF-ON (R13). -/
def State.holdTaps (n : TxId) (d : TxDef) (s : State) : State :=
  match s.txDef n with
  | some old => if old.taps = d.taps then s else s.updProt n fun p => { p with taps := some (p.taps.getD old.taps) }
  | none => s

/-- An accepted DEFINE-TX without REMOVE stores the record (R10, R13). -/
def State.storeTx (n : TxId) (d : TxDef) (s : State) : State :=
  let u := s.holdTaps n d
  let t := { u with hds := { u.hds with tx := u.hds.tx.set n (some d) } }
  ((if s.txDefined n then t.lowerRecycle n d.recycleLimit else t.txEnters n).recomputeMinima).tellSch

/-- The trim group that lists TXn, the lowest where more would (R17). -/
def State.groupOf (s : State) (n : TxId) : Option GroupId :=
  (List.finRange 4).find? fun g => (s.hds.hall.groups[g]).contains n

/-- The body that carries a transmitter record (R10, R17). -/
def State.txBody (n : TxId) (d : TxDef) (clamped : List Nat) (s : State) : Body :=
  .txDef (num n) d ((s.hds.staticMin[n]).getD 0) (s.groupOf n) clamped

/-- DEFINE-TX (R10). -/
def State.reqDefineTx (number : Nat) (f : TxFields) (s : State) : Answer :=
  if s.txs.hall = .halted then
    match itemOf 16 number with
    | none => s.refused .range 1
    | some n => match txMissing f, txRecord f with
      | some k, _ => s.refused .malformed k
      | none, none => s.refused .malformed 0
      | none, some d => match txFieldFault d with
        | some k => s.refused .range k
        | none =>
          let t := s.storeTx n d
          t.ok (t.txBody n d (txClamped f))
  else s.refused .state 1

/-- ANa bars the removal of TXn (R14): TXn owns it, or its selector is recorded at TXn or TRAVELLING to it. -/
def State.barsRemoval (s : State) (n : TxId) (a : AntId) : Bool :=
  decide (s.owned n = some a) || decide (s.pos (.sel a) = .atp (.tx n)) || decide (s.pos (.sel a) = .travelling (.tx n))

/-- An accepted removal of TXn (R14, R36, R106). A plan still present is removed with it (log 25). -/
def State.removeTx (n : TxId) (s : State) : State :=
  let t := (s.removePlan n).actLeaves (.row n)
  let u := ({ t with
    hds := { t.hds with tx := t.hds.tx.set n none }
    tim := { t.tim with tx := t.tim.tx.set n .stopped }
    snaps := t.snaps.set n none
    csq := { t.csq with hold := t.csq.hold.set n .none } }).removeBookings fun b => decide (b.tx = n)
  ((((u.updCtx n fun _ => .powerOn).updProt n fun _ => .initial).updOcc n fun _ => ⟨none, none⟩).recomputeMinima).tellSch

/-- DEFINE-TX with REMOVE (R10, R14). -/
def State.reqDefineTxRemove (number : Nat) (s : State) : Answer :=
  if s.txs.hall = .halted then
    match itemOf 16 number with
    | none => s.refused .range 1
    | some n =>
      if s.txDefined n then
        match s.definedAnt.find? (s.barsRemoval n) with
        | some a => s.refused .conflict (num a)
        | none => (s.removeTx n).ok (.undefined number)
      else s.ok (.undefined number)
  else s.refused .state 1

/-! ## Zones (R6, R138, R139) -/

/-- The zone records derived from the defined antenna records (R6). -/
def State.derivedZones (s : State) : Vector ZoneRec 8 :=
  Vector.ofFn fun z : Fin 8 =>
    let l := s.definedAnt.filter fun a => match s.antDef a with
      | some d => decide (d.zone = z)
      | none => false
    ⟨l, !l.isEmpty⟩

/-- A zone's condition follows its coming into use or going out of use (R6, R138). -/
def State.zoneUse (was : Bool) (z : ZoneId) (s : State) : State :=
  let now := (s.hds.zones[z]).inUse
  if now && !was then
    (if s.pins.gate[z] then { s with amx := { s.amx with zone := s.amx.zone.set z (some false) } } else s.zoneOpens z)
  else if was && !now then { s with amx := { s.amx with zone := s.amx.zone.set z none } }
  else s

/-- The zone table is derived again (R6, R11). -/
def State.rederiveZones (s : State) : State :=
  ({ s with hds := { s.hds with zones := s.derivedZones } }).each allZones fun z t => t.zoneUse (s.hds.zones[z]).inUse z

/-! ## DEFINE-ANT (R11, R13, R14) -/

/-- The transmitter a recorded selector position names: AT its row or TRAVELLING to it. -/
def Pos.row : Pos → Option TxId
  | .atp (.tx n) => some n
  | .travelling (.tx n) => some n
  | _ => none

/-- The conflict of R13 that a new record of ANa meets: the transmitter left out, or the antenna. DESIGN CHOICE (log 96): the
transmitter where both hold. -/
def State.antConflict (s : State) (a : AntId) (d : AntDef) : Option Nat :=
  match (s.pos (.sel a)).row with
  | some n => if d.reach.contains n then
      (if d.beams = 1 ∧ (s.pos (.beam a)).isTravelling = true then some (num a) else none)
    else some (num n)
  | none => if d.beams = 1 ∧ (s.pos (.beam a)).isTravelling = true then some (num a) else none

/-- The recorded beam of ANa is not below a new count (R5). DESIGN CHOICE (log 59): a BDa recorded TRAVELLING is left so, since only
its arrival records a beam. -/
def State.beamBeyond (s : State) (a : AntId) (beams : Nat) : Bool :=
  match s.pos (.beam a) with
  | .atp (.beam i) => decide (beams ≤ i)
  | _ => false

/-- BDa follows the new record of ANa (R5). -/
def State.beamFollows (a : AntId) (d : AntDef) (s : State) : State :=
  if 2 ≤ d.beams then
    (if s.actDefined (.beam a) then (if s.beamBeyond a d.beams then s.setPos (.beam a) .unknown else s)
     else s.actEnters (.beam a))
  else s.actLeaves (.beam a)

/-- An antenna becomes defined (R5, R126, R173). -/
def State.antEnters (a : AntId) (s : State) : State := ((s.setRun a (some .initial)).setTrips a []).actEnters (.sel a)

/-- A redefinition has moved an owned antenna into a zone that is OPEN already (R139). -/
def State.movedToOpen (s : State) (a : AntId) (d : AntDef) : Bool :=
  match s.antDef a with
  | some old => !decide (old.zone = d.zone) && decide (s.amx.zone[d.zone] = some true)
  | none => false

/-- An accepted DEFINE-ANT without REMOVE stores the record (R11, R13). -/
def State.storeAnt (a : AntId) (d : AntDef) (s : State) : State :=
  let t := { s with hds := { s.hds with ant := s.hds.ant.set a (some d) } }
  let u := ((if s.antDefined a then t else t.antEnters a).beamFollows a d).rederiveZones
  ((if s.movedToOpen a d then u.zoneActs a else u).recomputeMinima).tellSch

/-- The in-use flag of the zone of a record. -/
def State.zoneInUse (s : State) (d : AntDef) : Bool := (s.hds.zones[d.zone]).inUse

/-- DEFINE-ANT (R11). -/
def State.reqDefineAnt (number : Nat) (f : AntFields) (s : State) : Answer :=
  if s.txs.hall = .halted then
    match itemOf 40 number with
    | none => s.refused .range 1
    | some a => match antMissing f, antFieldFault f with
      | some k, _ => s.refused .malformed k
      | none, some k => s.refused .range k
      | none, none => match antRecord f with
        | none => s.refused .malformed 0
        | some d => match s.antConflict a d with
          | some k => s.refused .conflict k
          | none =>
            let t := s.storeAnt a d
            t.ok (.antDef number d (t.beamDefined a) (t.zoneInUse d))
  else s.refused .state 1

/-- What a removal of ANa is refused for (R14): its owner, or the transmitter its selector stands at or travels to; 0 for a
selector TRAVELLING to GROUND (log 26). DESIGN CHOICE (log 96): the owner where both hold and name different transmitters. -/
def State.antBar (s : State) (a : AntId) : Option Nat :=
  match s.owner a with
  | some o => some (num o.tx)
  | none => match s.pos (.sel a) with
    | .atp (.tx n) => some (num n)
    | .travelling (.tx n) => some (num n)
    | .travelling _ => some 0
    | _ => none

/-- An accepted removal of ANa (R14, R131). -/
def State.removeAnt (a : AntId) (s : State) : State :=
  let t := (((s.withdrawAll a .service).actLeaves (.sel a)).actLeaves (.beam a)).removeBookings fun b => decide (b.path = some a)
  let u := ({ t with hds := { t.hds with ant := t.hds.ant.set a none } }).setRun a none
  (((u.setTrips a []).rederiveZones).recomputeMinima).tellSch

/-- DEFINE-ANT with REMOVE (R11, R14): its reply carries the in-use flag of the zone the antenna stood in, after the change, and no
flag where the antenna was undefined and stood in none. -/
def State.reqDefineAntRemove (number : Nat) (s : State) : Answer :=
  if s.txs.hall = .halted then
    match itemOf 40 number with
    | none => s.refused .range 1
    | some a => match s.antDef a with
      | some d => match s.antBar a with
        | some k => s.refused .conflict k
        | none => (s.removeAnt a).ok (.antUndefined number (some ((s.removeAnt a).zoneInUse d)))
      | none => s.ok (.antUndefined number none)
  else s.refused .state 1

/-! ## DEFINE-HALL (R12) -/

/-- The effective member lists of the four groups (R8). -/
def State.effectiveGroups (s : State) : Vector (List TxId) 4 := Vector.ofFn fun g : Fin 4 => s.effective g

/-- An accepted DEFINE-HALL stores the record (R12). -/
def State.storeHall (d : HallDef) (s : State) : State := ({ s with hds := { s.hds with hall := d } }).tellSch

/-- DEFINE-HALL (R12). -/
def State.reqDefineHall (f : HallFields) (s : State) : Answer :=
  if s.txs.hall = .halted then
    match hallFieldFault f with
    | some k => s.refused .range k
    | none => match sharedMember f with
      | some k => s.refused .conflict k
      | none =>
        let t := s.storeHall (hallRecord f)
        t.ok (.hallStored (hallRecord f) t.effectiveGroups)
  else s.refused .state 0

/-! ## Reading (R17) -/

/-- READ-TX-DEF (R17); number 0 returns the hall-wide record. -/
def State.reqReadTxDef (number : Nat) (s : State) : Answer :=
  if number = 0 then s.ok (.hallDef s.hds.hall s.effectiveGroups s.hds.zones)
  else match itemOf 16 number with
    | none => s.refused .range 1
    | some n => match s.txDef n with
      | some d => s.ok (s.txBody n d [])
      | none => s.refused .noSuch number

/-- READ-ANT-DEF (R17). -/
def State.reqReadAntDef (number : Nat) (s : State) : Answer :=
  match itemOf 40 number with
  | none => s.refused .range 1
  | some a => match s.antDef a with
    | some d => s.ok (.antDef number d (s.beamDefined a) (s.zoneInUse d))
    | none => s.refused .noSuch number

end Sys2Proof.Machine
end

