-- ==== Sys2Proof/Machine/ClockRequests.lean ====
section
/-! DEFINITION. The requests of CLK (chapter 2): SET-TIME, READ-TIME, LATCH and READ-SNAPSHOT. -/

namespace Sys2Proof.Machine
open Sys2Proof

/-! ## Time (R23, R26) -/

/-- The first field of SET-TIME outside its range (R23). -/
def timeFault (day sec : Nat) (offset : Option Nat) : Option Nat :=
  firstBad [(within 0 65535 day, 1), (within 0 86399 sec, 2), (optWithin 0 6 offset, 3)]

/-- SET-TIME (R23). An absent OFFSET stands for the present weekday offset. -/
def State.reqSetTime (day sec : Nat) (offset : Option Nat) (s : State) : Answer :=
  match timeFault day sec offset with
  | some k => s.refused .range k
  | none =>
    let t := s.takeTime ⟨day, sec, offset.getD s.clk.offset⟩
    t.ok (.timeSet (!decide (s.clk.state = .locked)) t.clk.day t.clk.sec t.clk.state)

/-- READ-TIME (R26). -/
def State.reqReadTime (s : State) : Answer :=
  let c := s.clk
  s.ok (.time c.day c.sec c.offset (if c.state = .unset then 0 else (c.day + c.offset) % 7) c.state c.missing c.stray
    c.elapsed c.pend)

/-! ## Snapshots (R33 to R35) -/

/-- The channels of a transmitter and its hall line, in the order of R34. -/
def allTxChan : List TxChan := [.warmUp, .tune, .ramp, .rfOff, .accept, .silence, .recycle]

/-- The running channels of TXn, each FROZEN while its gate is CLOSED (R34). -/
def State.timerViews (s : State) (n : TxId) : List TimerView :=
  (allTxChan.filter fun c => (s.chan (.tx n c)).running).map fun c =>
    ⟨c, (s.chan (.tx n c)).remaining, !s.gateOpen (.tx n c)⟩

/-- The order-pending flag (R34). -/
def Ctx.orderPending (c : Ctx) : Bool := c.outstanding.isSome || c.deferred.isSome || !c.unshown.isEmpty

/-- The contents of R34 for TXn at this instant. -/
def State.snapshotOf (s : State) (n : TxId) : Snapshot where
  state := (s.ctx n).state
  rf := (s.ctx n).rf
  tuned := (s.ctx n).tuned
  tap := (s.ctx n).tap
  drive := (s.ctx n).drive
  orderPending := (s.ctx n).orderPending
  window := (s.prot n).last
  fold := (s.prot n).fold
  recycleCount := (s.prot n).recycleCount
  timers := s.timerViews n
  day := s.clk.day
  sec := s.clk.sec
  clk := s.clk.state
  setPending := s.clk.pend.isSome

/-- A slot is latched where it is unlatched (R33). -/
def State.latchSlot (n : TxId) (s : State) : State :=
  match s.snaps[n] with
  | some _ => s
  | none => { s with snaps := s.snaps.set n (some (s.snapshotOf n)) }

/-- One line of a LATCH reply: NEW or HELD, with the station time of the copy held (R33). -/
def State.latchLine (s : State) (n : TxId) : TxId × Bool × Nat × Nat :=
  match s.snaps[n] with
  | some c => (n, false, c.day, c.sec)
  | none => (n, true, s.clk.day, s.clk.sec)

/-- The named transmitters are latched at one instant (R33). -/
def State.latchAll (l : List TxId) (s : State) : Answer := (s.each l State.latchSlot).ok (.latched (l.map s.latchLine))

/-- The first number of a list that names no defined transmitter. DESIGN CHOICE (log 83): of several it is the identifier that the
NO-SUCH of R33 names (R189). -/
def State.firstUndefined (s : State) (l : List Nat) : Option Nat :=
  l.find? fun k => match itemOf 16 k with
    | some n => !s.txDefined n
    | none => true

/-- LATCH (R33): ALL, or a list of 1..16 transmitter numbers; a number listed twice is taken once. DESIGN CHOICE
(log 72): RANGE is answered before NO-SUCH, whatever the order of the list. -/
def State.reqLatch (which : Option (List Nat)) (s : State) : Answer :=
  match which with
  | none => s.latchAll s.definedTx
  | some l =>
    if within 1 16 l.length && l.all (within 1 16) then
      match s.firstUndefined l with
      | some k => s.refused .noSuch k
      | none => s.latchAll (itemsOf 16 l).eraseDups
    else s.refused .range 1

/-- READ-SNAPSHOT (R35). -/
def State.reqReadSnapshot (number : Nat) (s : State) : Answer :=
  match itemOf 16 number with
  | none => s.refused .range 1
  | some n =>
    if s.txDefined n then
      match s.snaps[n] with
      | some c => ({ s with snaps := s.snaps.set n none }).ok (.snapshot true c)
      | none => s.ok (.snapshot false (s.snapshotOf n))
    else s.refused .noSuch number

end Sys2Proof.Machine
end

