-- ==== Sys2Proof/Machine/BankRequests.lean ====
section
/-! DEFINITION. The requests of SCH on its banks (chapter 3): loading and sealing the STAGED bank, arming and firing the
changeover, and reading both banks. -/

namespace Sys2Proof.Machine
open Sys2Proof

/-! ## Loading the STAGED bank (R40 to R45) -/

/-- The number of entries the STAGED bank holds. -/
def State.stagedCount (s : State) : Nat := s.sch.staged.entries.length

/-- OPEN-STAGING (R40). -/
def State.reqOpenStaging (s : State) : Answer :=
  match s.sch.staged.state with
  | .empty => (s.updStaged fun b => { b with state := .open, entries := [], header := none }).ok (.count 0)
  | .rejected => (s.updStaged fun b => { b with state := .open }).ok (.count s.stagedCount)
  | .validating => s.refused .busy 0
  | .open => s.refused .state 0
  | .sealed => s.refused .state 0

/-- What keeps a request off a STAGED bank that is not OPEN: BUSY in VALIDATING, STATE with a detail elsewhere. -/
def State.unlessOpen (s : State) (detail : Nat) (f : Answer) : Answer :=
  match s.sch.staged.state with
  | .open => f
  | .validating => s.refused .busy 0
  | .empty => s.refused .state detail
  | .sealed => s.refused .state detail
  | .rejected => s.refused .state detail

/-- An entry of the STAGED bank carries an ID. -/
def StagedBank.holds (id : Nat) (b : StagedBank) : Bool := b.entries.any fun e => decide (e.id = id)

/-- An entry is inserted at the position R38 gives it, the entry of the same ID removed (R41). -/
def StagedBank.put (e : Entry) (b : StagedBank) : StagedBank :=
  { b with entries := placeEntry e (b.entries.filter fun x => !decide (x.id = e.id)) }

/-- The checked entry is put into the STAGED bank (R41 check 3). -/
def State.putChecked (e : Entry) (s : State) : Answer :=
  let replaced := s.sch.staged.holds e.id
  if !replaced && decide (1024 ≤ s.stagedCount) then s.refused .full 1024
  else
    let t := s.updStaged (StagedBank.put e)
    t.ok (.put replaced (positionOf e.id t.sch.staged.entries) t.stagedCount)

/-- PUT-ENTRY (R41). -/
def State.reqPutEntry (f : EntryFields) (s : State) : Answer :=
  s.unlessOpen 1 (match entryMissing f, entryFieldFault f, entryRecord f with
    | some k, _, _ => s.refused .malformed k
    | none, some k, _ => s.refused .range k
    | none, none, none => s.refused .malformed 0
    | none, none, some e => s.putChecked e)

/-- DROP-ENTRY (R42). -/
def State.reqDropEntry (id : Nat) (s : State) : Answer :=
  s.unlessOpen 0 (if within 1 65535 id then
      (if s.sch.staged.holds id then
        let t := s.updStaged fun b => { b with entries := b.entries.filter fun x => !decide (x.id = id) }
        t.ok (.count t.stagedCount)
      else s.refused .noSuch id)
    else s.refused .range 1)

/-- SEAL-STAGING (R43). -/
def State.reqSealStaging (f : SealFields) (s : State) : Answer :=
  s.unlessOpen 1 (match sealFieldFault f with
    | some k => s.refused .range k
    | none =>
      if f.expected = s.stagedCount then
        ((s.updStaged fun b => { b with header := some (sealHeader f) }).sweepBegins).ok (.count s.stagedCount)
      else s.refused .conflict s.stagedCount)

/-- ABORT-STAGING (R44). -/
def State.reqAbortStaging (s : State) : Answer :=
  if s.sch.staged.state = .validating then
    (s.updStaged fun b => { b with state := .open, standing := .aborted }).ok
      (.cursor s.sch.staged.pass s.sch.staged.position)
  else s.refused .state 0

/-- DISCARD-STAGING (R45). -/
def State.reqDiscardStaging (s : State) : Answer :=
  match s.sch.staged.state with
  | .validating => s.refused .busy 0
  | .empty => s.ok .empty
  | _ => (s.updStaged fun _ => .emptyBank).ok .empty

/-! ## Reading (R46, R51, R58) -/

/-- The entry with the smallest ID above k (R46, NEXT). -/
def nextEntry (k : Nat) (l : List Entry) : Option Entry :=
  match l.filter fun e => decide (k < e.id) with
  | [] => none
  | e :: r => some (r.foldl (fun x y => if y.id < x.id then y else x) e)

/-- The entry a READ-ENTRY seeks (R46). -/
def seekEntry (mode : ReadMode) (id : Nat) (l : List Entry) : Option Entry :=
  match mode with
  | .exact => l.find? fun e => decide (e.id = id)
  | .next => nextEntry id l

/-- The entries of a bank, in its order. -/
def State.bankEntries (s : State) (bank : BankSel) : List Entry :=
  match bank with
  | .staged => s.sch.staged.entries
  | .active => match s.sch.active with
    | some b => b.entries.map (·.1)
    | none => []

/-- The disabled mark and generation READ-ENTRY shows for an ACTIVE entry (R46). -/
def State.activeMarks (s : State) (bank : BankSel) (id : Nat) : Option (Bool × Nat) :=
  match bank with
  | .staged => none
  | .active => s.sch.active.map fun b => (b.entries.any fun x => decide (x.1.id = id) && x.2, b.generation)

/-- READ-ENTRY (R46). DESIGN CHOICE (log 97): in NEXT, NO-SUCH carries the ID of the request. -/
def State.reqReadEntry (bank : BankSel) (id : Nat) (mode : ReadMode) (s : State) : Answer :=
  if !within 0 65535 id || (decide (mode = .exact) && decide (id = 0)) then s.refused .range 2
  else match seekEntry mode id (s.bankEntries bank) with
    | some e => s.ok (.entry e (positionOf e.id (s.bankEntries bank)) (s.activeMarks bank e.id))
    | none => s.refused .noSuch id

/-- What READ-BANKS carries for the ACTIVE bank (R58). -/
def activeView (b : ActiveBank) : Nat × Header × Nat × Nat × Bool × Bool :=
  (b.generation, b.header, b.entries.length, b.disabled, b.recheck, b.expired)

/-- What READ-BANKS carries for a sweep in progress (R58). -/
def sweepView (b : StagedBank) : Option (Nat × Nat × Nat × Nat × Nat × Nat) :=
  if b.state = .validating then some (b.pass, b.position, b.conflicts.length, b.overflow, b.willClamp, b.tight) else none

/-- READ-BANKS (R58). -/
def State.reqReadBanks (s : State) : Answer :=
  let b := s.sch.staged
  s.ok (.banks (s.sch.active.map activeView) b.state b.entries.length b.header (sweepView b) s.sch.arming s.sch.lastGen)

/-- READ-CONFLICTS (R51). -/
def State.reqReadConflicts (s : State) : Answer :=
  let b := s.sch.staged
  s.ok (.conflicts b.conflicts b.overflow b.willClamp b.tight b.standing)

/-! ## Arming and firing (R53, R54) -/

/-- Write the changeover arming. -/
def State.arm (a : Arming) (s : State) : State := { s with sch := { s.sch with arming := a } }

/-- The range check of ARM-CHANGEOVER (R53 check 1). -/
def armFault : ArmReq → Option Nat
  | .atTime day sec => firstBad [(within 0 65535 day, 2), (within 0 86399 sec, 3)]
  | _ => none

/-- An accepted arming other than AT_TIME (R53): ON_SEAL on a SEALED bank is the trigger event itself. -/
def State.armSource (a : Arming) (s : State) : Answer :=
  let t := s.arm a
  if a = .onSeal ∧ s.sch.staged.state = .sealed then
    let u := t.trigger .onSeal
    u.ok (.arming u.sch.arming true)
  else t.ok (.arming a false)

/-- ARM-CHANGEOVER (R53). -/
def State.reqArm (src : ArmReq) (s : State) : Answer :=
  match armFault src with
  | some k => s.refused .range k
  | none => match src with
    | .atTime day sec =>
      if s.clk.state = .unset then s.refused .state 2
      else if s.now < secondOf day sec then (s.arm (.atTime day sec)).ok (.arming (.atTime day sec) false)
      else s.refused .range (if day < s.clk.day then 2 else 3)
    | .command => s.armSource .command
    | .syncLine => s.armSource .syncLine
    | .onSeal => s.armSource .onSeal

/-- DISARM-CHANGEOVER (R54): the reply carries the arming held before. -/
def State.reqDisarm (s : State) : Answer := (s.arm .disarmed).ok (.arming s.sch.arming false)

/-- FIRE-CHANGEOVER (R54). -/
def State.reqFire (s : State) : Answer :=
  if s.sch.arming = .command then
    let t := s.trigger .command
    if s.sch.staged.state = .sealed then t.ok (.promoted t.sch.lastGen) else t.ok (.missed s.sch.staged.state)
  else s.refused .state 0

end Sys2Proof.Machine
end

