-- ==== Sys2Proof/Machine/ScheduleRequests.lean ====
section
/-! DEFINITION. The requests of SCH on sources, bookings and occurrences (chapter 4), and of CSQ on hold points and plans
(chapter 6). -/

namespace Sys2Proof.Machine
open Sys2Proof

/-- The checks most requests that name one transmitter share: RANGE outside 1..16, NO-SUCH for an undefined one. -/
def State.withTx (number position : Nat) (s : State) (f : TxId → Answer) : Answer :=
  match itemOf 16 number with
  | none => s.refused .range position
  | some n => if s.txDefined n then f n else s.refused .noSuch number

/-! ## Control source (R77) -/

/-- A change of the stored setting of TXn (R77): under LOCAL nothing else changes; AUTO ends the bookings. -/
def State.storeSource (n : TxId) (src : Stored) (s : State) : State :=
  let t := s.updCtx n fun c => { c with
    stored := src
    source := if c.source = .localKey then .localKey else sourceOf src }
  if src = .auto ∧ (s.ctx n).source = .manual then t.endBookings n else t

/-- The bookings a SET-SOURCE removes (R77). -/
def State.sourceRemoves (s : State) (n : TxId) (src : Stored) : Nat :=
  if src = .auto ∧ (s.ctx n).source = .manual then (s.bookingsToEnd n).length else 0

/-- SET-SOURCE (R77). -/
def State.reqSetSource (number : Nat) (src : Stored) (s : State) : Answer :=
  s.withTx number 1 fun n =>
    if (s.plan n).isSome then s.refused .state 0
    else if (s.ctx n).stored = src then s.ok (.source (s.ctx n).source src 0)
    else
      let t := s.storeSource n src
      t.ok (.source (t.ctx n).source src (s.sourceRemoves n src))

/-! ## Bookings (R72 to R76) -/

/-- The booking ID is in use. -/
def State.idInUse (s : State) (k : Nat) : Bool := s.sch.bookings.any fun b => decide (b.id = k)

/-- The lowest free booking ID (R73). -/
def State.freeId (s : State) : Option Nat := ((List.range 33).drop 1).find? fun k => !s.idInUse k

/-- A booking at its place in the list, in ID order (R72). -/
def placeBooking (b : Booking) : List Booking → List Booking
  | [] => [b]
  | c :: l => if b.id < c.id then b :: c :: l else c :: placeBooking b l

/-- The stored START of a BOOK (R73): START-NOW is the present station time. -/
def State.bookStart (s : State) : Option StartReq → Nat
  | some (.on day sec) => secondOf day sec
  | _ => s.now

/-- The booking a BOOK asks for, under an ID. -/
def State.bookingFor (s : State) (id : Nat) (n : TxId) (f : BookFields) : Booking where
  id := id
  tx := n
  freq := f.freq.getD 0
  path := f.path.bind (itemOf 40)
  beam := f.beam.getD 0
  power := f.power.getD 0
  start := s.bookStart f.start
  duration := f.duration
  priority := f.priority.getD 0
  wait := f.wait.getD false
  tag := f.tag

/-- PATH names an undefined antenna (R73 check 4). -/
def State.pathUndefined (s : State) (b : Booking) : Bool := b.path.any fun a => !s.antDefined a

/-- The lowest booking ID a new booking overlaps (R73 check 8). -/
def State.overlapped (s : State) (b : Booking) : Option Nat := (s.sch.bookings.find? fun c => b.overlaps c).map (·.id)

/-- A booking is accepted under the lowest free ID, or the list is full (R73 check 9). -/
def State.placeNew (b : Booking) (s : State) : Answer :=
  match s.freeId with
  | some k =>
    ({ s with sch := { s.sch with bookings := placeBooking { b with id := k } s.sch.bookings } }).ok (.booked k b.start)
  | none => s.refused .full 32

/-- Checks 4 to 9 of R73 on a transmitter that has a number; earlier is judged on the ring of station seconds. -/
def State.bookChecked (n : TxId) (f : BookFields) (s : State) : Answer :=
  let b := s.bookingFor 0 n f
  match s.txDef n with
  | none => s.refused .noSuch (num n)
  | some d =>
    if s.pathUndefined b then s.refused .noSuch (f.path.getD 0)
    else if (s.ctx n).source ≠ .manual then s.refused .state 5
    else match s.pathFault n d b.freq b.path b.beam with
      | some k => s.refused .range (pathPosition k)
      | none =>
        if later s.now b.start then s.refused .range 6
        else match s.overlapped b with
          | some k => s.refused .conflict k
          | none => s.placeNew b

/-- BOOK (R73). -/
def State.reqBook (f : BookFields) (s : State) : Answer :=
  match bookMissing f, bookFieldFault f with
  | some k, _ => s.refused .malformed k
  | none, some k => s.refused .range k
  | none, none =>
    if s.clk.state = .unset then s.refused .state 3
    else match f.tx.bind (itemOf 16) with
      | none => s.refused .range 1
      | some n => s.bookChecked n f

/-- What cancelling does to the booking's record (R75). -/
def State.cancelRecord (b : Booking) (s : State) : State :=
  let id := TargetId.booking b.id b.start
  match s.recordOf b.tx id with
  | some r =>
    let t := s.recordDone b.tx id .cancelled
    if r.status = .live ∧ s.hallRuns = true ∧ s.plan b.tx = none ∧ (s.ctx b.tx).state ≠ .tripped then
      t.changeoverToNone b.tx
    else t
  | none => s

/-- CANCEL-BOOKING (R75). -/
def State.reqCancelBooking (id : Nat) (s : State) : Answer :=
  if within 1 32 id then
    match s.sch.bookings.find? fun b => decide (b.id = id) with
    | some b =>
      ((s.bookingLeaves id .cancelled).cancelRecord b).ok
        (.cancelled ((s.recordOf b.tx (.booking b.id b.start)).map (·.status)))
    | none => s.refused .noSuch id
  else s.refused .range 1

/-! ## Reading (R78) -/

/-- A booking as READ-BOOKINGS lists it (R78). -/
def State.bookingView (s : State) (b : Booking) : BookingView :=
  ⟨b, b.finish, (s.recordOf b.tx (.booking b.id b.start)).map (·.status)⟩

/-- READ-BOOKINGS (R78). -/
def State.reqReadBookings (s : State) : Answer := s.ok (.bookings (s.sch.bookings.map s.bookingView))

/-- The planned duration and advance start of the next target (R78). -/
def State.advanceOf (s : State) (n : TxId) (c : Cand) : Nat × Nat :=
  (s.plannedFor n c.setp, ringSub c.start (s.plannedFor n c.setp))

/-- READ-OCCURRENCE (R78). -/
def State.reqReadOccurrence (number : Nat) (s : State) : Answer :=
  s.withTx number 1 fun n =>
    let next := s.nextTarget n
    s.ok (.occurrence (s.occ n).cur (s.occ n).prev (s.ctx n).source ((s.covering n).map (·.id))
      (next.map fun c => (c.id, c.start)) (next.map (s.advanceOf n)))

/-! ## Hold points and plans (R117, R119, R125) -/

/-- The hold-point settings of a list of transmitters are written (R117). -/
def State.setHold (l : List TxId) (hp : HoldPoint) (s : State) : Answer :=
  ({ s with csq := { s.csq with hold := l.foldl (fun (v : Vector HoldPoint 16) (n : TxId) => v.set n hp) s.csq.hold } }).ok
    (.holdPoints (l.map fun n => (n, hp)))

/-- SET-HOLD-POINT (R117). -/
def State.reqSetHoldPoint (which : Option Nat) (hp : HoldPoint) (s : State) : Answer :=
  match which with
  | none => s.setHold s.definedTx hp
  | some k => s.withTx k 1 fun n => s.setHold [n] hp

/-- RELEASE-HOLD (R119). BEFORE_RF begins RAMPUP; the phase the plan enters is the one READ-PLAN then shows. -/
def State.reqReleaseHold (number : Nat) (s : State) : Answer :=
  s.withTx number 1 fun n =>
    match s.plan n with
    | some p =>
      if p.atHold then
        let t := (s.setPlan n (some p.released)).settlePlan n
        t.ok (.entered p.released.phase)
      else s.refused .state 0
    | none => s.refused .state 0

/-- READ-PLAN (R125). -/
def State.reqReadPlan (number : Nat) (s : State) : Answer :=
  s.withTx number 1 fun n =>
    match s.plan n with
    | some p => s.ok (.plan p)
    | none => s.ok (.noPlan s.csq.hold[n])

end Sys2Proof.Machine
end

