-- ==== Sys2Proof/Machine/HallRequests.lean ====
section
/-! DEFINITION. The requests of TXS (chapter 5: TRIM, READ-TRIM, CLEAR-FAULT, READ-TX, START-HALL, HALT-HALL), of AMX (chapter
7: SET-ANT-SERVICE, CLEAR-SUSPECT, READ-ANT, READ-MATRIX), and RESTART (R186). -/

namespace Sys2Proof.Machine
open Sys2Proof

/-! ## Trims (R99) -/

/-- The transmitters a TRIM or READ-TRIM names, or its refusal (R99): a group names its effective members. -/
def State.trimmed (s : State) : TrimTarget → Except (Reason × Nat) (List TxId)
  | .tx k => match itemOf 16 k with
    | none => .error (.range, 2)
    | some n => if s.txDefined n then .ok [n] else .error (.noSuch, k)
  | .group k => match itemOf 4 k with
    | none => .error (.range, 2)
    | some g => if (s.effective g).isEmpty then .error (.noSuch, k) else .ok (s.effective g)

/-- The trim of TXn is stored; where it changes with RF on, RFP recomputes ceiling and drive (R99, R159). -/
def State.storeTrim (v : Nat) (n : TxId) (s : State) : State :=
  let t := s.updCtx n fun c => { c with trim := v }
  if (s.ctx n).trim = v then t
  else if (s.ctx n).state.carries || decide ((s.ctx n).state = .tripped) then t.reshape n
  else t

/-- The VALUE of a TRIM as stored (R99). -/
def storedTrim (v : Nat) : Nat := clampTo 500 1000 v

/-- TRIM (R99): CLAMPED carries the position of VALUE (R189). -/
def State.reqTrim (target : TrimTarget) (value : Nat) (s : State) : Answer :=
  match s.trimmed target with
  | .error e => s.refused e.1 e.2
  | .ok l =>
    let v := storedTrim value
    (s.each l (State.storeTrim v)).ok (.trims (l.map fun n => (n, v)) (if v = value then [] else [3]))

/-- READ-TRIM (R99). -/
def State.reqReadTrim (target : TrimTarget) (s : State) : Answer :=
  match s.trimmed target with
  | .error e => s.refused e.1 e.2
  | .ok l => match l with
    | n :: _ => s.ok (.trimOf (s.ctx n).trim l)
    | [] => s.ok (.trimOf 0 [])

/-! ## CLEAR-FAULT (R98, R185) -/

/-- The check of R98 that fails, or none. -/
def Ctx.clearBar (c : Ctx) : Option Nat :=
  if c.state ≠ .faulted then some 1
  else if c.last.any fun r => decide (r.unit = .fault) then some 2
  else if c.rf ≠ .off then some 3
  else none

/-- Who asks SWB for a query that a clearing of TXn awaits (R148, R185): TXS for its row switch, AMX for the selectors. -/
def clearAsker (n : TxId) : ActId → Requester
  | .row _ => .txs n
  | _ => .amx

/-- The queries a clearing awaits are asked for (R98, R148, R185). -/
def State.clearByQuery (n : TxId) (l : List ActId) (s : State) : State :=
  (s.updCtx n fun c => { c with clearing := l, queried := l }).each l fun act t => t.askQuery act (clearAsker n act)

/-- A CLEAR-FAULT on cause ADOPTION joins the queries of an earlier one that are out (R185). -/
def State.clearAdoption (n : TxId) (s : State) : State :=
  if (s.ctx n).clearing.isEmpty then s.clearByQuery n (.row n :: (s.reachingAnts n).map .sel) else s

/-- RFP starts the recycle count and window afresh (R98, R161). -/
def State.freshRecycle (n : TxId) (s : State) : State :=
  s.updProt n fun p => { p with recycleCount := 0, windowStart := some s.clk.elapsed }

/-- A rebuilt context, with its reply (R98). -/
def State.clearedNow (n : TxId) (s : State) : Answer :=
  let t := s.clearRebuild n
  t.ok (.cleared (t.ctx n).state)

/-- CLEAR-FAULT on a transmitter (R98). -/
def State.clearFault (n : TxId) (s : State) : Answer :=
  match (s.ctx n).clearBar with
  | some k => s.refused .state k
  | none => match (s.ctx n).cause with
    | some .recycleLimit => (s.freshRecycle n).clearedNow n
    | some .rowSwitch => (s.clearByQuery n [.row n]).ok .clearPending
    | some .adoption => (s.clearAdoption n).ok .clearPending
    | _ => s.clearedNow n

/-- CLEAR-FAULT (R98). -/
def State.reqClearFault (number : Nat) (s : State) : Answer := s.withTx number 1 fun n => s.clearFault n

/-! ## READ-TX (R100) -/

/-- The context of TXn as READ-TX shows it (R80, R100); the outstanding order with its age in seconds. -/
def State.ctxView (s : State) (n : TxId) : CtxView :=
  let c := s.ctx n
  { state := c.state
    rf := c.rf
    source := c.source
    stored := c.stored
    tuned := c.tuned
    tap := c.tap
    drive := c.drive
    trim := c.trim
    lineUp := c.lineUp
    outstanding := c.outstanding.map fun o => (o.order, ringSub s.now o.sent)
    deferred := c.deferred.map (·.order)
    owed := c.owed
    last := c.last
    cause := c.cause
    declined := c.declined }

/-- The linked occurrence READ-TX shows (R100): the current record in service, ADOPTED, or absent. DESIGN CHOICE (log 73): a
PENDING record is shown as a LIVE one is. -/
def State.linked (s : State) (n : TxId) : Linked :=
  match (s.occ n).cur.filter OccRec.inService with
  | some r => .target r.id
  | none => if (s.ctx n).adopted then .adopted else .absent

/-- READ-TX (R100). -/
def State.reqReadTx (number : Nat) (s : State) : Answer :=
  s.withTx number 1 fun n =>
    s.ok (.tx (s.ctxView n) (s.pos (.row n)) (s.owned n)
      ((s.owned n).bind fun a => if s.beamDefined a then some (s.pos (.beam a)) else none) (s.reservation n) (s.linked n)
      ((s.plan n).map Plan.phase))

/-! ## The hall (R101, R102) -/

/-- The condition START-HALL finds not met (R101, R189), or none. -/
def State.startBar (s : State) : Option Nat :=
  if s.txs.hall ≠ .halted then some 1
  else if s.clk.state = .unset then some 2
  else if s.definedTx.isEmpty then some 3
  else if s.pins.emergency then some 4
  else none

/-- START-HALL (R101), whose reply carries no field. -/
def State.reqStartHall (s : State) : Answer :=
  match s.startBar with
  | some k => s.refused .state k
  | none => ((s.toHall .surveying .startHall).beginSurvey).ok .empty

/-- The plan is in flight toward an occurrence, or has taken a retarget toward one (R102). -/
def Plan.towardOccurrence (p : Plan) : Bool := p.target.isSome || p.concerned.isSome

/-- HALT-HALL NOW reaches TXn (R102): a plan toward an occurrence is abandoned, and a transmitter with RF not OFF and no plan
is given a changeover toward NONE, each with cause HALT. -/
def State.haltTx (n : TxId) (s : State) : State :=
  let t := match s.plan n with
    | some p => if p.towardOccurrence then s.abandon n .halt else s
    | none => s
  if (t.ctx n).rf ≠ .off ∧ t.plan n = none then t.takeDown n .halt else t

/-- The NOW actions (R102). -/
def State.haltNow (s : State) : State := s.each s.definedTx State.haltTx

/-- HALT-HALL (R102), with the test of R103 made at its acceptance. -/
def State.reqHaltHall (now : Bool) (s : State) : Answer :=
  match s.txs.hall with
  | .running =>
    let t := s.toHall .halting .haltHall
    let u := (if now then t.haltNow else t).haltedIfOff
    u.ok (.hall u.txs.hall)
  | .halting =>
    let u := (if now then s.haltNow else s).haltedIfOff
    u.ok (.hall u.txs.hall)
  | _ => s.refused .state 0

/-! ## Antenna service (R140, R141, R144) -/

/-- The number checks of the antenna requests: RANGE outside 1..40, NO-SUCH for an undefined antenna; with its record. -/
def State.withAnt (number : Nat) (s : State) (f : AntId → AntRun → Answer) : Answer :=
  match itemOf 40 number with
  | none => s.refused .range 1
  | some a =>
    if s.antDefined a then
      match s.run a with
      | some r => f a r
      | none => s.refused .noSuch number
    else s.refused .noSuch number

/-- The service of ANa. -/
def State.serviceOf (s : State) (a : AntId) : Service :=
  match s.run a with
  | some r => r.service
  | none => .inService

/-- SET-ANT-SERVICE with OUT (R140). -/
def State.reqServiceOut (number : Nat) (s : State) : Answer :=
  s.withAnt number fun a r =>
    let t := s.takeOut a
    t.ok (.serviceOut r.service (t.serviceOf a) (t.owner a) (t.amxGrounding a))

/-- The actuators of ANa that are in FAULT. -/
def State.faultedActs (s : State) (a : AntId) : List ActId := (s.antActs a).filter s.actFaulted

/-- AMX has SWB query each faulted actuator, and the service query becomes yes (R141). -/
def State.requery (a : AntId) (l : List ActId) (s : State) : State :=
  (s.updRun a fun r => { r with query := l }).each l fun act t => t.askQuery act .amx

/-- ANa returns to service (R141). -/
def State.backInService (a : AntId) (s : State) : State :=
  (s.updRun a fun r => { r with service := .inService, query := [] }).dropGrounding a

/-- An OUT_OF_SERVICE antenna is asked back (R141); a grounding move that AMX still holds is withdrawn (R140). -/
def State.bringIn (a : AntId) (s : State) : Answer :=
  if (s.faultedActs a).isEmpty then (s.backInService a).ok (.serviceIn false)
  else ((s.requery a (s.faultedActs a)).dropGrounding a).ok (.serviceIn true)

/-- SET-ANT-SERVICE with IN (R141). -/
def State.reqServiceIn (number : Nat) (s : State) : Answer :=
  s.withAnt number fun a r =>
    match r.service with
    | .inService => s.ok (.serviceIn false)
    | .suspect => s.refused .state 0
    | .outHost => s.bringIn a
    | .outActuator => s.bringIn a

/-- CLEAR-SUSPECT (R144): the reply carries the recent-trip list before it is emptied. -/
def State.reqClearSuspect (number : Nat) (s : State) : Answer :=
  s.withAnt number fun a r =>
    if r.service = .suspect then
      ((s.updRun a fun q => { q with service := .inService }).setTrips a []).ok (.suspectCleared (s.trips a))
    else s.refused .state 0

/-! ## Reading the matrix (R145) -/

/-- The held moves of an antenna's actuators, with asker and age (R145). -/
def State.heldOf (s : State) (a : AntId) : List HeldView :=
  (s.amx.held.filter fun h => decide (h.act = .sel a) || decide (h.act = .beam a)).map fun h =>
    ⟨h.act, h.place, h.asker, ringSub s.now h.asked⟩

/-- READ-ANT (R145); it consults the recent-trip list, whose old entries are then removed (R173). -/
def State.reqReadAnt (number : Nat) (s : State) : Answer :=
  s.withAnt number fun a r =>
    (s.setTrips a (s.recentTrips a)).ok (.antenna r (s.zoneOpenAt a) (s.pos (.sel a)) (if s.beamDefined a then some (s.pos (.beam a)) else none)
      ((s.entry (.sel a)).map (·.status)) ((s.entry (.beam a)).map (·.status)) (s.heldOf a) (s.recentTrips a))

/-- One antenna's line of READ-MATRIX (R145). -/
def State.matrixAnt (s : State) (a : AntId) : MatrixAnt :=
  ⟨a, s.serviceOf a, s.zoneOpenAt a, s.owner a, (match s.run a with
    | some r => r.queue.length
    | none => 0), s.pos (.sel a)⟩

/-- One transmitter's line of READ-MATRIX (R145). -/
def State.matrixTx (s : State) (n : TxId) : MatrixTx := ⟨n, s.pos (.row n), s.owned n, s.reservation n⟩

/-- The condition of each zone in use (R145). -/
def State.zoneViews (s : State) : List (ZoneId × Bool) :=
  (allZones.filter fun z => (s.hds.zones[z]).inUse).map fun z => (z, decide (s.amx.zone[z] = some true))

/-- The held moves waiting for room in the bus order queue (R137, R145). DESIGN CHOICE (log 103): those that lack nothing else,
and none while the queue has room. -/
def State.waitingForRoom (s : State) : Nat :=
  if s.swb.queue.length < 32 then 0
  else (s.amx.held.filter fun h => (decide (s.txs.hall = .surveying) || s.hallRuns) && !(s.pos h.act).isTravelling &&
    s.interlock h.act h.place).length

/-- READ-MATRIX (R145). -/
def State.reqReadMatrix (s : State) : Answer :=
  s.ok (.matrix (s.definedAnt.map s.matrixAnt) (s.definedTx.map s.matrixTx) s.zoneViews s.amx.held.length s.waitingForRoom)

/-! ## RESTART (R186) -/

/-- A context at RESTART (R80): the power-on values, with stored setting and trim kept. -/
def Ctx.restarted (c : Ctx) : Ctx := { Ctx.powerOn with source := sourceOf c.stored, stored := c.stored, trim := c.trim }

/-- A port at RESTART (R186, R187, R191): the notice queue emptied, the receiver in HUNT, a frame that waits discarded and
counted; the reply slot and the frame in transmission stand. -/
def PortState.restarted (p : PortState) : PortState where
  rx := .hunting
  waiting := none
  lost := .hunting
  slot := p.slot
  queue := []
  discards := if p.waiting.isSome then bumpTo 65535 p.discards else p.discards
  sending := p.sending
  lastReply := false

/-- A zone's condition at RESTART (R139): the present level of its gate line where it is in use. -/
def State.zoneSampled (s : State) (z : ZoneId) : Option Bool :=
  if (s.hds.zones[z]).inUse then some (!s.pins.gate[z]) else none

/-- AMX at RESTART (R126, R127, R134, R139). -/
def State.amxRestarted (s : State) : Amx :=
  { Amx.powerOn with
    ant := Vector.ofFn fun a : Fin 40 => if s.antDefined a then some .initial else none
    zone := Vector.ofFn s.zoneSampled }

/-- SWB at RESTART (R155). -/
def State.swbRestarted (s : State) : Swb :=
  { Swb.powerOn with
    row := Vector.ofFn fun n : Fin 16 => if s.txDefined n then some .initial else none
    sel := Vector.ofFn fun a : Fin 40 => if s.antDefined a then some .initial else none
    beam := Vector.ofFn fun a : Fin 40 => if s.beamDefined a then some .initial else none }

/-- Every block takes its RESTART values (table of R186); no notice is posted yet. -/
def State.restartValues (s : State) : State :=
  { s with
    tim := .stopped
    snaps := Vector.replicate 16 none
    sch := { s.sch with occ := Vector.replicate 16 ⟨none, none⟩, recheckDue := false }
    csq := { s.csq with plans := Vector.replicate 16 none }
    txs := { s.txs with ctx := Vector.ofFn fun n : Fin 16 => (s.ctx n).restarted, survey := none }
    amx := s.amxRestarted
    swb := s.swbRestarted
    rfp := .initial
    lnk := ⟨s.lnk.a.restarted, s.lnk.p.restarted⟩ }

/-- A running sweep begins again (R59). -/
def State.resweep (s : State) : State := if s.sch.staged.state = .validating then s.sweepBegins else s

/-- ZONE-OPEN for a zone found OPEN (R139). -/
def State.postIfOpen (z : ZoneId) (s : State) : State :=
  if s.amx.zone[z] = some true then s.post (.zoneOpen z (s.zoneAnts z)) else s

/-- The hall state a RESTART enters (R105, R186). -/
def State.hallAfterRestart (s : State) : HallState :=
  if s.pins.emergency then .emergency
  else if s.definedTx.isEmpty || decide (s.clk.state = .unset) then .halted
  else .surveying

/-- The hall takes its state, and where it is SURVEYING the survey begins (R186). -/
def State.enterHall (s : State) : State :=
  let t := s.toHall s.hallAfterRestart .restart
  if s.hallAfterRestart = .surveying then t.beginSurvey else t

/-- RESTART re-initialises the run-time state (R186). -/
def State.restarted (s : State) : State :=
  let t := (s.restartValues).each s.definedTx fun n u => u.startChan (.tx n .silence) 3000
  ((t.resweep).each allZones State.postIfOpen).enterHall

/-- RESTART (R186). -/
def State.reqRestart (s : State) : Answer := s.restarted.ok .empty

end Sys2Proof.Machine
end

