-- ==== Sys2Proof/Machine/Flags.lean ====
section
/-! DEFINITION. The status header of a reply with its flags (R189), the kind codes of requests and notices (section 11.5) and
the port authority of each request (R190). -/

namespace Sys2Proof.Machine
open Sys2Proof

/-! ## The status header (R189) -/

/-- Some context is FAULTED with cause ADOPTION: the lockout flag (R189). -/
def State.lockout (s : State) : Bool :=
  allTx.any fun n => decide ((s.ctx n).state = .faulted) && decide ((s.ctx n).cause = some .adoption)

/-- The status header of a reply on a port, as the reply is composed (R189). -/
def State.header (s : State) (port : Port) : Header189 where
  day := s.clk.day
  sec := s.clk.sec
  clk := s.clk.state
  hall := s.txs.hall
  notices := (s.port port).queue.length
  emergency := s.pins.emergency
  lockout := s.lockout
  pending := s.clk.pend.isSome

/-! ## Kind codes (section 11.5) -/

/-- The kind code of a request. -/
def kindOf : Request → Byte
  | .defineTx .. => 0x01
  | .defineTxRemove .. => 0x01
  | .defineAnt .. => 0x02
  | .defineAntRemove .. => 0x02
  | .defineHall .. => 0x03
  | .readTxDef .. => 0x04
  | .readAntDef .. => 0x05
  | .setTime .. => 0x08
  | .readTime => 0x09
  | .latch .. => 0x0A
  | .readSnapshot .. => 0x0B
  | .openStaging => 0x10
  | .putEntry .. => 0x11
  | .dropEntry .. => 0x12
  | .readEntry .. => 0x13
  | .sealStaging .. => 0x14
  | .abortStaging => 0x15
  | .discardStaging => 0x16
  | .armChangeover .. => 0x17
  | .disarmChangeover => 0x18
  | .fireChangeover => 0x19
  | .readBanks => 0x1A
  | .readConflicts => 0x1B
  | .setSource .. => 0x20
  | .book .. => 0x21
  | .cancelBooking .. => 0x22
  | .readBookings => 0x23
  | .readOccurrence .. => 0x24
  | .setHoldPoint .. => 0x28
  | .releaseHold .. => 0x29
  | .readPlan .. => 0x2A
  | .trim .. => 0x30
  | .readTrim .. => 0x31
  | .clearFault .. => 0x32
  | .readTx .. => 0x33
  | .startHall => 0x34
  | .haltHall .. => 0x35
  | .setAntServiceOut .. => 0x38
  | .setAntServiceIn .. => 0x38
  | .clearSuspect .. => 0x39
  | .readAnt .. => 0x3A
  | .readMatrix => 0x3B
  | .linkTest .. => 0x3E
  | .restart => 0x3F
  | .unknownKind c => c
  | .malformed c _ => c

/-- The kind codes that name a request (section 11.5). -/
def requestCodes : List Byte :=
  [0x01, 0x02, 0x03, 0x04, 0x05, 0x08, 0x09, 0x0A, 0x0B, 0x10, 0x11, 0x12, 0x13, 0x14, 0x15, 0x16, 0x17, 0x18, 0x19, 0x1A,
    0x1B, 0x20, 0x21, 0x22, 0x23, 0x24, 0x28, 0x29, 0x2A, 0x30, 0x31, 0x32, 0x33, 0x34, 0x35, 0x38, 0x39, 0x3A, 0x3B, 0x3E,
    0x3F]

/-- The kind code of a notice (section 11.5). -/
def noticeCode : Notice → Byte
  | .entryStarted .. => 0x40
  | .entryEnded .. => 0x41
  | .gapExtended .. => 0x42
  | .entryMissed .. => 0x43
  | .entryPreempted .. => 0x44
  | .bookingEnded .. => 0x45
  | .holdReached .. => 0x46
  | .planAbandoned .. => 0x47
  | .claimReserved .. => 0x48
  | .claimGranted .. => 0x49
  | .claimDropped .. => 0x4A
  | .vswrWarn .. => 0x4B
  | .fold .. => 0x4C
  | .trip .. => 0x4D
  | .recycle .. => 0x4E
  | .txFault .. => 0x4F
  | .lineLost .. => 0x50
  | .lineRestored .. => 0x51
  | .localTaken .. => 0x52
  | .localReleased .. => 0x53
  | .antennaSuspect .. => 0x54
  | .zoneOpen .. => 0x55
  | .zoneClosed .. => 0x56
  | .actuatorFault .. => 0x57
  | .changeoverDone .. => 0x58
  | .changeoverMissed .. => 0x59
  | .sealResult .. => 0x5A
  | .seasonExpired .. => 0x5B
  | .clockState .. => 0x5C
  | .surveyDone .. => 0x5D
  | .adoptionLockout .. => 0x5E
  | .hallState .. => 0x5F

/-- The kind code of a queue entry; the marker is NOTICE-OVERFLOW (section 11.5). -/
def QEntry.code : QEntry → Byte
  | .notice _ _ nt => noticeCode nt
  | .overflow .. => 0x7F

/-! ## Port authority (R190) -/

/-- The requests the P-port may always send (R190): reads, LINK-TEST, CLEAR-FAULT, SET-ANT-SERVICE, HALT-HALL and TRIM. -/
def panelAlways : List Byte :=
  [0x04, 0x05, 0x09, 0x13, 0x1A, 0x1B, 0x23, 0x24, 0x2A, 0x31, 0x33, 0x3A, 0x3B, 0x3E, 0x32, 0x38, 0x35, 0x30]

/-- The port may send a request of this kind code (R190). -/
def State.permitted (s : State) (port : Port) (code : Byte) : Bool :=
  match port with
  | .a => true
  | .p => panelAlways.contains code || (decide (code = 0x29) && s.hds.hall.panelRelease) ||
      ((decide (code = 0x0A) || decide (code = 0x0B)) && s.hds.hall.panelTelemetry)

end Sys2Proof.Machine
end

