-- ==== Sys2Proof/Machine/Frames.lean ====
section
/-! DEFINITION. Frames on a port (sections 11.1, 11.5 and 11.6): the CRC, the link-test sequence, the byte layout of each
request body, and the reading of a received body into its request.  Where section 11.6 leaves a layout open, log 27 says
which is taken. -/

namespace Sys2Proof.Machine
open Sys2Proof

/-! ## CRC (section 11.1) -/

/-- One bit of the CRC register's advance under the polynomial x^16 + x^12 + x^5 + 1. -/
def crcShift (c : BitVec 16) : BitVec 16 := if c.msb then (c <<< 1) ^^^ 0x1021#16 else c <<< 1

/-- The CRC register after k bits. -/
def crcShifts : Nat → BitVec 16 → BitVec 16
  | 0, c => c
  | k + 1, c => crcShifts k (crcShift c)

/-- The CRC register after one byte, most significant bit first. -/
def crcByte (c : BitVec 16) (b : Byte) : BitVec 16 := crcShifts 8 (c ^^^ (b.zeroExtend 16 <<< 8))

/-- The CRC of a run of bytes, from 0xFFFF. -/
def crcOf (l : List Byte) : BitVec 16 := l.foldl crcByte 0xFFFF#16

/-! ## The link-test sequence (R193) -/

/-- One step of the seven-stage register; bit 0 is stage 1 and bit 6 stage 7. -/
def linkShift (r : BitVec 7) : BitVec 7 := (r <<< 1) ||| (BitVec.ofBool (r.msb ^^ r.getLsbD 5)).zeroExtend 7

/-- Eight output bits, the first the most significant, with the register after them. -/
def linkByte : Nat → Nat → BitVec 7 → Nat × BitVec 7
  | 0, acc, r => (acc, r)
  | k + 1, acc, r => linkByte k (2 * acc + r.msb.toNat) (linkShift r)

/-- N bytes of the sequence. -/
def linkBytes : Nat → BitVec 7 → List Nat
  | 0, _ => []
  | k + 1, r => let b := linkByte 8 0 r; b.1 :: linkBytes k b.2

/-! ## Fields of a body (section 11.6) -/

/-- The forms a field takes in a body: a number of k bytes, a byte with k defined flag bits, presence bits for k optional
fields, a choice among k values, a list of at most `most` items, four characters, a choice whose value 0 is followed
by a station second, and a choice or a list that a presence bit makes present. -/
inductive Field where
  | number (bytes : Nat) | flags (k : Nat) | presence (k : Nat) | choice (k : Nat) | list (most bytes : Nat) | chars
  | timed (k : Nat) | optChoice (bit k : Nat) | optList (bit most bytes : Nat)
deriving DecidableEq, Repr

/-- A field as read. -/
inductive Raw where
  | number (v : Nat) | list (l : List Nat) | timed (choice : Nat) (time : Option (Nat × Nat))
deriving DecidableEq, Repr

/-- The outcome of reading one field: the bytes run out, the bytes do not fit, or the field and the bytes after it. -/
inductive ReadField where
  | short | bad | got (r : Raw) (rest : List Byte)
deriving DecidableEq, Repr

/-- A number of k bytes, most significant byte first. -/
def readNumber : Nat → Nat → List Byte → Option (Nat × List Byte)
  | 0, acc, l => some (acc, l)
  | _ + 1, _, [] => none
  | k + 1, acc, b :: l => readNumber k (acc * 256 + b.toNat) l

/-- c items of k bytes each. -/
def readItems : Nat → Nat → List Byte → Option (List Nat × List Byte)
  | 0, _, l => some ([], l)
  | c + 1, k, l => match readNumber k 0 l with
    | some (v, rest) => (readItems c k rest).map fun x => (v :: x.1, x.2)
    | none => none

/-- Presence bytes for k optional fields, the first byte holding bits 0 to 7. -/
def readPresence : Nat → Nat → List Byte → Option (Nat × List Byte)
  | 0, _, l => some (0, l)
  | _ + 1, _, [] => none
  | k + 1, w, b :: l => (readPresence k (w * 256) l).map fun x => (b.toNat * w + x.1, x.2)

/-- A one-byte field with a bound. -/
def readBounded (bound : Nat) (l : List Byte) : ReadField :=
  match l with
  | [] => .short
  | b :: rest => if b.toNat < bound then .got (.number b.toNat) rest else .bad

/-- A list of at most `most` items of k bytes each, after its count. -/
def readList (most k : Nat) (l : List Byte) : ReadField :=
  match l with
  | [] => .short
  | c :: rest => if most < c.toNat then .bad else match readItems c.toNat k rest with
    | some x => .got (.list x.1) x.2
    | none => .short

/-- Read one field (R188 check 3, section 11.6), under the presence bits read before it: the bytes of an absent field are ignored,
whatever they hold. -/
def readField (bits : Nat) (f : Field) (l : List Byte) : ReadField :=
  match f with
  | .number k => match readNumber k 0 l with
    | some x => .got (.number x.1) x.2
    | none => .short
  | .flags k => readBounded (2 ^ k) l
  | .choice k => readBounded k l
  | .presence k => match readPresence ((k + 7) / 8) 1 l with
    | some x => if x.1 < 2 ^ k then .got (.number x.1) x.2 else .bad
    | none => .short
  | .list most k => readList most k l
  | .optChoice i k => readBounded (if bits.testBit i then k else 256) l
  | .optList i most k => readList (if bits.testBit i then most else 255) k l
  | .chars => match readItems 4 1 l with
    | some x => .got (.list x.1) x.2
    | none => .short
  | .timed k => match l with
    | [] => .short
    | c :: rest =>
      if k ≤ c.toNat then .bad
      else if c.toNat = 0 then
        (match readNumber 2 0 rest with
          | some d => match readNumber 4 0 d.2 with
            | some t => .got (.timed 0 (some (d.1, t.1))) t.2
            | none => .short
          | none => .short)
      else .got (.timed c.toNat none) rest

/-- The position the next field has: presence bytes have none of their own. -/
def Field.next (f : Field) (pos : Nat) : Nat :=
  match f with
  | .presence _ => pos
  | _ => pos + 1

/-- The presence bits in force after a field. -/
def Field.bitsAfter (f : Field) (bits : Nat) (r : Raw) : Nat :=
  match f, r with
  | .presence _, .number v => v
  | _, _ => bits

/-- Read a body by its layout, under presence bits: its fields, or the position of the first that does not fit, 0 for a length fault
(R189). -/
def readFields : List Field → Nat → Nat → List Byte → Except Nat (List Raw)
  | [], _, _, [] => .ok []
  | [], _, _, _ :: _ => .error 0
  | f :: fs, bits, pos, l => match readField bits f l with
    | .short => .error 0
    | .bad => .error pos
    | .got r rest => match readFields fs (f.bitsAfter bits r) (f.next pos) rest with
      | .ok rs => .ok (r :: rs)
      | .error e => .error e

/-! ## Layouts -/

/-- The layout of a request body by kind code (section 11.6; log 27). -/
def layoutOf : Nat → List Field
  | 0x01 => [.number 1, .number 2, .number 2, .number 2, .list 6 2, .presence 17, .number 2, .number 2, .number 2, .number 2,
      .number 2, .number 2, .number 2, .number 1, .number 1, .number 1, .number 1, .number 2, .number 2, .number 2, .number 2,
      .number 2]
  | 0x02 => [.number 1, .number 2, .number 2, .number 2, .number 1, .list 16 1, .presence 9, .number 1, .number 2, .number 2,
      .number 2, .number 1, .number 2, .number 2, .number 2]
  | 0x03 => [.presence 8, .number 2, .number 2, .optChoice 2 2, .optChoice 3 2, .optList 4 16 1, .optList 5 16 1,
      .optList 6 16 1, .optList 7 16 1]
  | 0x08 => [.number 2, .number 4, .presence 1, .number 1]
  | 0x0A => [.list 16 1]
  | 0x11 => [.number 2, .number 1, .number 2, .number 1, .number 1, .number 2, .number 2, .number 2, .flags 7, .number 1,
      .presence 3, .number 2, .number 2, .number 2]
  | 0x12 => [.number 2]
  | 0x13 => [.choice 2, .number 2, .choice 2]
  | 0x14 => [.number 2, .chars, .number 2, .number 2, .number 2]
  | 0x17 => [.timed 4]
  | 0x20 => [.number 1, .choice 2]
  | 0x21 => [.number 1, .number 2, .number 1, .number 1, .number 2, .timed 2, .presence 2, .number 4, .number 1, .choice 2,
      .number 2]
  | 0x28 => [.number 1, .choice 3]
  | 0x30 => [.choice 2, .number 1, .number 2]
  | 0x31 => [.choice 2, .number 1]
  | 0x35 => [.presence 1]
  | 0x38 => [.number 1, .choice 2]
  | 0x3E => [.number 2]
  | 0x04 => [.number 1]
  | 0x05 => [.number 1]
  | 0x0B => [.number 1]
  | 0x22 => [.number 1]
  | 0x24 => [.number 1]
  | 0x29 => [.number 1]
  | 0x2A => [.number 1]
  | 0x32 => [.number 1]
  | 0x33 => [.number 1]
  | 0x39 => [.number 1]
  | 0x3A => [.number 1]
  | _ => []

/-- An optional field by its presence bit. -/
def opt {α : Type} (bits i : Nat) (v : α) : Option α := if bits.testBit i then some v else none

/-- DEFINE-TX; REMOVE is its last presence bit. -/
def asDefineTx : List Raw → Option Request
  | [.number k, .number r, .number lo, .number hi, .list taps, .number p, .number a0, .number a1, .number a2, .number a3,
      .number a4, .number a5, .number a6, .number a7, .number a8, .number a9, .number b0, .number b1, .number b2, .number b3,
      .number b4, .number b5] =>
    if p.testBit 16 then some (.defineTxRemove k)
    else some (.defineTx k ⟨some r, some lo, some hi, some taps, opt p 0 a0, opt p 1 a1, opt p 2 a2, opt p 3 a3, opt p 4 a4,
      opt p 5 a5, opt p 6 a6, opt p 7 a7, opt p 8 a8, opt p 9 a9, opt p 10 b0, opt p 11 b1, opt p 12 b2, opt p 13 b3,
      opt p 14 b4, opt p 15 b5⟩)
  | _ => none

/-- DEFINE-ANT; REMOVE is its last presence bit. -/
def asDefineAnt : List Raw → Option Request
  | [.number k, .number r, .number lo, .number hi, .number z, .list reach, .number p, .number a0, .number a1, .number a2,
      .number a3, .number a4, .number a5, .number a6, .number a7] =>
    if p.testBit 8 then some (.defineAntRemove k)
    else some (.defineAnt k ⟨some r, some lo, some hi, some z, some reach, opt p 0 a0, opt p 1 a1, opt p 2 a2, opt p 3 a3,
      opt p 4 a4, opt p 5 a5, opt p 6 a6, opt p 7 a7⟩)
  | _ => none

/-- DEFINE-HALL. -/
def asDefineHall : List Raw → Option Request
  | [.number p, .number a, .number b, .number c, .number d, .list g1, .list g2, .list g3, .list g4] =>
    some (.defineHall ⟨opt p 0 a, opt p 1 b, opt p 2 (decide (c = 1)), opt p 3 (decide (d = 1)), opt p 4 g1, opt p 5 g2,
      opt p 6 g3, opt p 7 g4⟩)
  | _ => none

/-- PUT-ENTRY (the entry record of section 11.6). -/
def asPutEntry : List Raw → Option Request
  | [.number a, .number b, .number c, .number d, .number e, .number f, .number g, .number h, .number i, .number j, .number p,
      .number x, .number y, .number z] =>
    some (.putEntry ⟨some a, some b, some c, some d, some e, some f, some g, some h, some i, some j, opt p 0 x, opt p 1 y,
      opt p 2 z⟩)
  | _ => none

/-- BOOK. -/
def asBook : List Raw → Option Request
  | [.number a, .number b, .number c, .number d, .number e, .timed _ t, .number p, .number dur, .number prio, .number w,
      .number tag] =>
    let start : StartReq := match t with
      | some x => .on x.1 x.2
      | none => .now
    some (.book ⟨some a, some b, some c, some d, some e, some start, opt p 0 dur, some prio, some (decide (w = 0)),
      opt p 1 tag⟩)
  | _ => none

/-- ARM-CHANGEOVER. -/
def asArm : List Raw → Option Request
  | [.timed _ (some t)] => some (.armChangeover (.atTime t.1 t.2))
  | [.timed k none] => some (.armChangeover (if k = 1 then .command else if k = 2 then .syncLine else .onSeal))
  | _ => none

/-- What TRIM and READ-TRIM name. -/
def asTarget (k n : Nat) : TrimTarget := if k = 0 then .tx n else .group n

/-- A request that carries one number. -/
def asNumber (f : Nat → Request) : List Raw → Option Request
  | [.number k] => some (f k)
  | _ => none

/-- A request that carries two numbers. -/
def asPair (f : Nat → Nat → Request) : List Raw → Option Request
  | [.number j, .number k] => some (f j k)
  | _ => none

/-- A request that carries three numbers. -/
def asTriple (f : Nat → Nat → Nat → Request) : List Raw → Option Request
  | [.number i, .number j, .number k] => some (f i j k)
  | _ => none

/-- SET-TIME. -/
def asSetTime : List Raw → Option Request
  | [.number d, .number t, .number p, .number o] => some (.setTime d t (opt p 0 o))
  | _ => none

/-- LATCH; a list with no items is ALL (log 27). -/
def asLatch : List Raw → Option Request
  | [.list []] => some (.latch none)
  | [.list l] => some (.latch (some l))
  | _ => none

/-- SEAL-STAGING. -/
def asSeal : List Raw → Option Request
  | [.number a, .list l, .number b, .number c, .number d] => some (.sealStaging ⟨a, l, b, c, d⟩)
  | _ => none

/-- A hold point by its choice. -/
def asHold (k : Nat) : HoldPoint := if k = 0 then .none else if k = 1 then .afterTune else .beforeRf

/-- The request of a kind code whose body has been read. -/
def requestOf (code : Nat) (l : List Raw) : Option Request :=
  match code with
  | 0x01 => asDefineTx l
  | 0x02 => asDefineAnt l
  | 0x03 => asDefineHall l
  | 0x04 => asNumber .readTxDef l
  | 0x05 => asNumber .readAntDef l
  | 0x08 => asSetTime l
  | 0x09 => some .readTime
  | 0x0A => asLatch l
  | 0x0B => asNumber .readSnapshot l
  | 0x10 => some .openStaging
  | 0x11 => asPutEntry l
  | 0x12 => asNumber .dropEntry l
  | 0x13 => asTriple (fun b k m => .readEntry (if b = 0 then .active else .staged) k (if m = 0 then .exact else .next)) l
  | 0x14 => asSeal l
  | 0x15 => some .abortStaging
  | 0x16 => some .discardStaging
  | 0x17 => asArm l
  | 0x18 => some .disarmChangeover
  | 0x19 => some .fireChangeover
  | 0x1A => some .readBanks
  | 0x1B => some .readConflicts
  | 0x20 => asPair (fun n k => .setSource n (if k = 0 then .auto else .manual)) l
  | 0x21 => asBook l
  | 0x22 => asNumber .cancelBooking l
  | 0x23 => some .readBookings
  | 0x24 => asNumber .readOccurrence l
  | 0x28 => asPair (fun n k => .setHoldPoint (if n = 0 then none else some n) (asHold k)) l
  | 0x29 => asNumber .releaseHold l
  | 0x2A => asNumber .readPlan l
  | 0x30 => asTriple (fun k n v => .trim (asTarget k n) v) l
  | 0x31 => asPair (fun k n => .readTrim (asTarget k n)) l
  | 0x32 => asNumber .clearFault l
  | 0x33 => asNumber .readTx l
  | 0x34 => some .startHall
  | 0x35 => asNumber (fun p => .haltHall (decide (p = 1))) l
  | 0x38 => asPair (fun n k => if k = 0 then .setAntServiceOut n else .setAntServiceIn n) l
  | 0x39 => asNumber .clearSuspect l
  | 0x3A => asNumber .readAnt l
  | 0x3B => some .readMatrix
  | 0x3E => asNumber .linkTest l
  | 0x3F => some .restart
  | _ => none

/-- A received frame's kind code and body as a request (R188): an unknown kind, a body that does not fit, or the request. -/
def readRequest (code : Byte) (body : List Byte) : Request :=
  if requestCodes.contains code then
    match readFields (layoutOf code.toNat) 0 1 body with
    | .ok l => (requestOf code.toNat l).getD (.malformed code 0)
    | .error k => .malformed code k
  else .unknownKind code

/-! ## Bytes sent (sections 11.1 and 11.6) -/

/-- A number in k bytes, most significant byte first. -/
def numberBytes : Nat → Nat → List Byte
  | 0, _ => []
  | k + 1, v => BitVec.ofNat 8 (v / 256 ^ k) :: numberBytes k v

/-- A frame: start byte, length, tag, kind code, body, CRC. -/
def frameBytes (tag kind : Byte) (body : List Byte) : List Byte :=
  let inner := numberBytes 2 body.length ++ [tag, kind] ++ body
  0x5A#8 :: inner ++ numberBytes 2 (crcOf inner).toNat

/-- The clock state's number in the status header. -/
def clkCode : ClkState → Nat
  | .unset => 0
  | .free => 1
  | .locked => 2
  | .holdover => 3

/-- The hall state's number in the status header. -/
def hallCode : HallState → Nat
  | .halted => 0
  | .surveying => 1
  | .running => 2
  | .halting => 3
  | .emergency => 4

/-- The reason code of a refusal (R189). -/
def reasonCode : Reason → Nat
  | .malformed => 1
  | .unknownKind => 2
  | .notPermitted => 3
  | .state => 4
  | .range => 5
  | .noSuch => 6
  | .full => 7
  | .conflict => 8
  | .busy => 9

/-- The status header's first ten bytes (section 11.6). -/
def headerBytes (h : Header189) : List Byte :=
  numberBytes 2 h.day ++ numberBytes 4 h.sec ++
    [BitVec.ofNat 8 (clkCode h.clk), BitVec.ofNat 8 (hallCode h.hall), BitVec.ofNat 8 h.notices,
      BitVec.ofNat 8 (h.emergency.toNat + 2 * h.lockout.toNat + 4 * h.pending.toNat)]

/-- The frame of a REFUSED reply, whole (R189, section 11.6). -/
def refusalFrame (tag kind : Byte) (h : Header189) (r : Reason) (detail : Nat) : List Byte :=
  frameBytes tag kind (headerBytes h ++ [0x01#8, BitVec.ofNat 8 (reasonCode r)] ++ numberBytes 2 detail)

/-- The frame of a notice, or of the overflow marker, with the bytes of its fields (R191): tag 0, its kind code, and a body that
begins with the station time at which it was posted. -/
def noticeFrame (q : QEntry) (fields : List Byte) : List Byte :=
  frameBytes 0 q.code (match q with
    | .notice day sec _ => numberBytes 2 day ++ numberBytes 4 sec ++ fields
    | .overflow day sec _ => numberBytes 2 day ++ numberBytes 4 sec ++ fields)

/-- The frame of the overflow marker, whole: its one field is its count (R191, R192). -/
def overflowFrame (day sec count : Nat) : List Byte := noticeFrame (.overflow day sec count) (numberBytes 2 count)

/-- The 22 bytes of an entry record (section 11.6), as READ-ENTRY returns it. -/
def entryBytes (e : Entry) : List Byte :=
  numberBytes 2 e.id ++ numberBytes 1 (num e.tx) ++ numberBytes 2 e.freq ++
    numberBytes 1 (match e.path with
      | some a => num a
      | none => 0) ++ numberBytes 1 e.beam ++ numberBytes 2 e.power ++ numberBytes 2 e.start ++ numberBytes 2 e.duration ++
    numberBytes 1 e.days ++ numberBytes 1 e.priority ++
    numberBytes 1 (e.firstDay.isSome.toNat + 2 * e.lastDay.isSome.toNat + 4 * e.tag.isSome.toNat) ++
    numberBytes 2 (e.firstDay.getD 0) ++ numberBytes 2 (e.lastDay.getD 0) ++ numberBytes 2 (e.tag.getD 0)

end Sys2Proof.Machine
end

