-- ==== Sys2Proof/Machine/Link.lean ====
section
/-! DEFINITION. LNK (chapter 11): serving a request that is taken (R188, R190), its reply (R189), frames that wait or are lost
(R188), the receiver of each port (R187), and the transmitter (R191). -/

namespace Sys2Proof.Machine
open Sys2Proof

/-! ## Serving a request (R188) -/

/-- LINK-TEST (R193). -/
def State.reqLinkTest (port : Port) (count : Nat) (s : State) : Answer :=
  if within 1 256 count then
    s.ok (.linkTest (linkBytes count 0x7F#7) (s.port port).discards (s.port port).queue.length)
  else s.refused .range 1

/-- The owning block judges a request (R188). -/
def State.serveRequest (port : Port) (r : Request) (s : State) : Answer :=
  match r with
  | .defineTx k f => s.reqDefineTx k f
  | .defineTxRemove k => s.reqDefineTxRemove k
  | .defineAnt k f => s.reqDefineAnt k f
  | .defineAntRemove k => s.reqDefineAntRemove k
  | .defineHall f => s.reqDefineHall f
  | .readTxDef k => s.reqReadTxDef k
  | .readAntDef k => s.reqReadAntDef k
  | .setTime d t o => s.reqSetTime d t o
  | .readTime => s.reqReadTime
  | .latch w => s.reqLatch w
  | .readSnapshot k => s.reqReadSnapshot k
  | .openStaging => s.reqOpenStaging
  | .putEntry f => s.reqPutEntry f
  | .dropEntry k => s.reqDropEntry k
  | .readEntry b k m => s.reqReadEntry b k m
  | .sealStaging f => s.reqSealStaging f
  | .abortStaging => s.reqAbortStaging
  | .discardStaging => s.reqDiscardStaging
  | .armChangeover a => s.reqArm a
  | .disarmChangeover => s.reqDisarm
  | .fireChangeover => s.reqFire
  | .readBanks => s.reqReadBanks
  | .readConflicts => s.reqReadConflicts
  | .setSource k src => s.reqSetSource k src
  | .book f => s.reqBook f
  | .cancelBooking k => s.reqCancelBooking k
  | .readBookings => s.reqReadBookings
  | .readOccurrence k => s.reqReadOccurrence k
  | .setHoldPoint w hp => s.reqSetHoldPoint w hp
  | .releaseHold k => s.reqReleaseHold k
  | .readPlan k => s.reqReadPlan k
  | .trim t v => s.reqTrim t v
  | .readTrim t => s.reqReadTrim t
  | .clearFault k => s.reqClearFault k
  | .readTx k => s.reqReadTx k
  | .startHall => s.reqStartHall
  | .haltHall now => s.reqHaltHall now
  | .setAntServiceOut k => s.reqServiceOut k
  | .setAntServiceIn k => s.reqServiceIn k
  | .clearSuspect k => s.reqClearSuspect k
  | .readAnt k => s.reqReadAnt k
  | .readMatrix => s.reqReadMatrix
  | .linkTest k => s.reqLinkTest port k
  | .restart => s.reqRestart
  | .unknownKind c => s.refused .unknownKind c.toNat
  | .malformed _ k => s.refused .malformed k

/-- LNK judges a request that it takes: kind, authority, shape, then the owning block (R188). -/
def State.judgeRequest (port : Port) (r : Request) (s : State) : Answer :=
  match r with
  | .unknownKind c => s.refused .unknownKind c.toNat
  | _ => if s.permitted port (kindOf r) then s.serveRequest port r else s.refused .notPermitted 0

/-- The reply to a request, composed on the state its answer leaves (R189). DESIGN CHOICE (log 92): the sum with 0x80 is one byte, so
the reply to an unknown code of 0x80 or above wraps modulo 256. -/
def replyTo (port : Port) (f : InFrame) (a : Answer) : Reply := ⟨f.tag, kindOf f.req + 0x80, a.st.header port, a.res⟩

/-- A request is taken, and its reply waits in the reply slot (R188, R191). -/
def State.takeRequest (port : Port) (f : InFrame) (s : State) : State :=
  let a := s.judgeRequest port f.req
  a.st.updPort port fun q => { q with slot := some (replyTo port f a) }

/-! ## Frames that wait or are lost (R188) -/

/-- One more frame is discarded (R187). -/
def State.discardFrame (port : Port) (s : State) : State :=
  s.updPort port fun q => { q with discards := bumpTo 65535 q.discards }

/-- A frame completes on a port (R188): taken at once, or waiting while the reply before it has not begun transmission, or lost
to overrun while another waits. -/
def State.frameArrives (port : Port) (f : InFrame) (s : State) : State :=
  if (s.port port).waiting.isSome then s.discardFrame port
  else if (s.port port).slot.isSome then s.updPort port fun q => { q with waiting := some f }
  else s.takeRequest port f

/-- The waiting frame is taken once the reply before it has begun, and the receiver returns to HUNT (R188). -/
def State.takeWaiting (port : Port) (s : State) : State :=
  match (s.port port).slot, (s.port port).waiting with
  | none, some f =>
    ((s.updPort port fun q => { q with waiting := none, rx := .hunting, lost := .hunting }).stopChan (.gap port)).takeRequest
      port f
  | _, _ => s

/-! ## The receiver (R187) -/

/-- What a byte brings a receiver to: nothing yet, a start byte, a frame discarded, or a complete frame. -/
inductive RxOut where
  | quiet | started | discarded | complete (tag kind : Byte) (body : List Byte)
deriving DecidableEq, Repr

/-- The bytes a frame's CRC is taken over (section 11.1). -/
def Rx.covered (rx : Rx) : List Byte := numberBytes 2 rx.len ++ [rx.tag, rx.kind] ++ rx.bodyRev.reverse

/-- The second byte of the length field (R187). -/
def Rx.lengthKnown (rx : Rx) (len : Nat) : Rx × RxOut :=
  if 1024 < len then (.hunting, .discarded) else ({ rx with state := .tag, first := none, len := len }, .quiet)

/-- The second byte of the CRC (R187). -/
def Rx.checked (rx : Rx) (crc : BitVec 16) : Rx × RxOut :=
  (.hunting, if crc = crcOf rx.covered then .complete rx.tag rx.kind rx.bodyRev.reverse else .discarded)

/-- One byte on a receiver (table of R187). -/
def Rx.step (rx : Rx) (b : Byte) : Rx × RxOut :=
  match rx.state with
  | .hunt => if b = 0x5A then ({ Rx.hunting with state := .length }, .started) else (rx, .quiet)
  | .length => match rx.first with
    | none => ({ rx with first := some b }, .quiet)
    | some h => rx.lengthKnown (h.toNat * 256 + b.toNat)
  | .tag => ({ rx with state := .kind, tag := b }, .quiet)
  | .kind => ({ rx with state := if rx.len = 0 then .check else .body, kind := b }, .quiet)
  | .body => ({ rx with state := if rx.bodyRev.length + 1 = rx.len then .check else .body, bodyRev := b :: rx.bodyRev }, .quiet)
  | .check => match rx.first with
    | none => ({ rx with first := some b }, .quiet)
    | some h => rx.checked (h ++ b)

/-- The frame gap channel follows what a byte brings a receiver to, where it stood in a state (R187). -/
def State.gapAfter (port : Port) (was : RxState) (o : RxOut) (s : State) : State :=
  match o with
  | .started => s.startChan (.gap port) 20
  | .quiet => if was = .hunt then s else s.retrigger (.gap port)
  | .discarded => s.stopChan (.gap port)
  | .complete .. => s.stopChan (.gap port)

/-- A byte that arrives while a frame waits is not accepted; the frame it begins is counted as lost (R188; log 28). -/
def State.byteRefused (port : Port) (b : Byte) (s : State) : State :=
  let was := (s.port port).lost.state
  let r := (s.port port).lost.step b
  let t := (s.updPort port fun q => { q with lost := r.1 }).gapAfter port was r.2
  if r.2 = .started then t.discardFrame port else t

/-- A byte received on a port (R187). -/
def State.byteReceived (port : Port) (b : Byte) (s : State) : State :=
  if (s.port port).waiting.isSome then s.byteRefused port b
  else
    let was := (s.port port).rx.state
    let r := (s.port port).rx.step b
    let t := (s.updPort port fun q => { q with rx := r.1 }).gapAfter port was r.2
    match r.2 with
    | .started => t
    | .quiet => t
    | .discarded => t.discardFrame port
    | .complete tag kind body => t.frameArrives port ⟨tag, readRequest kind body⟩

/-- The frame gap channel has expired: the partial frame is discarded (R187); while a frame waits, the lost frame it timed has been
counted already and is over (log 28). -/
def State.gapExpired (port : Port) (s : State) : State :=
  if (s.port port).waiting.isSome then s.updPort port fun q => { q with lost := .hunting }
  else if (s.port port).rx.state = .hunt then s
  else (s.updPort port fun q => { q with rx := .hunting }).discardFrame port

/-! ## The transmitter (R191) -/

/-- The reply begins transmission. -/
def PortState.sendReply (r : Reply) (q : PortState) : PortState :=
  { q with slot := none, sending := some (.reply r), lastReply := true }

/-- The oldest notice begins transmission and leaves its queue; its frame has tag 0 and the notice's kind code. -/
def PortState.sendNotice (e : QEntry) (rest : List QEntry) (q : PortState) : PortState :=
  { q with queue := rest, sending := some (.notice 0 e.code e), lastReply := false }

/-- The transmitter is free and sends the next frame, by the cases of R191. -/
def PortState.transmit (q : PortState) : PortState :=
  match q.slot, q.queue with
  | some r, e :: rest => if q.lastReply then q.sendNotice e rest else q.sendReply r
  | some r, [] => q.sendReply r
  | none, e :: rest => q.sendNotice e rest
  | none, [] => { q with sending := none }

end Sys2Proof.Machine
end

