-- ==== Sys2Proof/Machine/Requests.lean ====
section
/-! DEFINITION. The meanings of the request commands: each is a complete frame that arrives on its port with its request
(R188), so its effect, its reply and a wait or a loss of the frame are one step. -/

namespace Sys2Proof.Machine
open Sys2Proof

/-- DEFINE-TX (R10). -/
def execDefineTx (port : Port) (tag : Byte) (number : Nat) (f : TxFields) (s : State) : Host.Outcome State Fault Refusal :=
  .next (s.frameArrives port ⟨tag, .defineTx number f⟩)

/-- DEFINE-TX with REMOVE (R10, R14). -/
def execDefineTxRemove (port : Port) (tag : Byte) (number : Nat) (s : State) : Host.Outcome State Fault Refusal :=
  .next (s.frameArrives port ⟨tag, .defineTxRemove number⟩)

/-- DEFINE-ANT (R11). -/
def execDefineAnt (port : Port) (tag : Byte) (number : Nat) (f : AntFields) (s : State) : Host.Outcome State Fault Refusal :=
  .next (s.frameArrives port ⟨tag, .defineAnt number f⟩)

/-- DEFINE-ANT with REMOVE (R11, R14). -/
def execDefineAntRemove (port : Port) (tag : Byte) (number : Nat) (s : State) : Host.Outcome State Fault Refusal :=
  .next (s.frameArrives port ⟨tag, .defineAntRemove number⟩)

/-- DEFINE-HALL (R12). -/
def execDefineHall (port : Port) (tag : Byte) (f : HallFields) (s : State) : Host.Outcome State Fault Refusal :=
  .next (s.frameArrives port ⟨tag, .defineHall f⟩)

/-- READ-TX-DEF (R17). -/
def execReadTxDef (port : Port) (tag : Byte) (number : Nat) (s : State) : Host.Outcome State Fault Refusal :=
  .next (s.frameArrives port ⟨tag, .readTxDef number⟩)

/-- READ-ANT-DEF (R17). -/
def execReadAntDef (port : Port) (tag : Byte) (number : Nat) (s : State) : Host.Outcome State Fault Refusal :=
  .next (s.frameArrives port ⟨tag, .readAntDef number⟩)

/-- SET-TIME (R23). -/
def execSetTime (port : Port) (tag : Byte) (day sec : Nat) (offset : Option Nat) (s : State) : Host.Outcome State Fault Refusal :=
  .next (s.frameArrives port ⟨tag, .setTime day sec offset⟩)

/-- READ-TIME (R26). -/
def execReadTime (port : Port) (tag : Byte) (s : State) : Host.Outcome State Fault Refusal :=
  .next (s.frameArrives port ⟨tag, .readTime⟩)

/-- LATCH (R33). -/
def execLatch (port : Port) (tag : Byte) (which : Option (List Nat)) (s : State) : Host.Outcome State Fault Refusal :=
  .next (s.frameArrives port ⟨tag, .latch which⟩)

/-- READ-SNAPSHOT (R35). -/
def execReadSnapshot (port : Port) (tag : Byte) (number : Nat) (s : State) : Host.Outcome State Fault Refusal :=
  .next (s.frameArrives port ⟨tag, .readSnapshot number⟩)

/-- OPEN-STAGING (R40). -/
def execOpenStaging (port : Port) (tag : Byte) (s : State) : Host.Outcome State Fault Refusal :=
  .next (s.frameArrives port ⟨tag, .openStaging⟩)

/-- PUT-ENTRY (R41). -/
def execPutEntry (port : Port) (tag : Byte) (f : EntryFields) (s : State) : Host.Outcome State Fault Refusal :=
  .next (s.frameArrives port ⟨tag, .putEntry f⟩)

/-- DROP-ENTRY (R42). -/
def execDropEntry (port : Port) (tag : Byte) (id : Nat) (s : State) : Host.Outcome State Fault Refusal :=
  .next (s.frameArrives port ⟨tag, .dropEntry id⟩)

/-- READ-ENTRY (R46). -/
def execReadEntry (port : Port) (tag : Byte) (bank : BankSel) (id : Nat) (mode : ReadMode) (s : State) : Host.Outcome State Fault Refusal :=
  .next (s.frameArrives port ⟨tag, .readEntry bank id mode⟩)

/-- SEAL-STAGING (R43). -/
def execSealStaging (port : Port) (tag : Byte) (f : SealFields) (s : State) : Host.Outcome State Fault Refusal :=
  .next (s.frameArrives port ⟨tag, .sealStaging f⟩)

/-- ABORT-STAGING (R44). -/
def execAbortStaging (port : Port) (tag : Byte) (s : State) : Host.Outcome State Fault Refusal :=
  .next (s.frameArrives port ⟨tag, .abortStaging⟩)

/-- DISCARD-STAGING (R45). -/
def execDiscardStaging (port : Port) (tag : Byte) (s : State) : Host.Outcome State Fault Refusal :=
  .next (s.frameArrives port ⟨tag, .discardStaging⟩)

/-- ARM-CHANGEOVER (R53). -/
def execArmChangeover (port : Port) (tag : Byte) (src : ArmReq) (s : State) : Host.Outcome State Fault Refusal :=
  .next (s.frameArrives port ⟨tag, .armChangeover src⟩)

/-- DISARM-CHANGEOVER (R54). -/
def execDisarmChangeover (port : Port) (tag : Byte) (s : State) : Host.Outcome State Fault Refusal :=
  .next (s.frameArrives port ⟨tag, .disarmChangeover⟩)

/-- FIRE-CHANGEOVER (R54). -/
def execFireChangeover (port : Port) (tag : Byte) (s : State) : Host.Outcome State Fault Refusal :=
  .next (s.frameArrives port ⟨tag, .fireChangeover⟩)

/-- READ-BANKS (R58). -/
def execReadBanks (port : Port) (tag : Byte) (s : State) : Host.Outcome State Fault Refusal :=
  .next (s.frameArrives port ⟨tag, .readBanks⟩)

/-- READ-CONFLICTS (R51). -/
def execReadConflicts (port : Port) (tag : Byte) (s : State) : Host.Outcome State Fault Refusal :=
  .next (s.frameArrives port ⟨tag, .readConflicts⟩)

/-- SET-SOURCE (R77). -/
def execSetSource (port : Port) (tag : Byte) (number : Nat) (src : Stored) (s : State) : Host.Outcome State Fault Refusal :=
  .next (s.frameArrives port ⟨tag, .setSource number src⟩)

/-- BOOK (R73). -/
def execBook (port : Port) (tag : Byte) (f : BookFields) (s : State) : Host.Outcome State Fault Refusal :=
  .next (s.frameArrives port ⟨tag, .book f⟩)

/-- CANCEL-BOOKING (R75). -/
def execCancelBooking (port : Port) (tag : Byte) (id : Nat) (s : State) : Host.Outcome State Fault Refusal :=
  .next (s.frameArrives port ⟨tag, .cancelBooking id⟩)

/-- READ-BOOKINGS (R78). -/
def execReadBookings (port : Port) (tag : Byte) (s : State) : Host.Outcome State Fault Refusal :=
  .next (s.frameArrives port ⟨tag, .readBookings⟩)

/-- READ-OCCURRENCE (R78). -/
def execReadOccurrence (port : Port) (tag : Byte) (number : Nat) (s : State) : Host.Outcome State Fault Refusal :=
  .next (s.frameArrives port ⟨tag, .readOccurrence number⟩)

/-- SET-HOLD-POINT (R117). -/
def execSetHoldPoint (port : Port) (tag : Byte) (which : Option Nat) (hp : HoldPoint) (s : State) : Host.Outcome State Fault Refusal :=
  .next (s.frameArrives port ⟨tag, .setHoldPoint which hp⟩)

/-- RELEASE-HOLD (R119). -/
def execReleaseHold (port : Port) (tag : Byte) (number : Nat) (s : State) : Host.Outcome State Fault Refusal :=
  .next (s.frameArrives port ⟨tag, .releaseHold number⟩)

/-- READ-PLAN (R125). -/
def execReadPlan (port : Port) (tag : Byte) (number : Nat) (s : State) : Host.Outcome State Fault Refusal :=
  .next (s.frameArrives port ⟨tag, .readPlan number⟩)

/-- TRIM (R99). -/
def execTrim (port : Port) (tag : Byte) (target : TrimTarget) (value : Nat) (s : State) : Host.Outcome State Fault Refusal :=
  .next (s.frameArrives port ⟨tag, .trim target value⟩)

/-- READ-TRIM (R99). -/
def execReadTrim (port : Port) (tag : Byte) (target : TrimTarget) (s : State) : Host.Outcome State Fault Refusal :=
  .next (s.frameArrives port ⟨tag, .readTrim target⟩)

/-- CLEAR-FAULT (R98). -/
def execClearFault (port : Port) (tag : Byte) (number : Nat) (s : State) : Host.Outcome State Fault Refusal :=
  .next (s.frameArrives port ⟨tag, .clearFault number⟩)

/-- READ-TX (R100). -/
def execReadTx (port : Port) (tag : Byte) (number : Nat) (s : State) : Host.Outcome State Fault Refusal :=
  .next (s.frameArrives port ⟨tag, .readTx number⟩)

/-- START-HALL (R101). -/
def execStartHall (port : Port) (tag : Byte) (s : State) : Host.Outcome State Fault Refusal :=
  .next (s.frameArrives port ⟨tag, .startHall⟩)

/-- HALT-HALL (R102). -/
def execHaltHall (port : Port) (tag : Byte) (now : Bool) (s : State) : Host.Outcome State Fault Refusal :=
  .next (s.frameArrives port ⟨tag, .haltHall now⟩)

/-- SET-ANT-SERVICE with OUT (R140). -/
def execSetAntServiceOut (port : Port) (tag : Byte) (number : Nat) (s : State) : Host.Outcome State Fault Refusal :=
  .next (s.frameArrives port ⟨tag, .setAntServiceOut number⟩)

/-- SET-ANT-SERVICE with IN (R141). -/
def execSetAntServiceIn (port : Port) (tag : Byte) (number : Nat) (s : State) : Host.Outcome State Fault Refusal :=
  .next (s.frameArrives port ⟨tag, .setAntServiceIn number⟩)

/-- CLEAR-SUSPECT (R144). -/
def execClearSuspect (port : Port) (tag : Byte) (number : Nat) (s : State) : Host.Outcome State Fault Refusal :=
  .next (s.frameArrives port ⟨tag, .clearSuspect number⟩)

/-- READ-ANT (R145). -/
def execReadAnt (port : Port) (tag : Byte) (number : Nat) (s : State) : Host.Outcome State Fault Refusal :=
  .next (s.frameArrives port ⟨tag, .readAnt number⟩)

/-- READ-MATRIX (R145). -/
def execReadMatrix (port : Port) (tag : Byte) (s : State) : Host.Outcome State Fault Refusal :=
  .next (s.frameArrives port ⟨tag, .readMatrix⟩)

/-- LINK-TEST (R193). -/
def execLinkTest (port : Port) (tag : Byte) (count : Nat) (s : State) : Host.Outcome State Fault Refusal :=
  .next (s.frameArrives port ⟨tag, .linkTest count⟩)

/-- RESTART (R186). -/
def execRestart (port : Port) (tag : Byte) (s : State) : Host.Outcome State Fault Refusal :=
  .next (s.frameArrives port ⟨tag, .restart⟩)

/-- A frame whose kind code names no request (R188). -/
def execUnknownKind (port : Port) (tag : Byte) (code : Byte) (s : State) : Host.Outcome State Fault Refusal :=
  .next (s.frameArrives port ⟨tag, .unknownKind code⟩)

end Sys2Proof.Machine
end

