-- ==== Sys2Proof/Machine/Events.lean ====
section
/-! DEFINITION. The meanings of the other commands: power-on, bytes and frames on the ports, the clock, the logic lines,
reports on the hall lines and on the switch bus, timer expiries, and the steps the blocks take themselves. -/

namespace Sys2Proof.Machine
open Sys2Proof

/-! ## Power-on and the ports -/

/-- Power-on (R18, R27, R36, R59, R80, R105): every power-on value, with the input levels as they stand; the count of free
values used goes on. -/
def State.poweredOn (s : State) : State :=
  let t := { State.reset with pending := s.pending, pins := s.pins, free := s.free }
  if s.pins.emergency then t.toHall .emergency .emergencyAsserted else t

/-- POWER_ON (R18, R105). -/
def execPowerOn (s : State) : Host.Outcome State Fault Refusal := .next s.poweredOn

/-- PORT_BYTE (R187). -/
def execPortByte (port : Port) (b : Byte) (s : State) : Host.Outcome State Fault Refusal := .next (s.byteReceived port b)

/-- The expiry of a channel with what its owner does, where one is delivered (R28). -/
def State.onExpiry (ch : ChanId) (f : State → State) (s : State) : State :=
  match s.expire ch with
  | some t => f t
  | none => s

/-- FRAME_GAP_EXPIRY (R187). -/
def execFrameGapExpiry (port : Port) (s : State) : Host.Outcome State Fault Refusal :=
  .next (s.onExpiry (.gap port) (State.gapExpired port))

/-- WAITING_FRAME_TAKEN (R188). -/
def execWaitingFrameTaken (port : Port) (s : State) : Host.Outcome State Fault Refusal := .next (s.takeWaiting port)

/-- FRAME_TRANSMIT (R191). -/
def execFrameTransmit (port : Port) (s : State) : Host.Outcome State Fault Refusal := .next (s.updPort port PortState.transmit)

/-! ## The clock and the sweep -/

/-- SECOND_PULSE (R21, R22). -/
def execSecondPulse (after : Nat) (s : State) : Host.Outcome State Fault Refusal := .next (s.pulse after)

/-- OSCILLATOR_SECOND (R19). -/
def execOscillatorSecond (s : State) : Host.Outcome State Fault Refusal := .next s.oscillatorSecond

/-- PULSE_WINDOW_CLOSE (R22). -/
def execPulseWindowClose (s : State) : Host.Outcome State Fault Refusal := .next s.windowCloses

/-- SWEEP_STEP (R47). -/
def execSweepStep (s : State) : Host.Outcome State Fault Refusal := .next s.sweepStep

/-- BANK_RECHECK (R16). -/
def execBankRecheck (s : State) : Host.Outcome State Fault Refusal := .next s.recheckBank

/-! ## The logic lines -/

/-- SYNC_RISING_EDGE (R32). -/
def execSyncRisingEdge (s : State) : Host.Outcome State Fault Refusal := .next s.syncRises

/-- SYNC_INPUT_OFF (R32). -/
def execSyncInputOff (s : State) : Host.Outcome State Fault Refusal := .next s.syncOff

/-- SYNC_QUALIFIER_EXPIRY (R32, R55). -/
def execSyncQualifierExpiry (s : State) : Host.Outcome State Fault Refusal := .next (s.onExpiry .sync State.syncEdge)

/-- EMERGENCY_ASSERTED (R104): TXS acts on a change of the level. -/
def execEmergencyAsserted (s : State) : Host.Outcome State Fault Refusal :=
  .next (if s.pins.emergency then s else s.emergency)

/-- EMERGENCY_RELEASED (R105). -/
def execEmergencyReleased (s : State) : Host.Outcome State Fault Refusal :=
  .next (if s.pins.emergency then s.emergencyEnds else s)

/-- The level of a zone gate line. -/
def State.setGate (z : ZoneId) (v : Bool) (s : State) : State := { s with pins := { s.pins with gate := s.pins.gate.set z v } }

/-- GATE_LINE_OFF (R138): it acts on a zone in use that is not OPEN yet. -/
def execGateLineOff (z : ZoneId) (s : State) : Host.Outcome State Fault Refusal :=
  .next (if s.amx.zone[z] = some false then (s.setGate z false).zoneOpens z else s.setGate z false)

/-- GATE_LINE_ON (R139): it acts on a zone in use that is OPEN. -/
def execGateLineOn (z : ZoneId) (s : State) : Host.Outcome State Fault Refusal :=
  .next (if s.amx.zone[z] = some true then (s.setGate z true).zoneCloses z else s.setGate z true)

/-! ## Reports on the hall lines -/

/-- ACCEPT (R83). -/
def execAccept (n : TxId) (s : State) : Host.Outcome State Fault Refusal := .next (s.report n false (State.accepted n))

/-- REJECT (R83); the reason it carries changes nothing. -/
def execReject (n : TxId) (_reason : Nat) (s : State) : Host.Outcome State Fault Refusal :=
  .next (s.report n false (State.rejected n))

/-- STATE (R81, R86, R96). -/
def execState (n : TxId) (r : StateReport) (s : State) : Host.Outcome State Fault Refusal :=
  .next (s.report n true (State.digest n r))

/-- METER (R162). -/
def execMeter (n : TxId) (forward reflected : Nat) (s : State) : Host.Outcome State Fault Refusal :=
  .next (s.report n false (State.known n (State.meter n forward reflected)))

/-- TUNED (R90). -/
def execTuned (n : TxId) (freq : Nat) (s : State) : Host.Outcome State Fault Refusal :=
  .next (s.report n false (State.known n (State.tuned n freq)))

/-- TUNE_FAIL (R90). -/
def execTuneFail (n : TxId) (cause : Nat) (s : State) : Host.Outcome State Fault Refusal :=
  .next (s.report n false (State.known n (State.tuneFailed n cause)))

/-- TRIP (R95). -/
def execTrip (n : TxId) (cause : UnitTrip) (s : State) : Host.Outcome State Fault Refusal :=
  .next (s.report n false (State.known n (State.tripReport n (unitTripCause cause))))

/-- FAULT (R94). -/
def execFault (n : TxId) (cause : UnitFault) (s : State) : Host.Outcome State Fault Refusal :=
  .next (s.report n false (State.known n (State.unitFault n (unitFaultCause cause))))

/-! ## Hall-line steps and timers -/

/-- DEFERRED_ORDER_SEND (R82). -/
def execDeferredOrderSend (n : TxId) (s : State) : Host.Outcome State Fault Refusal := .next (s.sendDeferred n)

/-- ORDER_ACCEPT_EXPIRY (R84). -/
def execOrderAcceptExpiry (n : TxId) (s : State) : Host.Outcome State Fault Refusal :=
  .next (s.onExpiry (.tx n .accept) (State.lineLost n true))

/-- LINE_SILENCE_EXPIRY (R84). -/
def execLineSilenceExpiry (n : TxId) (s : State) : Host.Outcome State Fault Refusal :=
  .next (s.onExpiry (.tx n .silence) (State.lineLost n false))

/-- WARM_UP_EXPIRY (R89). -/
def execWarmUpExpiry (n : TxId) (s : State) : Host.Outcome State Fault Refusal :=
  .next (s.onExpiry (.tx n .warmUp) (State.warmUpEnds n))

/-- TUNE_EXPIRY (R90). -/
def execTuneExpiry (n : TxId) (s : State) : Host.Outcome State Fault Refusal :=
  .next (s.onExpiry (.tx n .tune) (State.tuneEnds n))

/-- RAMP_EXPIRY (R91, R160). -/
def execRampExpiry (n : TxId) (s : State) : Host.Outcome State Fault Refusal :=
  .next (s.onExpiry (.tx n .ramp) (State.rampStepped n))

/-- RF_OFF_CONFIRMATION_EXPIRY (R92). -/
def execRfOffConfirmationExpiry (n : TxId) (s : State) : Host.Outcome State Fault Refusal :=
  .next (s.onExpiry (.tx n .rfOff) (State.rfOffUnconfirmed n))

/-- RECYCLE_EXPIRY (R171). -/
def execRecycleExpiry (n : TxId) (s : State) : Host.Outcome State Fault Refusal :=
  .next (s.onExpiry (.tx n .recycle) (State.recycleExpired n))

/-! ## Steps of CSQ and AMX -/

/-- PHASE_BEGIN (R108). -/
def execPhaseBegin (n : TxId) (ph : Phase) (s : State) : Host.Outcome State Fault Refusal := .next (s.phaseBegins n ph)

/-- RETARGET_EFFECT (R120). -/
def execRetargetEffect (n : TxId) (s : State) : Host.Outcome State Fault Refusal := .next (s.retargetEffect n)

/-- The first held move, in the order they were asked, that may be handed is handed to SWB (R137). -/
def State.handover (s : State) : State :=
  let t := s.askAgain
  match t.amx.held.find? t.mayHand with
  | some h => t.hand h
  | none => t

/-- MOVE_HANDOVER (R137). -/
def execMoveHandover (s : State) : Host.Outcome State Fault Refusal := .next s.handover

/-- ANTENNA_OFFER (R130). -/
def execAntennaOffer (a : AntId) (s : State) : Host.Outcome State Fault Refusal := .next (s.offer a)

/-! ## The switch bus -/

/-- BUS_ORDER_SEND (R150). -/
def execBusOrderSend (s : State) : Host.Outcome State Fault Refusal := .next s.serve

/-- A report from a defined actuator; any other is discarded (R147). -/
def State.fromBus (addr : Nat) (f : ActId → State → State) (s : State) : State :=
  match s.sender addr with
  | some act => f act s
  | none => s

/-- MOVING (R151, R152). -/
def execMoving (addr : Nat) (s : State) : Host.Outcome State Fault Refusal := .next (s.fromBus addr State.movingFrom)

/-- ARRIVED (R151, R152); a position that does not fit the sender is discarded (R147). -/
def execArrived (addr : Nat) (at_ : Place) (s : State) : Host.Outcome State Fault Refusal :=
  .next (s.fromBus addr fun act t => if t.fits act at_ then t.arrivedFrom act at_ else t)

/-- STUCK (R151, R152). -/
def execStuck (addr : Nat) (last : Place) (s : State) : Host.Outcome State Fault Refusal :=
  .next (s.fromBus addr fun act t => if t.fits act last then t.stuckFrom act last else t)

/-- POSITION (R151, R152, R154); `none` is TRAVELLING. -/
def execPosition (addr : Nat) (at_ : Option Place) (s : State) : Host.Outcome State Fault Refusal :=
  .next (s.fromBus addr fun act t => if at_.all (t.fits act) then t.positionFrom act at_ else t)

/-- BUS_ANSWER_EXPIRY (R149, R154). -/
def execBusAnswerExpiry (s : State) : Host.Outcome State Fault Refusal := .next (s.onExpiry .busAnswer State.answerExpired)

/-- TRAVEL_EXPIRY (R151). -/
def execTravelExpiry (act : ActId) (s : State) : Host.Outcome State Fault Refusal :=
  .next (s.onExpiry (.travel act) (State.travelExpired act))

/-- ALL_QUERY_SEND (R154). -/
def execAllQuerySend (s : State) : Host.Outcome State Fault Refusal := .next s.sendAllQuery

/-! ## The survey and the hall -/

/-- SURVEY_END (R177). -/
def execSurveyEnd (s : State) : Host.Outcome State Fault Refusal := .next s.surveyEnds

/-- HALL_ALL_OFF (R103). -/
def execHallAllOff (s : State) : Host.Outcome State Fault Refusal := .next s.haltedIfOff

end Sys2Proof.Machine
end

