-- ==== Sys2Proof/Machine/Dispatch.lean ====
section
/-! DEFINITION. One arm for each command, each one direct call of its meaning. -/

namespace Sys2Proof.Machine
open Sys2Proof

/-- The effect of a command on everything but the queue. -/
def exec (i : Instr) (s : State) : Host.Outcome State Fault Refusal :=
  match i with
  | .powerOn => Sys2Proof.Machine.execPowerOn s
  | .defineTx port tag number f => Sys2Proof.Machine.execDefineTx port tag number f s
  | .defineTxRemove port tag number => Sys2Proof.Machine.execDefineTxRemove port tag number s
  | .defineAnt port tag number f => Sys2Proof.Machine.execDefineAnt port tag number f s
  | .defineAntRemove port tag number => Sys2Proof.Machine.execDefineAntRemove port tag number s
  | .defineHall port tag f => Sys2Proof.Machine.execDefineHall port tag f s
  | .readTxDef port tag number => Sys2Proof.Machine.execReadTxDef port tag number s
  | .readAntDef port tag number => Sys2Proof.Machine.execReadAntDef port tag number s
  | .setTime port tag day sec offset => Sys2Proof.Machine.execSetTime port tag day sec offset s
  | .readTime port tag => Sys2Proof.Machine.execReadTime port tag s
  | .latch port tag which => Sys2Proof.Machine.execLatch port tag which s
  | .readSnapshot port tag number => Sys2Proof.Machine.execReadSnapshot port tag number s
  | .openStaging port tag => Sys2Proof.Machine.execOpenStaging port tag s
  | .putEntry port tag f => Sys2Proof.Machine.execPutEntry port tag f s
  | .dropEntry port tag id => Sys2Proof.Machine.execDropEntry port tag id s
  | .readEntry port tag bank id mode => Sys2Proof.Machine.execReadEntry port tag bank id mode s
  | .sealStaging port tag f => Sys2Proof.Machine.execSealStaging port tag f s
  | .abortStaging port tag => Sys2Proof.Machine.execAbortStaging port tag s
  | .discardStaging port tag => Sys2Proof.Machine.execDiscardStaging port tag s
  | .armChangeover port tag src => Sys2Proof.Machine.execArmChangeover port tag src s
  | .disarmChangeover port tag => Sys2Proof.Machine.execDisarmChangeover port tag s
  | .fireChangeover port tag => Sys2Proof.Machine.execFireChangeover port tag s
  | .readBanks port tag => Sys2Proof.Machine.execReadBanks port tag s
  | .readConflicts port tag => Sys2Proof.Machine.execReadConflicts port tag s
  | .setSource port tag number src => Sys2Proof.Machine.execSetSource port tag number src s
  | .book port tag f => Sys2Proof.Machine.execBook port tag f s
  | .cancelBooking port tag id => Sys2Proof.Machine.execCancelBooking port tag id s
  | .readBookings port tag => Sys2Proof.Machine.execReadBookings port tag s
  | .readOccurrence port tag number => Sys2Proof.Machine.execReadOccurrence port tag number s
  | .setHoldPoint port tag which hp => Sys2Proof.Machine.execSetHoldPoint port tag which hp s
  | .releaseHold port tag number => Sys2Proof.Machine.execReleaseHold port tag number s
  | .readPlan port tag number => Sys2Proof.Machine.execReadPlan port tag number s
  | .trim port tag target value => Sys2Proof.Machine.execTrim port tag target value s
  | .readTrim port tag target => Sys2Proof.Machine.execReadTrim port tag target s
  | .clearFault port tag number => Sys2Proof.Machine.execClearFault port tag number s
  | .readTx port tag number => Sys2Proof.Machine.execReadTx port tag number s
  | .startHall port tag => Sys2Proof.Machine.execStartHall port tag s
  | .haltHall port tag now => Sys2Proof.Machine.execHaltHall port tag now s
  | .setAntServiceOut port tag number => Sys2Proof.Machine.execSetAntServiceOut port tag number s
  | .setAntServiceIn port tag number => Sys2Proof.Machine.execSetAntServiceIn port tag number s
  | .clearSuspect port tag number => Sys2Proof.Machine.execClearSuspect port tag number s
  | .readAnt port tag number => Sys2Proof.Machine.execReadAnt port tag number s
  | .readMatrix port tag => Sys2Proof.Machine.execReadMatrix port tag s
  | .linkTest port tag count => Sys2Proof.Machine.execLinkTest port tag count s
  | .restart port tag => Sys2Proof.Machine.execRestart port tag s
  | .unknownKind port tag code => Sys2Proof.Machine.execUnknownKind port tag code s
  | .portByte port b => Sys2Proof.Machine.execPortByte port b s
  | .frameGapExpiry port => Sys2Proof.Machine.execFrameGapExpiry port s
  | .waitingFrameTaken port => Sys2Proof.Machine.execWaitingFrameTaken port s
  | .frameTransmit port => Sys2Proof.Machine.execFrameTransmit port s
  | .secondPulse after => Sys2Proof.Machine.execSecondPulse after s
  | .oscillatorSecond => Sys2Proof.Machine.execOscillatorSecond s
  | .pulseWindowClose => Sys2Proof.Machine.execPulseWindowClose s
  | .sweepStep => Sys2Proof.Machine.execSweepStep s
  | .bankRecheck => Sys2Proof.Machine.execBankRecheck s
  | .syncRisingEdge => Sys2Proof.Machine.execSyncRisingEdge s
  | .syncInputOff => Sys2Proof.Machine.execSyncInputOff s
  | .syncQualifierExpiry => Sys2Proof.Machine.execSyncQualifierExpiry s
  | .emergencyAsserted => Sys2Proof.Machine.execEmergencyAsserted s
  | .emergencyReleased => Sys2Proof.Machine.execEmergencyReleased s
  | .gateLineOff z => Sys2Proof.Machine.execGateLineOff z s
  | .gateLineOn z => Sys2Proof.Machine.execGateLineOn z s
  | .accept n => Sys2Proof.Machine.execAccept n s
  | .reject n reason => Sys2Proof.Machine.execReject n reason s
  | .state n r => Sys2Proof.Machine.execState n r s
  | .meter n forward reflected => Sys2Proof.Machine.execMeter n forward reflected s
  | .tuned n freq => Sys2Proof.Machine.execTuned n freq s
  | .tuneFail n cause => Sys2Proof.Machine.execTuneFail n cause s
  | .trip n cause => Sys2Proof.Machine.execTrip n cause s
  | .fault n cause => Sys2Proof.Machine.execFault n cause s
  | .deferredOrderSend n => Sys2Proof.Machine.execDeferredOrderSend n s
  | .orderAcceptExpiry n => Sys2Proof.Machine.execOrderAcceptExpiry n s
  | .lineSilenceExpiry n => Sys2Proof.Machine.execLineSilenceExpiry n s
  | .warmUpExpiry n => Sys2Proof.Machine.execWarmUpExpiry n s
  | .tuneExpiry n => Sys2Proof.Machine.execTuneExpiry n s
  | .rampExpiry n => Sys2Proof.Machine.execRampExpiry n s
  | .rfOffConfirmationExpiry n => Sys2Proof.Machine.execRfOffConfirmationExpiry n s
  | .recycleExpiry n => Sys2Proof.Machine.execRecycleExpiry n s
  | .phaseBegin n ph => Sys2Proof.Machine.execPhaseBegin n ph s
  | .retargetEffect n => Sys2Proof.Machine.execRetargetEffect n s
  | .moveHandover => Sys2Proof.Machine.execMoveHandover s
  | .antennaOffer a => Sys2Proof.Machine.execAntennaOffer a s
  | .busOrderSend => Sys2Proof.Machine.execBusOrderSend s
  | .moving addr => Sys2Proof.Machine.execMoving addr s
  | .arrived addr at_ => Sys2Proof.Machine.execArrived addr at_ s
  | .stuck addr last => Sys2Proof.Machine.execStuck addr last s
  | .position addr at_ => Sys2Proof.Machine.execPosition addr at_ s
  | .busAnswerExpiry => Sys2Proof.Machine.execBusAnswerExpiry s
  | .travelExpiry act => Sys2Proof.Machine.execTravelExpiry act s
  | .allQuerySend => Sys2Proof.Machine.execAllQuerySend s
  | .surveyEnd => Sys2Proof.Machine.execSurveyEnd s
  | .hallAllOff => Sys2Proof.Machine.execHallAllOff s

end Sys2Proof.Machine
end

