-- ==== Sys2Proof/WellFormed.lean ====
section
/-! DEFINITION. Well-formed commands: operands that the byte layouts of section 11.6, the reports of the hall lines (section
0.6) and the addresses of the switch bus (section 8.1) can carry.  Ranges that a request's own rule checks are left to the
rule. -/

namespace Sys2Proof

/-- The value fits one byte. -/
def fits1 (v : Nat) : Bool := decide (v < 256)

/-- The value fits two bytes. -/
def fits2 (v : Nat) : Bool := decide (v < 65536)

/-- The value fits four bytes. -/
def fits4 (v : Nat) : Bool := decide (v < 4294967296)

/-- An optional value, where present, meets a check. -/
def optFits {α : Type} (f : α → Bool) (o : Option α) : Bool := o.all f

/-- A list has at most `most` items, each meeting a check (section 11.6). -/
def listFits (most : Nat) (f : Nat → Bool) (l : List Nat) : Bool := decide (l.length ≤ most) && l.all f

/-- The fields of DEFINE-TX fit their bytes. -/
def wfTx (f : TxFields) : Bool :=
  optFits fits2 f.rating && optFits fits2 f.bandLow && optFits fits2 f.bandHigh && optFits (listFits 6 fits2) f.taps &&
  optFits fits2 f.rampStep && optFits fits2 f.rampInterval && optFits fits2 f.warmUp && optFits fits2 f.tuneShort &&
  optFits fits2 f.tuneLong && optFits fits2 f.shortSpan && optFits fits2 f.tuneTimeout && optFits fits1 f.rowEst &&
  optFits fits1 f.rowTimeout && optFits fits1 f.recycleLimit && optFits fits1 f.recycleDelay && optFits fits2 f.recycleWindow &&
  optFits fits2 f.loadWarn && optFits fits2 f.loadFold && optFits fits2 f.loadTrip && optFits fits2 f.idleDarken

/-- The fields of DEFINE-ANT fit their bytes. -/
def wfAnt (f : AntFields) : Bool :=
  optFits fits2 f.rating && optFits fits2 f.bandLow && optFits fits2 f.bandHigh && optFits fits1 f.zone &&
  optFits (listFits 16 fits1) f.reach && optFits fits1 f.beams && optFits fits2 f.warn && optFits fits2 f.fold &&
  optFits fits2 f.trip && optFits fits1 f.selEst && optFits fits2 f.selTimeout && optFits fits2 f.beamEst &&
  optFits fits2 f.beamTimeout

/-- The fields of DEFINE-HALL fit their bytes. -/
def wfHall (f : HallFields) : Bool :=
  optFits fits2 f.minForward && optFits fits2 f.minRemainder && optFits (listFits 16 fits1) f.group1 &&
  optFits (listFits 16 fits1) f.group2 && optFits (listFits 16 fits1) f.group3 && optFits (listFits 16 fits1) f.group4

/-- The fields of PUT-ENTRY fit their bytes, with bit 7 of DAYS clear. -/
def wfEntry (f : EntryFields) : Bool :=
  optFits fits2 f.id && optFits fits1 f.tx && optFits fits2 f.freq && optFits fits1 f.path && optFits fits1 f.beam &&
  optFits fits2 f.power && optFits fits2 f.start && optFits fits2 f.duration && optFits (fun d => decide (d < 128)) f.days &&
  optFits fits1 f.priority && optFits fits2 f.firstDay && optFits fits2 f.lastDay && optFits fits2 f.tag

/-- The fields of SEAL-STAGING fit their bytes. -/
def wfSeal (f : SealFields) : Bool :=
  fits2 f.season && decide (f.label.length = 4) && f.label.all fits1 && fits2 f.first && fits2 f.last && fits2 f.expected

/-- A START fits its bytes. -/
def wfStart : StartReq → Bool
  | .on day sec => fits2 day && fits4 sec
  | .now => true

/-- The fields of BOOK fit their bytes. -/
def wfBook (f : BookFields) : Bool :=
  optFits fits1 f.tx && optFits fits2 f.freq && optFits fits1 f.path && optFits fits1 f.beam && optFits fits2 f.power &&
  optFits wfStart f.start && optFits fits4 f.duration && optFits fits1 f.priority && optFits fits2 f.tag

/-- The SOURCE of ARM-CHANGEOVER fits its bytes. -/
def wfArm : ArmReq → Bool
  | .atTime day sec => fits2 day && fits4 sec
  | _ => true

/-- What TRIM names fits its byte. -/
def wfTarget : TrimTarget → Bool
  | .tx n => fits1 n
  | .group g => fits1 g

/-- A STATE report's fields are in their ranges (section 0.6, R80): tap 1..6, drive 0..1000, a frequency a unit can report. -/
def wfReport (r : StateReport) : Bool :=
  decide (1 ≤ r.tap) && decide (r.tap ≤ 6) && decide (r.drive ≤ 1000) && optFits fits2 r.freq

/-- A beam index is below the largest beam count (R4). -/
def wfPlace : Place → Bool
  | .beam i => decide (i < 9)
  | _ => true

/-- A bus address (section 8.1): 0..96. -/
def wfAddr (addr : Nat) : Bool := decide (addr ≤ 96)

/-- A command is well formed. -/
def wellFormed : Instr → Bool
  | .powerOn => true
  | .defineTx _ _ number f => fits1 number && wfTx f
  | .defineTxRemove _ _ number => fits1 number
  | .defineAnt _ _ number f => fits1 number && wfAnt f
  | .defineAntRemove _ _ number => fits1 number
  | .defineHall _ _ f => wfHall f
  | .readTxDef _ _ number => fits1 number
  | .readAntDef _ _ number => fits1 number
  | .setTime _ _ day sec offset => fits2 day && fits4 sec && optFits fits1 offset
  | .readTime _ _ => true
  | .latch _ _ which => optFits (listFits 16 fits1) which
  | .readSnapshot _ _ number => fits1 number
  | .openStaging _ _ => true
  | .putEntry _ _ f => wfEntry f
  | .dropEntry _ _ id => fits2 id
  | .readEntry _ _ _ id _ => fits2 id
  | .sealStaging _ _ f => wfSeal f
  | .abortStaging _ _ => true
  | .discardStaging _ _ => true
  | .armChangeover _ _ src => wfArm src
  | .disarmChangeover _ _ => true
  | .fireChangeover _ _ => true
  | .readBanks _ _ => true
  | .readConflicts _ _ => true
  | .setSource _ _ number _ => fits1 number
  | .book _ _ f => wfBook f
  | .cancelBooking _ _ id => fits1 id
  | .readBookings _ _ => true
  | .readOccurrence _ _ number => fits1 number
  | .setHoldPoint _ _ which _ => optFits fits1 which
  | .releaseHold _ _ number => fits1 number
  | .readPlan _ _ number => fits1 number
  | .trim _ _ target value => wfTarget target && fits2 value
  | .readTrim _ _ target => wfTarget target
  | .clearFault _ _ number => fits1 number
  | .readTx _ _ number => fits1 number
  | .startHall _ _ => true
  | .haltHall _ _ _ => true
  | .setAntServiceOut _ _ number => fits1 number
  | .setAntServiceIn _ _ number => fits1 number
  | .clearSuspect _ _ number => fits1 number
  | .readAnt _ _ number => fits1 number
  | .readMatrix _ _ => true
  | .linkTest _ _ count => fits2 count
  | .restart _ _ => true
  | .unknownKind _ _ code => !Machine.requestCodes.contains code
  | .portByte _ _ => true
  | .frameGapExpiry _ => true
  | .waitingFrameTaken _ => true
  | .frameTransmit _ => true
  | .secondPulse _ => true
  | .oscillatorSecond => true
  | .pulseWindowClose => true
  | .sweepStep => true
  | .bankRecheck => true
  | .syncRisingEdge => true
  | .syncInputOff => true
  | .syncQualifierExpiry => true
  | .emergencyAsserted => true
  | .emergencyReleased => true
  | .gateLineOff _ => true
  | .gateLineOn _ => true
  | .accept _ => true
  | .reject _ _ => true
  | .state _ r => wfReport r
  | .meter _ forward reflected => decide (forward ≤ 9999) && decide (reflected ≤ 9999)
  | .tuned _ freq => fits2 freq
  | .tuneFail _ _ => true
  | .trip _ _ => true
  | .fault _ _ => true
  | .deferredOrderSend _ => true
  | .orderAcceptExpiry _ => true
  | .lineSilenceExpiry _ => true
  | .warmUpExpiry _ => true
  | .tuneExpiry _ => true
  | .rampExpiry _ => true
  | .rfOffConfirmationExpiry _ => true
  | .recycleExpiry _ => true
  | .phaseBegin _ _ => true
  | .retargetEffect _ => true
  | .moveHandover => true
  | .antennaOffer _ => true
  | .busOrderSend => true
  | .moving addr => wfAddr addr
  | .arrived addr at_ => wfAddr addr && wfPlace at_
  | .stuck addr last => wfAddr addr && wfPlace last
  | .position addr at_ => wfAddr addr && optFits wfPlace at_
  | .busAnswerExpiry => true
  | .travelExpiry _ => true
  | .allQuerySend => true
  | .surveyEnd => true
  | .hallAllOff => true

end Sys2Proof
end

