-- ==== Sys2Proof/Certificates/Slice0/Obligations.lean ====
section
/-! DEFINITION. The statements about the HC-1640 for the provers: `Obligations.<Name>`, with the terms they are stated in.
Each names the rule of spec/ it formalises, or the sections it rests on. -/

namespace Sys2Proof.Claims
open Sys2Proof Sys2Proof.Machine

/-- A port with no reply in its reply slot and no frame waiting: a frame that completes is taken at once (R188). -/
def portFree (port : Port) (s : State) : Prop := (s.port port).waiting = none ∧ (s.port port).slot = none

/-- The state once the reply to a request waits in a port's reply slot (R189). -/
def replied (port : Port) (tag kind : Byte) (res : Result) (t : State) : State :=
  t.updPort port fun q => { q with slot := some ⟨tag, kind + 0x80, t.header port, res⟩ }

/-- The reply that waits on a port carries a tag and a result. -/
def slotHolds (port : Port) (tag : Byte) (res : Result) (t : State) : Prop :=
  ∃ r, (t.port port).slot = some r ∧ r.tag = tag ∧ r.result = res

/-- The frame a request command brings: its port, its tag and its request; none for the other commands. -/
def frameOf : Instr → Option (Port × Byte × Request)
  | .defineTx port tag k f => some (port, tag, .defineTx k f)
  | .defineTxRemove port tag k => some (port, tag, .defineTxRemove k)
  | .defineAnt port tag k f => some (port, tag, .defineAnt k f)
  | .defineAntRemove port tag k => some (port, tag, .defineAntRemove k)
  | .defineHall port tag f => some (port, tag, .defineHall f)
  | .readTxDef port tag k => some (port, tag, .readTxDef k)
  | .readAntDef port tag k => some (port, tag, .readAntDef k)
  | .setTime port tag d t o => some (port, tag, .setTime d t o)
  | .readTime port tag => some (port, tag, .readTime)
  | .latch port tag w => some (port, tag, .latch w)
  | .readSnapshot port tag k => some (port, tag, .readSnapshot k)
  | .openStaging port tag => some (port, tag, .openStaging)
  | .putEntry port tag f => some (port, tag, .putEntry f)
  | .dropEntry port tag k => some (port, tag, .dropEntry k)
  | .readEntry port tag b k m => some (port, tag, .readEntry b k m)
  | .sealStaging port tag f => some (port, tag, .sealStaging f)
  | .abortStaging port tag => some (port, tag, .abortStaging)
  | .discardStaging port tag => some (port, tag, .discardStaging)
  | .armChangeover port tag a => some (port, tag, .armChangeover a)
  | .disarmChangeover port tag => some (port, tag, .disarmChangeover)
  | .fireChangeover port tag => some (port, tag, .fireChangeover)
  | .readBanks port tag => some (port, tag, .readBanks)
  | .readConflicts port tag => some (port, tag, .readConflicts)
  | .setSource port tag k src => some (port, tag, .setSource k src)
  | .book port tag f => some (port, tag, .book f)
  | .cancelBooking port tag k => some (port, tag, .cancelBooking k)
  | .readBookings port tag => some (port, tag, .readBookings)
  | .readOccurrence port tag k => some (port, tag, .readOccurrence k)
  | .setHoldPoint port tag w hp => some (port, tag, .setHoldPoint w hp)
  | .releaseHold port tag k => some (port, tag, .releaseHold k)
  | .readPlan port tag k => some (port, tag, .readPlan k)
  | .trim port tag x v => some (port, tag, .trim x v)
  | .readTrim port tag x => some (port, tag, .readTrim x)
  | .clearFault port tag k => some (port, tag, .clearFault k)
  | .readTx port tag k => some (port, tag, .readTx k)
  | .startHall port tag => some (port, tag, .startHall)
  | .haltHall port tag now => some (port, tag, .haltHall now)
  | .setAntServiceOut port tag k => some (port, tag, .setAntServiceOut k)
  | .setAntServiceIn port tag k => some (port, tag, .setAntServiceIn k)
  | .clearSuspect port tag k => some (port, tag, .clearSuspect k)
  | .readAnt port tag k => some (port, tag, .readAnt k)
  | .readMatrix port tag => some (port, tag, .readMatrix)
  | .linkTest port tag k => some (port, tag, .linkTest k)
  | .restart port tag => some (port, tag, .restart)
  | .unknownKind port tag c => some (port, tag, .unknownKind c)
  | _ => none

/-- The table of R190: the request may be sent on the port under the panel flags as they stand. -/
def maySend (port : Port) (s : State) : Request → Prop
  | .readTxDef _ | .readAntDef _ | .readTime | .readEntry .. | .readBanks | .readConflicts | .readBookings
  | .readOccurrence _ | .readPlan _ | .readTrim _ | .readTx _ | .readAnt _ | .readMatrix | .linkTest _ | .clearFault _
  | .setAntServiceOut _ | .setAntServiceIn _ | .haltHall _ | .trim .. => True
  | .releaseHold _ => port = .a ∨ s.hds.hall.panelRelease = true
  | .latch _ | .readSnapshot _ => port = .a ∨ s.hds.hall.panelTelemetry = true
  | _ => port = .a

/-- The commands of a list, run one after another from s, each answer a next state, and the last is u. -/
def commandsGive : List Instr → State → State → Prop
  | [], s, u => s = u
  | c :: l, s, u => ∃ t, exec c s = .next t ∧ commandsGive l t u

/-- One more on a count that stops at 65535. -/
def oneMore (k : Nat) : Nat := if k < 65535 then k + 1 else 65535

/-- A notice waits in the queue of every port that has room for another ordinary notice before it comes (R192). -/
def told (s : State) (nt : Notice) (t : State) : Prop :=
  ∀ port : Port, ((s.port port).queue.filter QEntry.ordinary).length < 63 →
    ∃ d k, QEntry.notice d k nt ∈ (t.port port).queue

end Sys2Proof.Claims

section
open Sys2Proof Sys2Proof.Machine Sys2Proof.Claims

/-! ## The machine as a whole -/

/-- Section 0.4 (the model's queue, log 2): step takes the command at the front of the queue and is exec of it on the queue's
rest; with no command waiting one millisecond passes, which is the model's choice. -/
def Obligations.StepRunsTheFrontCommand : Prop :=
  (∀ (c : Instr) (rest : List Instr) (s : State), s.pending = c :: rest → step s = exec c { s with pending := rest }) ∧
  ∀ s : State, s.pending = [] → step s = .next (s.elapse 1)

/-- Section 0.4: every command of the table answers a next state on every operand in every state, so none stops the
controller, and leaves the queue of waiting commands alone. -/
def Obligations.EveryCommandAnswersNext : Prop :=
  ∀ (c : Instr) (s : State), ∃ t : State, exec c s = .next t ∧ t.pending = s.pending

/-! ## Ports and messages (chapter 11) -/

/-- R190: a request frame that is taken is refused NOT-PERMITTED, with the state left alone, exactly where the table of port
authority does not let its port send it. -/
def Obligations.PortAuthorityFollowsTheTable : Prop :=
  ∀ (c : Instr) (s : State) (port : Port) (tag : Byte) (r : Request), frameOf c = some (port, tag, r) → portFree port s →
    (∀ code, r ≠ .unknownKind code) →
    (¬ maySend port s r → exec c s = .next (replied port tag (kindOf r) (.refused .notPermitted 0) s)) ∧
    (maySend port s r → ∃ t, exec c s = .next t ∧ ∃ res, slotHolds port tag res t ∧ ∀ k, res ≠ .refused .notPermitted k)

/-- Sections 11.1 and 11.6, R187: the bytes of a frame, sent to a receiver that hunts, are read as that frame: the port ends
hunting with its gap channel stopped, and the frame arrives with its tag and with its kind and body read as a request. -/
def Obligations.FrameBytesAreReceived : Prop :=
  ∀ (s : State) (port : Port) (tag kind : Byte) (body : List Byte), (s.port port).rx = .hunting →
    (s.port port).waiting = none → body.length ≤ 1024 →
    commandsGive ((frameBytes tag kind body).map (Instr.portByte port)) s
      ((s.stopChan (.gap port)).frameArrives port ⟨tag, readRequest kind body⟩)

/-- R187: what each byte does in each reception state, with no frame waiting, and the expiry of the frame gap channel, which
discards a partial frame and counts it, or, while a frame waits, begins anew the frame that is being lost (R188). -/
def Obligations.ReceiverFollowsTheTable : Prop :=
  (∀ (s : State) (port : Port) (b : Byte), (s.port port).waiting = none →
     let rx := (s.port port).rx
     let put (v : Rx) (t : State) : State := t.updPort port fun q => { q with rx := v }
     let lost (t : State) : State :=
       (put .hunting (t.stopChan (.gap port))).updPort port fun q => { q with discards := oneMore q.discards }
     (rx.state = .hunt → b ≠ 0x5A → exec (.portByte port b) s = .next s) ∧
     (rx.state = .hunt → b = 0x5A →
       exec (.portByte port b) s = .next (put { Rx.hunting with state := .length } (s.startChan (.gap port) 20))) ∧
     (rx.state = .length → rx.first = none →
       exec (.portByte port b) s = .next (put { rx with first := some b } (s.retrigger (.gap port)))) ∧
     (∀ h, rx.state = .length → rx.first = some h → 1024 < h.toNat * 256 + b.toNat →
       exec (.portByte port b) s = .next (lost s)) ∧
     (∀ h, rx.state = .length → rx.first = some h → h.toNat * 256 + b.toNat ≤ 1024 →
       exec (.portByte port b) s = .next
         (put { rx with state := .tag, first := none, len := h.toNat * 256 + b.toNat } (s.retrigger (.gap port)))) ∧
     (rx.state = .tag → exec (.portByte port b) s = .next (put { rx with state := .kind, tag := b } (s.retrigger (.gap port)))) ∧
     (rx.state = .kind → exec (.portByte port b) s = .next
       (put { rx with state := if rx.len = 0 then .check else .body, kind := b } (s.retrigger (.gap port)))) ∧
     (rx.state = .body → exec (.portByte port b) s = .next
       (put { rx with state := if rx.bodyRev.length + 1 = rx.len then .check else .body, bodyRev := b :: rx.bodyRev }
         (s.retrigger (.gap port)))) ∧
     (rx.state = .check → rx.first = none →
       exec (.portByte port b) s = .next (put { rx with first := some b } (s.retrigger (.gap port)))) ∧
     (∀ h, rx.state = .check → rx.first = some h → h ++ b ≠ crcOf rx.covered → exec (.portByte port b) s = .next (lost s))) ∧
  (∀ (s : State) (port : Port),
     ((s.port port).waiting.isSome = true → (s.chan (.gap port)).running = true →
       ∃ t, exec (.frameGapExpiry port) s = .next t ∧ t.port port = { s.port port with lost := .hunting }) ∧
     ((s.port port).waiting = none → (s.chan (.gap port)).running = true → (s.port port).rx.state ≠ .hunt →
       ∃ t, exec (.frameGapExpiry port) s = .next t ∧
         t.port port = { s.port port with rx := .hunting, discards := oneMore (s.port port).discards } ∧
         (t.chan (.gap port)).running = false ∧ t.hds = s.hds ∧ t.sch = s.sch ∧ t.txs = s.txs ∧ t.csq = s.csq ∧ t.amx = s.amx ∧
         t.swb = s.swb ∧ t.rfp = s.rfp ∧ t.snaps = s.snaps) ∧
     ((s.chan (.gap port)).running = false → exec (.frameGapExpiry port) s = .next s))

/-- R191, R192: which frame the free transmitter sends, a reply and a notice taking turns where both wait; what a posting does to
a notice queue, on both ports, with its overflow marker, and that nothing else of the state changes. -/
def Obligations.NoticesQueueAndGoOut : Prop :=
  (∀ (s : State) (port : Port),
     let q := s.port port
     let reply (r : Reply) : State := s.updPort port fun x => { x with slot := none, sending := some (.reply r), lastReply := true }
     let notice (e : QEntry) (rest : List QEntry) : State :=
       s.updPort port fun x => { x with queue := rest, sending := some (.notice 0 e.code e), lastReply := false }
     (∀ r e rest, q.slot = some r → q.queue = e :: rest → q.lastReply = false →
       exec (.frameTransmit port) s = .next (reply r)) ∧
     (∀ r e rest, q.slot = some r → q.queue = e :: rest → q.lastReply = true →
       exec (.frameTransmit port) s = .next (notice e rest)) ∧
     (∀ r, q.slot = some r → q.queue = [] → exec (.frameTransmit port) s = .next (reply r)) ∧
     (∀ e rest, q.slot = none → q.queue = e :: rest → exec (.frameTransmit port) s = .next (notice e rest)) ∧
     (q.slot = none → q.queue = [] →
       exec (.frameTransmit port) s = .next (s.updPort port fun x => { x with sending := none }))) ∧
  (∀ (s : State) (nt : Notice) (port : Port),
     let q := (s.port port).queue
     let ordinary := (q.filter QEntry.ordinary).length
     (ordinary < 63 → ((s.post nt).port port).queue = q ++ [.notice s.clk.day s.clk.sec nt]) ∧
     (63 ≤ ordinary → (∀ e ∈ q, e.ordinary = true) →
       ((s.post nt).port port).queue = q ++ [.overflow s.clk.day s.clk.sec 1]) ∧
     (∀ l r d t k, q = l ++ .overflow d t k :: r → (∀ e ∈ l ++ r, e.ordinary = true) → 63 ≤ ordinary →
       ((s.post nt).port port).queue = l ++ .overflow d t (oneMore k) :: r) ∧
     (s.post nt).port port = { s.port port with queue := ((s.post nt).port port).queue } ∧
     (s.post nt).hds = s.hds ∧ (s.post nt).clk = s.clk ∧ (s.post nt).sch = s.sch ∧ (s.post nt).csq = s.csq ∧
     (s.post nt).txs = s.txs ∧ (s.post nt).amx = s.amx ∧ (s.post nt).swb = s.swb ∧ (s.post nt).rfp = s.rfp ∧
     (s.post nt).tim = s.tim ∧ (s.post nt).snaps = s.snaps ∧ (s.post nt).pins = s.pins ∧ (s.post nt).pending = s.pending ∧
     (s.post nt).free = s.free)

/-- R192: a queue within its places: at most 63 ordinary notices and one overflow marker, so at most 64 entries. -/
def Sys2Proof.Claims.queueLegal (q : List QEntry) : Prop :=
  (q.filter QEntry.ordinary).length ≤ 63 ∧ (q.filter fun e => !e.ordinary).length ≤ 1 ∧ q.length ≤ 64

/-- R148, R192: no step ever takes a notice queue beyond 63 ordinary notices and one overflow marker, or the bus order queue
beyond 32 orders. -/
def Obligations.EveryStepKeepsQueuesWithinTheirPlaces : Prop :=
  (∀ s t : State, queueLegal s.lnk.a.queue → queueLegal s.lnk.p.queue → step s = .next t →
    queueLegal t.lnk.a.queue ∧ queueLegal t.lnk.p.queue) ∧
  ∀ s t : State, s.swb.queue.length ≤ 32 → step s = .next t → t.swb.queue.length ≤ 32

/-- R188, R189, R193: a frame that completes while the reply before it has not begun waits in the receive frame, and one whose bytes
come while another waits is lost and counted; the waiting frame is taken once that reply has begun; a kind code that names no
request is refused UNKNOWN-KIND with the code. The reply's kind code is the sum with 0x80 taken as a byte: that it wraps for an
unknown kind of 0x80 or more, where R189's sum fits no byte, is the model's choice (log 92). LINK-TEST returns N bytes of the sequence from a register of all ones, with the
port's discard count and its queued notices, and changes nothing; an N outside 1..256 is refused RANGE; the first two bytes are
0xFE and 0x04. -/
def Obligations.FramesWaitAreTakenAndTested : Prop :=
  ((∀ (c : Instr) (s : State) (port : Port) (tag : Byte) (r : Request), frameOf c = some (port, tag, r) →
     ((s.port port).waiting.isSome = true →
       exec c s = .next (s.updPort port fun q => { q with discards := oneMore q.discards })) ∧
     ((s.port port).waiting = none → (s.port port).slot.isSome = true →
       exec c s = .next (s.updPort port fun q => { q with waiting := some ⟨tag, r⟩ }))) ∧
  (∀ (s : State) (port : Port),
     (∀ f, (s.port port).slot = none → (s.port port).waiting = some f →
       ∃ t r, exec (.waitingFrameTaken port) s = .next t ∧ (t.port port).waiting = none ∧ (t.port port).rx = .hunting ∧
         (t.port port).slot = some r ∧ r.tag = f.tag ∧ r.kind = kindOf f.req + 0x80) ∧
     ((s.port port).slot.isSome = true ∨ (s.port port).waiting = none → exec (.waitingFrameTaken port) s = .next s)) ∧
  (∀ (s : State) (port : Port) (tag code : Byte), portFree port s →
     exec (.unknownKind port tag code) s = .next (replied port tag code (.refused .unknownKind code.toNat) s))) ∧
  ((∀ (s : State) (port : Port) (tag : Byte) (count : Nat), portFree port s →
    (1 ≤ count → count ≤ 256 → exec (.linkTest port tag count) s = .next (replied port tag 0x3E
      (.accepted (.linkTest (linkBytes count 0x7F#7) (s.port port).discards (s.port port).queue.length)) s)) ∧
    (count = 0 ∨ 256 < count → exec (.linkTest port tag count) s = .next (replied port tag 0x3E (.refused .range 1) s))) ∧
  ∀ k, ∃ l, linkBytes (k + 2) 0x7F#7 = 0xFE :: 0x04 :: l)

/-! ## The hall description (chapter 1) -/

/-- Chapter 1, R10 to R12, R186: while the hall is not HALTED no command but a power-on changes anything HDS holds, RESTART and
frames taken from the bytes of a port among them. -/
def Obligations.HallDescriptionChangesOnlyWhenHalted : Prop :=
  ∀ (c : Instr) (s t : State), c ≠ .powerOn → s.txs.hall ≠ .halted → exec c s = .next t → t.hds = s.hds

/-- The static minima stand at the formula of R9 for every transmitter. -/
def Sys2Proof.Claims.minimaStand (t : State) : Prop :=
  ∀ n : TxId, t.hds.staticMin[n] = (t.txDef n).map fun d => staticMinimum d n (t.definedAnt.filterMap t.antDef)

/-- R15, R16: what a change of the hall description does to the banks: an EMPTY, OPEN or REJECTED bank stays, a VALIDATING or SEALED
one begins its sweep again with its lists and counts emptied, and the recheck flag of a LIVE bank is set. -/
def Sys2Proof.Claims.banksFollow (s t : State) : Prop :=
  let flagged := s.sch.active.map fun b => { b with recheck := true }
  (s.sch.staged.state = .empty ∨ s.sch.staged.state = .open ∨ s.sch.staged.state = .rejected →
    t.sch.staged = s.sch.staged ∧ t.sch.active = flagged) ∧
  (s.sch.staged.state = .sealed ∨ s.sch.staged.state = .validating → s.sch.staged.entries ≠ [] →
    t.sch.staged = { s.sch.staged with
      state := .validating, pass := 1, position := 1, conflicts := [], overflow := 0, willClamp := 0, tight := 0
      standing := .inProgress } ∧ t.sch.active = flagged)

/-- R2, R3, R9, R10, R13 to R16, R161: DEFINE-TX is refused outside HALTED, for a number that names no transmitter, for a required field
that is absent and for a field outside its range, in that order; an accepted one stores the whole record and computes every
static minimum again; a transmitter that was undefined enters with its power-on context, one that was defined keeps its own, its
TAPS list in use until the next RF-ON, and its recycle count lowered to the limit. A removal an antenna bars is refused CONFLICT
with the lowest; any other returns what belonged to the transmitter to nothing, its plan too, which is the model's reading
(log 25). After a definition and after a removal the banks follow the description. -/
def Obligations.DefineTxStoresOrRemoves : Prop :=
  (∀ (s : State) (tag : Byte) (number : Nat) (f : TxFields), portFree .a s →
     let refuses (why : Reason) (k : Nat) : Prop :=
       exec (.defineTx .a tag number f) s = .next (replied .a tag 0x01 (.refused why k) s)
     (s.txs.hall ≠ .halted → refuses .state 1 ∧
       exec (.defineTxRemove .a tag number) s = .next (replied .a tag 0x01 (.refused .state 1) s)) ∧
     (s.txs.hall = .halted →
       (number = 0 ∨ 16 < number → refuses .range 1 ∧
         exec (.defineTxRemove .a tag number) s = .next (replied .a tag 0x01 (.refused .range 1) s)) ∧
       (1 ≤ number → number ≤ 16 →
         (f.rating = none → refuses .malformed 2) ∧
         (f.rating ≠ none → f.bandLow = none → refuses .malformed 3) ∧
         (f.rating ≠ none → f.bandLow ≠ none → f.bandHigh = none → refuses .malformed 4) ∧
         (f.rating ≠ none → f.bandLow ≠ none → f.bandHigh ≠ none → f.taps = none → refuses .malformed 5) ∧
         ∀ d k, txRecord f = some d → txFieldFault d = some k → refuses .range k))) ∧
  (∀ (s : State) (tag : Byte) (number : Nat) (f : TxFields) (n : TxId) (d : TxDef), portFree .a s → s.txs.hall = .halted →
     itemOf 16 number = some n → txRecord f = some d → txFieldFault d = none →
     ∃ t, exec (.defineTx .a tag number f) s = .next t ∧
       slotHolds .a tag (.accepted (.txDef (num n) d ((t.hds.staticMin[n]).getD 0) (s.groupOf n)
         (txClamped f))) t ∧
       t.hds.tx = s.hds.tx.set n (some d) ∧ t.hds.ant = s.hds.ant ∧ t.hds.hall = s.hds.hall ∧ t.hds.zones = s.hds.zones ∧
       minimaStand t ∧
       (s.txDefined n = true → t.txs = s.txs ∧ t.amx = s.amx ∧ t.swb = s.swb) ∧ banksFollow s t ∧
       (∀ old, s.txDef n = some old → t.prot n = { s.prot n with
         recycleCount := min (s.prot n).recycleCount d.recycleLimit
         taps := if old.taps = d.taps then (s.prot n).taps else some ((s.prot n).taps.getD old.taps) }) ∧
       (s.txDefined n = false → (t.ctx n).state = .unknown ∧ (t.ctx n).rf = .unsure ∧ (t.ctx n).source = .auto ∧
         (t.ctx n).trim = 1000 ∧ (t.chan (.tx n .silence)).running = true ∧ t.entry (.row n) = some .initial ∧
         t.pos (.row n) = .unknown) ∧
       (∀ m, m ≠ n → t.ctx m = s.ctx m ∧ t.prot m = s.prot m) ∧ t.amx.ant = s.amx.ant ∧ t.clk = s.clk ∧
       t.snaps = s.snaps ∧ t.pins = s.pins) ∧
  (∀ (s : State) (tag : Byte) (number : Nat) (n : TxId), portFree .a s → s.txs.hall = .halted → itemOf 16 number = some n →
     let bars (a : AntId) : Prop := s.antDefined a = true ∧
       (s.owned n = some a ∨ s.pos (.sel a) = .atp (.tx n) ∨ s.pos (.sel a) = .travelling (.tx n))
     (s.txDefined n = false →
       exec (.defineTxRemove .a tag number) s = .next (replied .a tag 0x01 (.accepted (.undefined number)) s)) ∧
     (∀ a, s.txDefined n = true → bars a → (∀ b, bars b → a ≤ b) →
       exec (.defineTxRemove .a tag number) s = .next (replied .a tag 0x01 (.refused .conflict (num a)) s)) ∧
     (s.txDefined n = true → (∀ a, ¬ bars a) →
       ∃ t, exec (.defineTxRemove .a tag number) s = .next t ∧ slotHolds .a tag (.accepted (.undefined number)) t ∧
         t.hds.tx = s.hds.tx.set n none ∧ t.hds.ant = s.hds.ant ∧ t.hds.hall = s.hds.hall ∧ minimaStand t ∧
         t.ctx n = .powerOn ∧ t.prot n = .initial ∧ t.occ n = ⟨none, none⟩ ∧ t.plan n = none ∧
         (∀ b ∈ t.sch.bookings, b.tx ≠ n) ∧ t.entry (.row n) = none ∧ banksFollow s t ∧ t.clk = s.clk ∧ t.pins = s.pins))

/-- R4, R5, R6, R9, R11, R13 to R16: DEFINE-ANT is refused outside HALTED, for a number that names no antenna, for a required field
that is absent and for a field outside its range, in that order; an accepted one stores the record, derives zones and static
minima again and brings the actuators up to date, and the conflicts of R13 refuse it; a removal is refused with the owner or
the transmitter its selector names, and otherwise takes the antenna's run-time record, trips, bookings and actuators away and
answers whether its zone is still in use. After either the banks follow the description. The detail 1 of STATE is that of R10 and
R189, R11 following R10 (log 8), and the identifier a CONFLICT carries where two fit is the model's choice (log 96). -/
def Obligations.DefineAntStoresOrRemoves : Prop :=
  (∀ (s : State) (tag : Byte) (number : Nat) (f : AntFields), portFree .a s →
     let refuses (why : Reason) (k : Nat) : Prop :=
       exec (.defineAnt .a tag number f) s = .next (replied .a tag 0x02 (.refused why k) s)
     (s.txs.hall ≠ .halted → refuses .state 1 ∧
       exec (.defineAntRemove .a tag number) s = .next (replied .a tag 0x02 (.refused .state 1) s)) ∧
     (s.txs.hall = .halted →
       (number = 0 ∨ 40 < number → refuses .range 1 ∧
         exec (.defineAntRemove .a tag number) s = .next (replied .a tag 0x02 (.refused .range 1) s)) ∧
       (1 ≤ number → number ≤ 40 →
         (f.rating = none → refuses .malformed 2) ∧
         (f.rating ≠ none → f.bandLow = none → refuses .malformed 3) ∧
         (f.rating ≠ none → f.bandLow ≠ none → f.bandHigh = none → refuses .malformed 4) ∧
         (f.rating ≠ none → f.bandLow ≠ none → f.bandHigh ≠ none → f.zone = none → refuses .malformed 5) ∧
         (f.rating ≠ none → f.bandLow ≠ none → f.bandHigh ≠ none → f.zone ≠ none → f.reach = none → refuses .malformed 6) ∧
         ∀ k, antMissing f = none → antFieldFault f = some k → refuses .range k))) ∧
  (∀ (s : State) (tag : Byte) (number : Nat) (f : AntFields) (a : AntId) (d : AntDef), portFree .a s → s.txs.hall = .halted →
     itemOf 40 number = some a → antFieldFault f = none → antRecord f = some d →
     let left (n : TxId) : Prop := n ∉ d.reach ∧ (s.pos (.sel a) = .atp (.tx n) ∨ s.pos (.sel a) = .travelling (.tx n))
     let beamMoves : Prop := d.beams = 1 ∧ ∃ p, s.pos (.beam a) = .travelling p
     (∀ n, left n → exec (.defineAnt .a tag number f) s = .next (replied .a tag 0x02 (.refused .conflict (num n)) s)) ∧
     ((∀ n, ¬ left n) → beamMoves →
       exec (.defineAnt .a tag number f) s = .next (replied .a tag 0x02 (.refused .conflict (num a)) s)) ∧
     ((∀ n, ¬ left n) → ¬ beamMoves →
       ∃ t, exec (.defineAnt .a tag number f) s = .next t ∧
         slotHolds .a tag (.accepted (.antDef number d (decide (2 ≤ d.beams)) true)) t ∧
         t.hds.ant = s.hds.ant.set a (some d) ∧ t.hds.tx = s.hds.tx ∧ t.hds.hall = s.hds.hall ∧
         (∀ (z : ZoneId) (b : AntId), b ∈ (t.hds.zones[z]).members ↔ ∃ r, t.antDef b = some r ∧ r.zone = z) ∧
         (∀ z : ZoneId, (t.hds.zones[z]).inUse = true ↔ ∃ b r, t.antDef b = some r ∧ r.zone = z) ∧
         minimaStand t ∧ t.actDefined (.beam a) = decide (2 ≤ d.beams) ∧
         (s.antDefined a = false → t.actDefined (.sel a) = true) ∧ banksFollow s t ∧ t.clk = s.clk ∧ t.snaps = s.snaps ∧ t.pins = s.pins)) ∧
  (∀ (s : State) (tag : Byte) (number : Nat) (a : AntId), portFree .a s → s.txs.hall = .halted → itemOf 40 number = some a →
     (s.antDefined a = false →
       exec (.defineAntRemove .a tag number) s = .next (replied .a tag 0x02 (.accepted (.antUndefined number none)) s)) ∧
     (∀ o, s.antDefined a = true → s.owner a = some o →
       exec (.defineAntRemove .a tag number) s = .next (replied .a tag 0x02 (.refused .conflict (num o.tx)) s)) ∧
     (∀ n, s.antDefined a = true → s.owner a = none →
       s.pos (.sel a) = .atp (.tx n) ∨ s.pos (.sel a) = .travelling (.tx n) →
       exec (.defineAntRemove .a tag number) s = .next (replied .a tag 0x02 (.refused .conflict (num n)) s)) ∧
     (∀ d, s.antDef a = some d → s.owner a = none → (∀ n, s.pos (.sel a) ≠ .atp (.tx n)) →
       (∀ p, s.pos (.sel a) ≠ .travelling p) →
       ∃ t, exec (.defineAntRemove .a tag number) s = .next t ∧
         slotHolds .a tag (.accepted (.antUndefined number (some (t.hds.zones[d.zone]).inUse))) t ∧
         ((t.hds.zones[d.zone]).inUse = true ↔ ∃ b r, t.antDef b = some r ∧ r.zone = d.zone) ∧
         t.hds.ant = s.hds.ant.set a none ∧ t.hds.tx = s.hds.tx ∧ t.hds.hall = s.hds.hall ∧ minimaStand t ∧
         t.run a = none ∧ t.trips a = [] ∧ (∀ b ∈ t.sch.bookings, b.path ≠ some a) ∧ t.entry (.sel a) = none ∧
         t.entry (.beam a) = none ∧ banksFollow s t ∧ t.clk = s.clk ∧ t.snaps = s.snaps ∧ t.pins = s.pins))

/-- R7, R8, R12, R15, R16: an accepted DEFINE-HALL stores every field with its default where it is absent, answers with the
effective members, sets the recheck flag of a LIVE bank, and sends a SEALED or VALIDATING bank back to the start of a sweep. -/
def Obligations.DefineHallStoresTheRecord : Prop :=
  ∀ (s : State) (tag : Byte) (f : HallFields), portFree .a s → s.txs.hall = .halted →
    (∀ k, hallFieldFault f = some k →
      exec (.defineHall .a tag f) s = .next (replied .a tag 0x03 (.refused .range k) s)) ∧
    (∀ k, hallFieldFault f = none → sharedMember f = some k →
      exec (.defineHall .a tag f) s = .next (replied .a tag 0x03 (.refused .conflict k) s)) ∧
    (hallFieldFault f = none → sharedMember f = none →
      ∃ t, exec (.defineHall .a tag f) s = .next t ∧
        slotHolds .a tag (.accepted (.hallStored (hallRecord f) t.effectiveGroups)) t ∧
        t.hds = { s.hds with hall := hallRecord f } ∧ t.txs = s.txs ∧ t.amx = s.amx ∧ t.swb = s.swb ∧ t.rfp = s.rfp ∧
        t.csq = s.csq ∧ t.clk = s.clk ∧ t.tim = s.tim ∧ t.snaps = s.snaps ∧ t.sch.bookings = s.sch.bookings ∧ banksFollow s t)

/-! ## Station time, timers and snapshots (chapter 2) -/

/-- R19 to R24: the ranges of the clock, and what each clock state allows it to hold: no time before a set in UNSET, a pending
set only in LOCKED, fewer than three missing pulses in LOCKED. -/
def Sys2Proof.Claims.clockLegal (c : Clock) : Prop :=
  c.day < 65536 ∧ c.sec < 86400 ∧ c.offset < 7 ∧ c.missing ≤ 3 ∧ c.stray ≤ 65535 ∧ c.elapsed < 4294967296 ∧
  (c.state = .unset → c.day = 0 ∧ c.sec = 0 ∧ c.offset = 0) ∧ (c.state = .locked → c.missing < 3) ∧
  (c.pend.isSome = true → c.state = .locked) ∧ (c.tail = true → c.state = .locked) ∧
  ∀ v, c.pend = some v → v.day < 65536 ∧ v.sec < 86400 ∧ v.offset < 7

/-- R19 to R24: every step keeps the clock within its ranges. -/
def Obligations.EveryStepKeepsTheClockLegal : Prop :=
  ∀ s t : State, clockLegal s.clk → step s = .next t → clockLegal t.clk

/-- R19: day, second and weekday offset after a second advance. -/
def Sys2Proof.Claims.nextTime (c : Clock) : Nat × Nat × Nat :=
  if c.sec + 1 < 86400 then (c.day, c.sec + 1, c.offset)
  else if c.day < 65535 then (c.day + 1, 0, c.offset)
  else (0, 0, (c.offset + 2) % 7)

/-- Day, second and weekday offset. -/
def Sys2Proof.Claims.timeOf (c : Clock) : Nat × Nat × Nat := (c.day, c.sec, c.offset)

/-- R19 to R22, R24, R25: the oscillator's second; the pulse that locks the clock; the pulse in LOCKED, on time or stray; and the
close of the window, with HOLDOVER at the third missing pulse. A second pulse in a window (`again`) is on time too and advances
no second. A pulse that comes after a window left open has closed finds its missing pulse counted at the close, and a set that
was pending for it applied there. The instants are the model's (log 5), and so is the count from a set in FREE and HOLDOVER
(log 63). -/
def Obligations.SecondsFollowOscillatorAndPulse : Prop :=
  (∀ s : State, (s.clk.state = .locked → s.clk.tail = false) →
     ∃ t, exec .oscillatorSecond s = .next t ∧
       t.clk.elapsed = (s.clk.elapsed + 1) % 4294967296 ∧
       timeOf t.clk = (if s.clk.state = .unset then timeOf s.clk else nextTime s.clk) ∧
       t.clk.state = s.clk.state ∧ t.clk.missing = s.clk.missing ∧ t.clk.stray = s.clk.stray ∧ t.clk.pend = s.clk.pend ∧
       (s.clk.state = .unset → t.sch = s.sch ∧ t.csq = s.csq ∧ t.txs = s.txs ∧ t.amx = s.amx ∧ t.swb = s.swb ∧
         t.rfp = s.rfp ∧ t.lnk = s.lnk) ∧
       t.hds = s.hds ∧ t.snaps = s.snaps ∧ t.pins = s.pins) ∧
  (∀ (s : State) (k : Nat), s.clk.tail = false → s.clk.phase + k < 1000 →
     (s.clk.state = .unset → exec (.secondPulse k) s = .next (s.elapse k)) ∧
     (s.clk.state = .free ∨ s.clk.state = .holdover →
       ∃ t, exec (.secondPulse k) s = .next t ∧ t.clk.state = .locked ∧ t.clk.missing = 0 ∧
         timeOf t.clk = (if 500 ≤ s.clk.phase + k then nextTime s.clk else timeOf s.clk) ∧
         t.clk.elapsed = (if 500 ≤ s.clk.phase + k then (s.clk.elapsed + 1) % 4294967296 else s.clk.elapsed) ∧
         t.clk.stray = s.clk.stray ∧ t.hds = s.hds ∧ t.snaps = s.snaps ∧ t.pins = s.pins)) ∧
  (∀ (s : State) (k : Nat), s.clk.state = .locked →
     let at_ := s.clk.phase + k
     let again : Prop := s.clk.tail = false ∧ at_ < 1000 ∧ ∃ w, s.clk.seen = some w ∧ at_ ≤ w
     let ahead : Prop := ¬ again ∧ s.clk.tail = false
     (ahead → at_ < 950 →
       exec (.secondPulse k) s =
         .next { s.elapse k with clk := { (s.elapse k).clk with stray := oneMore s.clk.stray } }) ∧
     (again ∨ ahead ∧ 950 ≤ at_ ∧ at_ < 1000 ∨ s.clk.tail = true ∧ at_ ≤ 50 →
       ∃ t, exec (.secondPulse k) s = .next t ∧ t.clk.state = .locked ∧ t.clk.missing = 0 ∧ t.clk.pend = none ∧
         (∀ v, s.clk.pend = some v → timeOf t.clk = (v.day, v.sec, v.offset)) ∧
         (s.clk.pend = none → (ahead → timeOf t.clk = nextTime s.clk) ∧ (¬ ahead → timeOf t.clk = timeOf s.clk)) ∧
         (ahead → t.clk.elapsed = (s.clk.elapsed + 1) % 4294967296) ∧ (¬ ahead → t.clk.elapsed = s.clk.elapsed) ∧
         t.clk.stray = s.clk.stray ∧ t.hds = s.hds ∧ t.snaps = s.snaps ∧ t.pins = s.pins) ∧
     (s.clk.tail = true → s.clk.seen = none → s.clk.phase ≤ 50 →
       (50 < at_ → at_ < 950 → s.clk.missing < 2 → exec (.secondPulse k) s = .next { s.elapse k with
         clk := { s.clk with phase := at_, tail := false, missing := s.clk.missing + 1, stray := oneMore s.clk.stray } }) ∧
       (∀ v, 50 < at_ → at_ < 1050 → s.clk.missing = 2 → s.clk.pend = some v →
         let set := { s.clk with day := v.day, sec := v.sec, offset := v.offset }
         ∃ t, exec (.secondPulse k) s = .next t ∧ t.clk.state = .locked ∧ t.clk.missing = 0 ∧ t.clk.pend = none ∧
           timeOf t.clk = (if 550 ≤ at_ then nextTime set else timeOf set) ∧ t.clk.stray = s.clk.stray ∧ t.hds = s.hds))) ∧
  (∀ s : State,
     (s.clk.state ≠ .locked → exec .pulseWindowClose s = .next s) ∧
     (s.clk.state = .locked → s.clk.tail = true → s.clk.phase ≤ 50 →
       (s.clk.missing < 2 → exec .pulseWindowClose s = .next
         { s.elapse (50 - s.clk.phase) with
           clk := { s.clk with phase := 50, tail := false, missing := s.clk.missing + 1 } }) ∧
       (s.clk.missing = 2 → s.clk.pend = none →
         ∃ t, exec .pulseWindowClose s = .next t ∧ t.clk.state = .holdover ∧ t.clk.missing = 3 ∧
           timeOf t.clk = timeOf s.clk ∧ t.txs = s.txs ∧ t.sch = s.sch ∧ t.hds = s.hds) ∧
       (∀ v, s.clk.missing = 2 → s.clk.pend = some v →
         ∃ t, exec .pulseWindowClose s = .next t ∧ t.clk.state = .free ∧ t.clk.missing = 0 ∧ t.clk.pend = none ∧
           timeOf t.clk = (v.day, v.sec, v.offset) ∧ t.hds = s.hds ∧ t.snaps = s.snaps)))

/-- R23, R26: SET-TIME is refused RANGE with the first field outside its range, held in LOCKED, and applied at once otherwise;
READ-TIME returns the clock from either port and changes nothing; in UNSET every part of station time is 0, where the clock is
within its ranges (EveryStepKeepsTheClockLegal). -/
def Obligations.TimeIsSetAndRead : Prop :=
  (∀ (s : State) (tag : Byte) (day sec : Nat) (offset : Option Nat), portFree .a s →
     (65535 < day → exec (.setTime .a tag day sec offset) s = .next (replied .a tag 0x08 (.refused .range 1) s)) ∧
     (day ≤ 65535 → 86399 < sec →
       exec (.setTime .a tag day sec offset) s = .next (replied .a tag 0x08 (.refused .range 2) s)) ∧
     (∀ o, day ≤ 65535 → sec ≤ 86399 → offset = some o → 6 < o →
       exec (.setTime .a tag day sec offset) s = .next (replied .a tag 0x08 (.refused .range 3) s)) ∧
     (day ≤ 65535 → sec ≤ 86399 → (∀ o, offset = some o → o ≤ 6) →
       (s.clk.state = .locked → exec (.setTime .a tag day sec offset) s =
         .next (replied .a tag 0x08 (.accepted (.timeSet false s.clk.day s.clk.sec .locked))
           { s with clk := { s.clk with pend := some ⟨day, sec, offset.getD s.clk.offset⟩ } })) ∧
       (s.clk.state ≠ .locked → ∃ t, exec (.setTime .a tag day sec offset) s = .next t ∧
         slotHolds .a tag (.accepted (.timeSet true day sec .free)) t ∧
         (∃ r, t.lnk.a.slot = some r ∧ r.header.day = day ∧ r.header.sec = sec) ∧ t.clk.state = .free ∧
         timeOf t.clk = (day, sec, offset.getD s.clk.offset) ∧ t.clk.phase = 0 ∧ t.clk.missing = 0 ∧
         t.clk.elapsed = s.clk.elapsed ∧
         t.clk.stray = s.clk.stray ∧ t.hds = s.hds ∧ t.snaps = s.snaps ∧ t.pins = s.pins))) ∧
  (∀ (s : State) (port : Port) (tag : Byte), portFree port s →
     exec (.readTime port tag) s = .next (replied port tag 0x09 (.accepted (.time s.clk.day s.clk.sec s.clk.offset
       (if s.clk.state = .unset then 0 else (s.clk.day + s.clk.offset) % 7) s.clk.state s.clk.missing s.clk.stray
       s.clk.elapsed s.clk.pend)) s) ∧
     (clockLegal s.clk → s.clk.state = .unset → exec (.readTime port tag) s = .next (replied port tag 0x09
       (.accepted (.time 0 0 0 0 .unset s.clk.missing s.clk.stray s.clk.elapsed s.clk.pend)) s)))

/-- R28 to R32, R55, R56: as a millisecond passes with no command waiting, a running channel whose gate is OPEN counts down and every
other channel stands. A rising edge starts the SYNC qualifier for 10 ms, the input's going off stops it, and its expiry is the
SYNC edge: with the arming SYNC_LINE it fires the changeover, promoting a SEALED bank and missing with any other. -/
def Obligations.TimersCountAndSyncIsQualified : Prop :=
  (∀ (s : State) (ch : ChanId), s.pending = [] →
    ∃ t, step s = .next t ∧
      t.chan ch = (if (s.chan ch).running = true ∧ s.gateOpen ch = true then
        { s.chan ch with remaining := (s.chan ch).remaining - 1 } else s.chan ch) ∧
      t.hds = s.hds ∧ t.sch = s.sch ∧ t.csq = s.csq ∧ t.txs = s.txs ∧ t.amx = s.amx ∧ t.swb = s.swb ∧ t.rfp = s.rfp ∧
      t.lnk = s.lnk ∧ t.snaps = s.snaps ∧ t.pins = s.pins) ∧
  (∀ s : State,
    (s.pins.sync = false → exec .syncRisingEdge s =
      .next (({ s with pins := { s.pins with sync := true } } : State).setChan .sync ⟨true, 10, 10⟩)) ∧
    (s.pins.sync = true → exec .syncRisingEdge s = .next s) ∧
    exec .syncInputOff s = .next (({ s with pins := { s.pins with sync := false } } : State).setChan .sync .stopped) ∧
    ((s.chan .sync).running = false ∨ s.pins.sync = false → exec .syncQualifierExpiry s = .next s) ∧
    ((s.chan .sync).running = true → s.pins.sync = true →
      ∃ t, exec .syncQualifierExpiry s = .next t ∧ (t.chan .sync).running = false ∧ t.pins = s.pins ∧ t.hds = s.hds ∧
        t.txs = s.txs ∧ t.csq = s.csq ∧ t.amx = s.amx ∧ t.swb = s.swb ∧ t.rfp = s.rfp ∧
        (s.sch.arming ≠ .syncLine → t.sch = s.sch ∧ t.lnk = s.lnk) ∧
        (s.sch.arming = .syncLine → t.sch.arming = .disarmed ∧
          (s.sch.staged.state ≠ .sealed → t.sch.active = s.sch.active ∧ t.sch.staged = s.sch.staged) ∧
          (s.sch.staged.state = .sealed → t.sch.staged = .emptyBank ∧
            ∃ b, t.sch.active = some b ∧ b.entries = s.sch.staged.entries.map (fun e => (e, false)) ∧
              b.generation = t.sch.lastGen ∧ b.generation = (if s.sch.lastGen < 65535 then s.sch.lastGen + 1 else 1)))))

/-- R34: what a copy of TXn holds, taken at this instant. -/
def Sys2Proof.Claims.copies (s : State) (n : TxId) (v : Snapshot) : Prop :=
  let c := s.ctx n
  (v.state, v.rf, v.tuned, v.tap, v.drive) = (c.state, c.rf, c.tuned, c.tap, c.drive) ∧
  (v.orderPending = true ↔ c.outstanding ≠ none ∨ c.deferred ≠ none ∨ c.unshown ≠ []) ∧
  (v.window, v.fold, v.recycleCount) = ((s.prot n).last, (s.prot n).fold, (s.prot n).recycleCount) ∧
  (∀ x, x ∈ v.timers ↔ ∃ k, (s.chan (.tx n k)).running = true ∧
    x = ⟨k, (s.chan (.tx n k)).remaining, !s.gateOpen (.tx n k)⟩) ∧
  (v.day, v.sec, v.clk) = (s.clk.day, s.clk.sec, s.clk.state) ∧ (v.setPending = true ↔ s.clk.pend ≠ none)

/-- R34: the effect of a sent order is shown by a STATE report. -/
def Sys2Proof.Claims.shows (r : StateReport) : Order → Prop
  | .warm => r.unit = .warming ∨ r.unit = .standby
  | .darken => r.unit = .dark
  | .tune _ => False
  | .rfOn _ => r.unit = .rfOn
  | .drive v => r.drive = v
  | .rfOff => r.rfOffConfirmed = true
  | .statusAsk => True

/-- R33 to R35: a copy holds what R34 lists, an order counting as pending until a report shows it; LATCH copies each named
transmitter whose slot is unlatched, all from one instant, and keeps the copies held; READ-SNAPSHOT returns the copy of a latched
slot and unlatches it, or the contents as they stand; a number outside its range or an undefined transmitter is refused, and
nothing is latched. That a longer or an empty list is refused RANGE, and RANGE before NO-SUCH, are the model's readings (logs 7
and 72). -/
def Obligations.SnapshotsLatchAndUnlatch : Prop :=
  (∀ (s : State) (n : TxId), copies s n (s.snapshotOf n) ∧ ∀ r o, o ∈ ((s.noteState n r).ctx n).unshown ↔
    o ∈ (s.ctx n).unshown ∧ ¬ shows r o) ∧
  (∀ (s : State) (port : Port) (tag : Byte), portFree port s → port = .a ∨ s.hds.hall.panelTelemetry = true →
     let line (n : TxId) : TxId × Bool × Nat × Nat := match s.snaps[n] with
       | some c => (n, false, c.day, c.sec)
       | none => (n, true, s.clk.day, s.clk.sec)
     let latched (named : TxId → Bool) : State := { s with snaps := Vector.ofFn fun n : Fin 16 => match s.snaps[n] with
       | some c => some c
       | none => if named n then some (s.snapshotOf n) else none }
     exec (.latch port tag none) s = .next (replied port tag 0x0A (.accepted (.latched (s.definedTx.map line)))
       (latched s.txDefined)) ∧
     (∀ l : List TxId, l ≠ [] → l.length ≤ 16 → (∀ n ∈ l, s.txDefined n = true) →
       exec (.latch port tag (some (l.map num))) s = .next (replied port tag 0x0A
         (.accepted (.latched (l.eraseDups.map line))) (latched fun n => l.contains n))) ∧
     (∀ l : List Nat, l = [] ∨ 16 < l.length ∨ (∃ k ∈ l, k = 0 ∨ 16 < k) →
       exec (.latch port tag (some l)) s = .next (replied port tag 0x0A (.refused .range 1) s)) ∧
     (∀ l : List TxId, l ≠ [] → l.length ≤ 16 → (∃ n ∈ l, s.txDefined n = false) →
       ∃ n ∈ l, s.txDefined n = false ∧
         exec (.latch port tag (some (l.map num))) s = .next (replied port tag 0x0A (.refused .noSuch (num n)) s))) ∧
  (∀ (s : State) (port : Port) (tag : Byte) (number : Nat) (n : TxId), portFree port s →
     port = .a ∨ s.hds.hall.panelTelemetry = true →
     (∀ k, k = 0 ∨ 16 < k → exec (.readSnapshot port tag k) s = .next (replied port tag 0x0B (.refused .range 1) s)) ∧
     (itemOf 16 number = some n → s.txDefined n = false →
       exec (.readSnapshot port tag number) s = .next (replied port tag 0x0B (.refused .noSuch number) s)) ∧
     (∀ c, itemOf 16 number = some n → s.txDefined n = true → s.snaps[n] = some c → exec (.readSnapshot port tag number) s =
       .next (replied port tag 0x0B (.accepted (.snapshot true c)) { s with snaps := s.snaps.set n none })) ∧
     (itemOf 16 number = some n → s.txDefined n = true → s.snaps[n] = none → exec (.readSnapshot port tag number) s =
       .next (replied port tag 0x0B (.accepted (.snapshot false (s.snapshotOf n))) s)))

/-! ## Schedule banks and season changeover (chapter 3) -/

/-- The state with a changed STAGED bank. -/
def Sys2Proof.Claims.withStaged (b : StagedBank) (s : State) : State := { s with sch := { s.sch with staged := b } }

/-- R38, R40 to R45, R189, section 3.2: the staging requests in each state of the STAGED bank; PUT-ENTRY and DROP-ENTRY on an
OPEN bank keep one entry of an ID and the order of the bank. That PUT-ENTRY's MALFORMED comes before its RANGE is the model's
reading (log 7). -/
def Obligations.StagingFollowsItsState : Prop :=
  (∀ (s : State) (tag : Byte), portFree .a s →
     let b := s.sch.staged
     (b.state = .empty → exec (.openStaging .a tag) s = .next (replied .a tag 0x10 (.accepted (.count 0))
       (withStaged { b with state := .open, entries := [], header := none } s))) ∧
     (b.state = .rejected → exec (.openStaging .a tag) s = .next (replied .a tag 0x10 (.accepted (.count b.entries.length))
       (withStaged { b with state := .open } s))) ∧
     (b.state = .validating → exec (.openStaging .a tag) s = .next (replied .a tag 0x10 (.refused .busy 0) s)) ∧
     (b.state = .open ∨ b.state = .sealed →
       exec (.openStaging .a tag) s = .next (replied .a tag 0x10 (.refused .state 0) s)) ∧
     (b.state = .validating → exec (.abortStaging .a tag) s = .next (replied .a tag 0x15
       (.accepted (.cursor b.pass b.position)) (withStaged { b with state := .open, standing := .aborted } s))) ∧
     (b.state ≠ .validating → exec (.abortStaging .a tag) s = .next (replied .a tag 0x15 (.refused .state 0) s)) ∧
     (b.state = .validating → exec (.discardStaging .a tag) s = .next (replied .a tag 0x16 (.refused .busy 0) s)) ∧
     (b.state = .empty → exec (.discardStaging .a tag) s = .next (replied .a tag 0x16 (.accepted .empty) s)) ∧
     (b.state = .open ∨ b.state = .sealed ∨ b.state = .rejected → exec (.discardStaging .a tag) s =
       .next (replied .a tag 0x16 (.accepted .empty) (withStaged .emptyBank s)))) ∧
  (∀ (s : State) (tag : Byte), portFree .a s → s.sch.staged.state ≠ .open →
     let why (detail : Nat) : Result :=
       if s.sch.staged.state = .validating then .refused .busy 0 else .refused .state detail
     (∀ f, exec (.putEntry .a tag f) s = .next (replied .a tag 0x11 (why 1) s)) ∧
     (∀ id, exec (.dropEntry .a tag id) s = .next (replied .a tag 0x12 (why 0) s)) ∧
     ∀ f, exec (.sealStaging .a tag f) s = .next (replied .a tag 0x14 (why 1) s)) ∧
  (∀ (s : State) (tag : Byte) (id : Nat), portFree .a s → s.sch.staged.state = .open →
     (id = 0 ∨ 65535 < id → exec (.dropEntry .a tag id) s = .next (replied .a tag 0x12 (.refused .range 1) s)) ∧
     (1 ≤ id → id ≤ 65535 → (∀ x ∈ s.sch.staged.entries, x.id ≠ id) →
       exec (.dropEntry .a tag id) s = .next (replied .a tag 0x12 (.refused .noSuch id) s)) ∧
     (1 ≤ id → id ≤ 65535 → (∃ x ∈ s.sch.staged.entries, x.id = id) →
       let l := s.sch.staged.entries.filter fun x => x.id ≠ id
       exec (.dropEntry .a tag id) s = .next (replied .a tag 0x12 (.accepted (.count l.length))
         (withStaged { s.sch.staged with entries := l } s)))) ∧
  (∀ (s : State) (tag : Byte) (f : EntryFields) (k : Nat), portFree .a s → s.sch.staged.state = .open →
     (entryMissing f = some k → exec (.putEntry .a tag f) s = .next (replied .a tag 0x11 (.refused .malformed k) s)) ∧
     (entryMissing f = none → entryFieldFault f = some k →
       exec (.putEntry .a tag f) s = .next (replied .a tag 0x11 (.refused .range k) s))) ∧
  (∀ (s : State) (tag : Byte) (f : EntryFields) (e : Entry), portFree .a s → s.sch.staged.state = .open →
     entryMissing f = none → entryFieldFault f = none → entryRecord f = some e →
     let old := s.sch.staged.entries
     let held : Prop := ∃ x ∈ old, x.id = e.id
     (¬ held → 1024 ≤ old.length →
       exec (.putEntry .a tag f) s = .next (replied .a tag 0x11 (.refused .full 1024) s)) ∧
     (held ∨ old.length < 1024 →
       ∃ (l : List Entry) (replaced : Bool), (replaced = true ↔ held) ∧
         exec (.putEntry .a tag f) s = .next (replied .a tag 0x11 (.accepted (.put replaced (positionOf e.id l) l.length))
           (withStaged { s.sch.staged with entries := l } s)) ∧
         (∀ x, x ∈ l ↔ x = e ∨ x ∈ old ∧ x.id ≠ e.id) ∧
         (old.Pairwise (fun x y => x.before y = true) → l.Pairwise fun x y => x.before y = true)))

/-- R16, R48, R49, R175: the pass-1 checks of an entry in their order; a recheck that is due marks exactly the entries that fail
them, clears the flag and tells the survey. Two entries of a season that ends before day 65535 overlap exactly where, under some
weekday offset, a valid occurrence of one intersects a valid occurrence of the other; intervals that meet end to start do not. -/
def Obligations.EntriesAreCheckedAndOverlapsFound : Prop :=
  ((∀ (s : State) (h : Header) (e : Entry),
     s.entryFault h e =
       (match s.txDef e.tx with
       | none => some .txUndefined
       | some d =>
         let days : Option ConflictKind :=
           if (∀ x ∈ e.firstDay, h.first ≤ x ∧ x ≤ h.last) ∧ (∀ x ∈ e.lastDay, h.first ≤ x ∧ x ≤ h.last) then none
           else some .days
         match e.path with
         | none => if d.bandLow ≤ e.freq ∧ e.freq ≤ d.bandHigh then days else some .txBand
         | some a => match s.antDef a with
           | none => some .antUndefined
           | some r =>
             if e.tx ∉ r.reach then some .notInReach
             else if ¬ (d.bandLow ≤ e.freq ∧ e.freq ≤ d.bandHigh) then some .txBand
             else if ¬ (r.bandLow ≤ e.freq ∧ e.freq ≤ r.bandHigh) then some .antBand
             else if ¬ e.beam < r.beams then some .beam
             else days)) ∧
  (∀ s : State,
     (s.sch.recheckDue = false → exec .bankRecheck s = .next s) ∧
     (∀ b, s.sch.recheckDue = true → s.sch.active = some b → b.recheck = true →
       ∃ t, exec .bankRecheck s = .next t ∧ t.sch.recheckDue = false ∧
         t.sch.active = some { b with
           entries := b.entries.map fun x => (x.1, (s.entryFault b.header x.1).isSome), recheck := false } ∧
         (∀ q, s.txs.survey = some q → t.txs.survey = some { q with
           recheckDone := true, disabled := (b.entries.filter fun x => (s.entryFault b.header x.1).isSome).length }) ∧
         t.txs.ctx = s.txs.ctx ∧ t.hds = s.hds ∧ t.csq = s.csq ∧ t.amx = s.amx ∧ t.swb = s.swb ∧ t.rfp = s.rfp ∧
         t.lnk = s.lnk ∧ t.clk = s.clk))) ∧
  (∀ (h : Header) (e f : Entry), h.last < 65535 → e.start < 1440 → f.start < 1440 → 0 < e.duration → 0 < f.duration →
    e.duration ≤ 1440 → f.duration ≤ 1440 →
    (e.overlaps h f = true ↔
      ∃ offset d d', offset < 7 ∧ e.validOn h offset d = true ∧ f.validOn h offset d' = true ∧
        e.startOn d < f.endOn d' ∧ f.startOn d' < e.endOn d))

/-- A conflict record kept among the first 16, or counted (R51). -/
def Sys2Proof.Claims.noted (k : Conflict) (b : StagedBank) : StagedBank :=
  if b.conflicts.length < 16 then { b with conflicts := b.conflicts ++ [k] } else { b with overflow := oneMore b.overflow }

/-- The cursor past an entry of pass 1, 2 or 3 that is not the last of pass 3 (R47). -/
def Sys2Proof.Claims.cursorOn (b : StagedBank) : StagedBank :=
  if b.position < b.entries.length then { b with position := b.position + 1 } else { b with pass := b.pass + 1, position := 1 }

/-- R50: f is the next entry of its transmitter after an occurrence of e under a weekday offset, less than the minimum later. -/
def Sys2Proof.Claims.tightPair (h : Header) (offset minimum : Nat) (mine : List Entry) (e : Entry) (id : Nat) : Prop :=
  ∃ f ∈ mine, f.id = id ∧ ∃ d x, e.validOn h offset d = true ∧ f.validOn h offset x = true ∧ e.endOn d ≤ f.startOn x ∧
    f.startOn x < e.endOn d + minimum ∧
    ∀ g ∈ mine, ∀ y, g.validOn h offset y = true → e.endOn d ≤ g.startOn y → f.startOn x ≤ g.startOn y

/-- R39, R43, R47 to R52: SEAL-STAGING stores the header and begins the sweep at pass 1, position 1; a step of the sweep records
what the entry at the cursor fails in pass 1, each later entry of its transmitter it overlaps in pass 2, where its tight pairs
are counted, and each later entry of its antenna it overlaps in pass 3; the end of a pass begins the next, and at the end of
pass 3 the bank is SEALED or REJECTED. One entry a step is the model's pace (log 30), the days looked at for tight pairs its
choice (log 42). -/
def Obligations.SealingSweepsTheBank : Prop :=
  (∀ (s : State) (tag : Byte) (f : SealFields), portFree .a s → s.sch.staged.state = .open → sealFieldFault f = none →
     let b := s.sch.staged
     (f.expected ≠ b.entries.length →
       exec (.sealStaging .a tag f) s = .next (replied .a tag 0x14 (.refused .conflict b.entries.length) s)) ∧
     (f.expected = b.entries.length → b.entries ≠ [] →
       exec (.sealStaging .a tag f) s = .next (replied .a tag 0x14 (.accepted (.count b.entries.length))
         (withStaged { b with
           state := .validating, header := some ⟨f.season, f.label, f.first, f.last⟩, pass := 1, position := 1
           conflicts := [], overflow := 0, willClamp := 0, tight := 0, standing := .inProgress } s))) ∧
     (f.expected = b.entries.length → b.entries = [] → s.sch.arming ≠ .onSeal →
       ∃ t, exec (.sealStaging .a tag f) s = .next t ∧ slotHolds .a tag (.accepted (.count 0)) t ∧
         t.sch.staged.state = .sealed ∧ t.sch.staged.standing = .complete ∧ t.sch.active = s.sch.active)) ∧
  (∀ s : State,
     let b := s.sch.staged
     (b.state ≠ .validating → exec .sweepStep s = .next s) ∧
     (∀ e rest, b.state = .validating → 1 ≤ b.position → b.entries.drop (b.position - 1) = e :: rest →
       let clash (kind : ConflictKind) (mine : Entry → Bool) : StagedBank :=
         (rest.filter fun f => mine f && e.overlaps b.season f).foldl (fun x f => noted ⟨kind, e.id, f.id⟩ x) b
       (b.pass = 1 →
         let u : StagedBank := { b with willClamp := b.willClamp + if s.willClamp e then 1 else 0 }
         exec .sweepStep s = .next (withStaged (cursorOn (match s.entryFault b.season e with
           | none => u
           | some k => noted ⟨k, e.id, 0⟩ u)) s)) ∧
       (b.pass = 2 → ∃ l : List Nat, l.Nodup ∧
         (s.hds.staticMin[e.tx] = none → l = []) ∧
         (∀ m, s.hds.staticMin[e.tx] = some m → (∀ f ∈ b.entries, f.start < 1440) →
           let mine := b.entries.filter fun f => decide (f.tx = e.tx)
           (∀ id ∈ l, tightPair b.season s.clk.offset m mine e id) ∧
           (e.duration ≤ 1440 → m ≤ 86400 → (∃ id, tightPair b.season s.clk.offset m mine e id) → l ≠ [])) ∧
         exec .sweepStep s = .next (withStaged (cursorOn
           { clash .txOverlap (fun f => decide (f.tx = e.tx)) with tight := b.tight + l.length }) s)) ∧
       (b.pass = 3 → rest ≠ [] → exec .sweepStep s = .next (withStaged (cursorOn
         (match e.path with
           | some a => clash .antOverlap fun f => decide (f.path = some a)
           | none => b)) s))) ∧
     (∀ e, b.state = .validating → b.pass = 3 → 1 ≤ b.position → b.entries.drop (b.position - 1) = [e] →
       s.sch.arming ≠ .onSeal →
       ∃ t, exec .sweepStep s = .next t ∧ t.sch.staged.standing = .complete ∧ t.sch.active = s.sch.active ∧
         t.sch.staged.entries = b.entries ∧
         (t.sch.staged.state = if b.conflicts = [] ∧ b.overflow = 0 then .sealed else .rejected) ∧
         t.hds = s.hds ∧ t.txs = s.txs ∧ t.csq = s.csq ∧ t.amx = s.amx ∧ t.swb = s.swb ∧ t.rfp = s.rfp))

/-- R53 to R57: ARM-CHANGEOVER replaces the arming; FIRE-CHANGEOVER is refused unless the arming is COMMAND, promotes a SEALED
bank with the next generation, and misses with any other; the arming is spent either way. A second handed to SCH at or past the
armed time fires AT_TIME likewise, and the first second of a day after the ACTIVE bank's LAST marks it expired, with
SEASON-EXPIRED once. The detail of a time refused as past is the model's reading (log 8). -/
def Obligations.ChangeoverIsArmedAndFired : Prop :=
  (∀ (s : State) (tag : Byte), portFree .a s →
     let armed (a : Arming) : State := { s with sch := { s.sch with arming := a } }
     (∀ day sec, 65535 < day →
       exec (.armChangeover .a tag (.atTime day sec)) s = .next (replied .a tag 0x17 (.refused .range 2) s)) ∧
     (∀ day sec, day ≤ 65535 → 86399 < sec →
       exec (.armChangeover .a tag (.atTime day sec)) s = .next (replied .a tag 0x17 (.refused .range 3) s)) ∧
     (∀ day sec, day ≤ 65535 → sec ≤ 86399 → s.clk.state = .unset →
       exec (.armChangeover .a tag (.atTime day sec)) s = .next (replied .a tag 0x17 (.refused .state 2) s)) ∧
     (∀ day sec, day ≤ 65535 → sec ≤ 86399 → s.clk.state ≠ .unset →
       s.clk.day * 86400 + s.clk.sec < day * 86400 + sec →
       exec (.armChangeover .a tag (.atTime day sec)) s =
         .next (replied .a tag 0x17 (.accepted (.arming (.atTime day sec) false)) (armed (.atTime day sec)))) ∧
     (∀ day sec, day ≤ 65535 → sec ≤ 86399 → s.clk.state ≠ .unset →
       day * 86400 + sec ≤ s.clk.day * 86400 + s.clk.sec →
       ∃ k, exec (.armChangeover .a tag (.atTime day sec)) s = .next (replied .a tag 0x17 (.refused .range k) s)) ∧
     exec (.armChangeover .a tag .command) s =
       .next (replied .a tag 0x17 (.accepted (.arming .command false)) (armed .command)) ∧
     exec (.armChangeover .a tag .syncLine) s =
       .next (replied .a tag 0x17 (.accepted (.arming .syncLine false)) (armed .syncLine)) ∧
     (s.sch.staged.state ≠ .sealed → exec (.armChangeover .a tag .onSeal) s =
       .next (replied .a tag 0x17 (.accepted (.arming .onSeal false)) (armed .onSeal))) ∧
     (s.sch.staged.state = .sealed → ∃ t, exec (.armChangeover .a tag .onSeal) s = .next t ∧
       slotHolds .a tag (.accepted (.arming .disarmed true)) t ∧ t.sch.staged = .emptyBank ∧
       ∃ b, t.sch.active = some b ∧ b.entries = s.sch.staged.entries.map fun e => (e, false)) ∧
     exec (.disarmChangeover .a tag) s =
       .next (replied .a tag 0x18 (.accepted (.arming s.sch.arming false)) (armed .disarmed))) ∧
  (∀ (s : State) (tag : Byte), portFree .a s →
     (s.sch.arming ≠ .command →
       exec (.fireChangeover .a tag) s = .next (replied .a tag 0x19 (.refused .state 0) s)) ∧
     (s.sch.arming = .command → s.sch.staged.state ≠ .sealed →
       ∃ t, exec (.fireChangeover .a tag) s = .next t ∧ slotHolds .a tag (.accepted (.missed s.sch.staged.state)) t ∧
         t.sch = { s.sch with arming := .disarmed } ∧ t.hds = s.hds ∧ t.txs = s.txs ∧ t.csq = s.csq ∧ t.amx = s.amx) ∧
     (s.sch.arming = .command → s.sch.staged.state = .sealed →
       ∃ t g, exec (.fireChangeover .a tag) s = .next t ∧ slotHolds .a tag (.accepted (.promoted g)) t ∧
         (g = if s.sch.lastGen < 65535 then s.sch.lastGen + 1 else 1) ∧ t.sch.lastGen = g ∧ t.sch.arming = .disarmed ∧
         t.sch.staged = .emptyBank ∧
         t.sch.active = some ⟨s.sch.staged.entries.map (fun e => (e, false)), s.sch.staged.season, g, false, false⟩ ∧
         t.sch.bookings = s.sch.bookings ∧ t.hds = s.hds ∧ t.txs = s.txs ∧ t.csq = s.csq ∧ t.amx = s.amx)) ∧
  (∀ s : State, s.clk.state ≠ .unset → (s.clk.state = .locked → s.clk.tail = false) →
     let x := nextTime s.clk
     let now := x.1 * 86400 + x.2.1
     ∃ t, exec .oscillatorSecond s = .next t ∧
       (∀ day sec, s.sch.arming = .atTime day sec →
         (now < day * 86400 + sec → t.sch.arming = s.sch.arming ∧ t.sch.staged = s.sch.staged ∧ t.sch.lastGen = s.sch.lastGen) ∧
         (day * 86400 + sec ≤ now → t.sch.arming = .disarmed ∧
           (s.sch.staged.state ≠ .sealed → t.sch.staged = s.sch.staged ∧ t.sch.lastGen = s.sch.lastGen) ∧
           (s.sch.staged.state = .sealed → t.sch.staged = .emptyBank ∧
             t.sch.lastGen = (if s.sch.lastGen < 65535 then s.sch.lastGen + 1 else 1) ∧
             ∃ b, t.sch.active = some b ∧ b.entries = s.sch.staged.entries.map (fun e => (e, false)) ∧
               b.header = s.sch.staged.season ∧ b.generation = t.sch.lastGen))) ∧
       ((∀ day sec, s.sch.arming = .atTime day sec → now < day * 86400 + sec) →
         t.sch.arming = s.sch.arming ∧ (s.sch.active = none → t.sch.active = none) ∧
         ∀ b, s.sch.active = some b →
           (b.expired = true ∨ x.1 ≤ b.header.last → t.sch.active = some b) ∧
           (b.expired = false → b.header.last < x.1 → t.sch.active = some { b with expired := true } ∧
             told s (.seasonExpired b.generation b.header.season b.header.label b.header.last) t)))

/-! ## Schedule evaluation and bookings (chapter 4) -/

/-- R73, R74: BOOK with a required field absent or a field outside its range; with every field present and in its range, the
checks 3 to 9 in their order, and an accepted booking put on the list under the lowest free ID, with nothing else changed. -/
def Obligations.BookingChecksStandInOrder : Prop :=
  (∀ (s : State) (tag : Byte) (f : BookFields) (k : Nat), portFree .a s →
    (bookMissing f = some k → exec (.book .a tag f) s = .next (replied .a tag 0x21 (.refused .malformed k) s)) ∧
    (bookMissing f = none → bookFieldFault f = some k →
      exec (.book .a tag f) s = .next (replied .a tag 0x21 (.refused .range k) s))) ∧
  ∀ (s : State) (tag : Byte) (f : BookFields) (n : TxId), portFree .a s → bookMissing f = none → bookFieldFault f = none →
    f.tx = some (num n) →
    let b := s.bookingFor 0 n f
    let answers (r : Result) : Prop := exec (.book .a tag f) s = .next (replied .a tag 0x21 r s)
    (s.clk.state = .unset → answers (.refused .state 3)) ∧
    (s.clk.state ≠ .unset →
      (s.txDef n = none → answers (.refused .noSuch (num n))) ∧
      (∀ d, s.txDef n = some d →
        (∀ a, b.path = some a → s.antDef a = none → answers (.refused .noSuch (num a))) ∧
        ((∀ a, b.path = some a → s.antDef a ≠ none) →
          ((s.ctx n).source ≠ .manual → answers (.refused .state 5)) ∧
          ((s.ctx n).source = .manual →
            (∀ k, s.pathFault n d b.freq b.path b.beam = some k → answers (.refused .range (pathPosition k))) ∧
            (s.pathFault n d b.freq b.path b.beam = none →
              (later s.now b.start = true → answers (.refused .range 6)) ∧
              (later s.now b.start = false →
                (∀ c rest l, s.sch.bookings = l ++ c :: rest → (∀ x ∈ l, b.overlaps x = false) → b.overlaps c = true →
                  answers (.refused .conflict c.id)) ∧
                ((∀ c ∈ s.sch.bookings, b.overlaps c = false) →
                  ((∀ k, 1 ≤ k → k ≤ 32 → ∃ c ∈ s.sch.bookings, c.id = k) → answers (.refused .full 32)) ∧
                  (∀ k, 1 ≤ k → k ≤ 32 → (∀ c ∈ s.sch.bookings, c.id ≠ k) →
                    (∀ j, 1 ≤ j → j < k → ∃ c ∈ s.sch.bookings, c.id = j) →
                    ∃ l, exec (.book .a tag f) s = .next (replied .a tag 0x21 (.accepted (.booked k b.start))
                        { s with sch := { s.sch with bookings := l } }) ∧
                      ∀ x, x ∈ l ↔ x = { b with id := k } ∨ x ∈ s.sch.bookings))))))))

/-- R61, R75 to R77: CANCEL-BOOKING takes the booking off the list and ends its record in service; SET-SOURCE is refused for a
transmitter with a plan and otherwise stores the setting. From MANUAL to AUTO, on a list of distinct IDs, exactly the bookings of
the transmitter that no LIVE record names leave, in the count the reply carries; a LIVE one and those of others stay. -/
def Obligations.BookingsEndAndSourcesChange : Prop :=
  (∀ (s : State) (tag : Byte) (id : Nat), portFree .a s →
     (id = 0 ∨ 32 < id → exec (.cancelBooking .a tag id) s = .next (replied .a tag 0x22 (.refused .range 1) s)) ∧
     (1 ≤ id → id ≤ 32 → (∀ b ∈ s.sch.bookings, b.id ≠ id) →
       exec (.cancelBooking .a tag id) s = .next (replied .a tag 0x22 (.refused .noSuch id) s)) ∧
     (∀ b, 1 ≤ id → id ≤ 32 → s.sch.bookings.find? (fun x => decide (x.id = id)) = some b →
       let target := TargetId.booking b.id b.start
       ∃ t, exec (.cancelBooking .a tag id) s = .next t ∧
         slotHolds .a tag (.accepted (.cancelled ((s.recordOf b.tx target).map (·.status)))) t ∧
         t.sch.bookings = s.sch.bookings.filter (fun x => !decide (x.id = id)) ∧
         (t.recordOf b.tx target).map (·.status) =
           (s.recordOf b.tx target).map (fun r => if r.inService then .done .cancelled else r.status) ∧
         t.hds = s.hds ∧ t.clk = s.clk ∧ t.snaps = s.snaps ∧ t.pins = s.pins)) ∧
  (∀ (s : State) (tag : Byte) (number : Nat) (src : Stored) (n : TxId), portFree .a s → itemOf 16 number = some n →
     (s.txDefined n = false →
       exec (.setSource .a tag number src) s = .next (replied .a tag 0x20 (.refused .noSuch number) s)) ∧
     (s.txDefined n = true → s.plan n ≠ none →
       exec (.setSource .a tag number src) s = .next (replied .a tag 0x20 (.refused .state 0) s)) ∧
     (s.txDefined n = true → s.plan n = none →
       ((s.ctx n).stored = src → exec (.setSource .a tag number src) s =
         .next (replied .a tag 0x20 (.accepted (.source (s.ctx n).source src 0)) s)) ∧
       ((s.ctx n).stored ≠ src → (s.ctx n).source = .localKey → exec (.setSource .a tag number src) s =
         .next (replied .a tag 0x20 (.accepted (.source .localKey src 0)) (s.updCtx n fun c => { c with stored := src }))) ∧
       (src = .manual → (s.ctx n).stored = .auto → (s.ctx n).source ≠ .localKey → exec (.setSource .a tag number src) s =
         .next (replied .a tag 0x20 (.accepted (.source .manual .manual 0))
           (s.updCtx n fun c => { c with stored := .manual, source := .manual }))) ∧
       (src = .auto → (s.ctx n).stored = .manual → (s.ctx n).source = .manual →
         ∃ t k, exec (.setSource .a tag number src) s = .next t ∧ slotHolds .a tag (.accepted (.source .auto .auto k)) t ∧
           t.ctx n = { s.ctx n with stored := .auto, source := .auto } ∧ (∀ m, m ≠ n → t.ctx m = s.ctx m) ∧
           k = (s.sch.bookings.filter fun b => decide (b.tx = n) && !s.bookingLive b).length ∧
           (∀ b ∈ t.sch.bookings, b ∈ s.sch.bookings ∧ (b.tx = n → s.bookingLive b = true)) ∧
           ((s.sch.bookings.map (·.id)).Nodup →
             ∀ b ∈ s.sch.bookings, b.tx ≠ n ∨ s.bookingLive b = true → b ∈ t.sch.bookings) ∧
           t.sch.occ = s.sch.occ ∧ t.csq = s.csq ∧ t.amx = s.amx ∧ t.hds = s.hds)))

/-- R62, R64: the decision for a covering target that is not recorded, for a transmitter that may be judged and has no plan
while the hall is RUNNING: a booking that no longer fits is MISSED, cause INVALID; a match is linked LIVE without a plan; a
start with too short a remainder is MISSED, cause LATE; any other is recorded. With no order deferred on its line. A transmitter
that may not be judged is left alone. -/
def Obligations.CoveringTargetIsDecided : Prop :=
  ∀ (s : State) (n : TxId) (c : Cand) (ended : Option TargetId),
    (s.unjudged n = true → s.decisionStage n ended = s) ∧
    (s.txs.hall = .running → s.unjudged n = false → s.plan n = none → (s.ctx n).deferred = none →
      s.covering n = some c → s.recorded n c.id = false →
      let t := s.decisionStage n ended
      let status := (t.recordOf n c.id).map (·.status)
      (s.invalidBooking n c = true → status = some (.missed .invalid)) ∧
      (s.invalidBooking n c = false → s.matching n c.setp = true → status = some .live ∧ t.plan n = none) ∧
      (s.invalidBooking n c = false → s.matching n c.setp = false → s.tooLate c = true → status = some (.missed .late)) ∧
      (s.invalidBooking n c = false → s.matching n c.setp = false → s.tooLate c = false → t.recorded n c.id = true))

/-! ## What the evaluator keeps and serves (chapter 4) -/

/-- R63, R65, R66, R68 to R70: the bookkeeping of a second ends a LIVE target whose interval is over or whose source has
changed, takes ended bookings that are not in service off the list, and records a disabled entry once. Then, for a transmitter
that may be judged: the next target is started toward once its planned duration reaches it, with GAP-EXTENDED where it follows
an end too closely; a transmitter with RF and no target is taken toward NONE; an idle one is darkened; HALTING starts nothing
toward an occurrence; and a plan whose target is no longer the one wanted takes a retarget, or is abandoned where its target has
ended. What HALTING leaves undone is the model's choice (log 68). -/
def Obligations.EvaluatorKeepsItsBooksAndServesTheNext : Prop :=
  (∀ (s : State) (n : TxId),
     let u := s.bookkeep n
     let ends (r : OccRec) (why : DoneReason) : Prop :=
       (u.1.recordOf n r.id).map (·.status) = some (.done why) ∧ u.2 = some r.id
     (∀ r, s.liveRec n = some r →
       (covers r.start r.finish s.now = false → ends r .ended) ∧
       (∀ c, covers r.start r.finish s.now = true → s.covering n = some c → c.id.isBooking ≠ r.id.isBooking → ends r .source) ∧
       (covers r.start r.finish s.now = true → (∀ c, s.covering n = some c → c.id.isBooking = r.id.isBooking) →
         u.2 = none ∧ u.1.occ n = s.occ n)) ∧
     (s.liveRec n = none → u.2 = none) ∧
     (∀ b ∈ u.1.sch.bookings, b ∈ s.sch.bookings ∧
       (b.tx = n → hasEnded b.finish s.now = true → s.inServiceRec n (.booking b.id b.start) = true)) ∧
     ∀ c, (s.ctx n).source = .auto → (∀ r, (s.occ n).cur = some r → r.inService = false) →
       (s.entryOccs n true).find? (fun x => covers x.start x.finish s.now && !s.recorded n x.id) = some c →
       (u.1.occ n).cur = some ⟨c.id, c.start, c.finish, .disabled, none, c.tag⟩ ∧ (u.1.occ n).prev = (s.occ n).cur) ∧
  ∀ (s : State) (n : TxId) (ended : Option TargetId), s.unjudged n = false →
    let c := s.ctx n
    let t := s.decisionStage n ended
    let serves : Prop := ∃ x, s.covering n = some x ∧ s.inServiceRec n x.id = true
    let due (x : Cand) : Prop := s.nextTarget n = some x ∧ ringSub x.start s.now ≤ s.plannedFor n x.setp
    let towardNone : Prop := ∃ p, t.plan n = some p ∧ p.target = none ∧ p.windDown = false ∧ p.holdPoint = s.csq.hold[n]
    (s.txs.hall = .running → s.plan n = none →
      (serves → t = s) ∧
      (s.covering n = none → c.rf ≠ .off → (s.liveRec n).isSome = true → t = s) ∧
      (∀ x, s.covering n = none → due x → c.rf = .off ∨ s.liveRec n = none →
        (∀ a, x.setp.path = some a → s.owned n = some a) →
        (∃ p, t.plan n = some p ∧ p.target = some x.id ∧ p.setp = some x.setp ∧ p.planned = some x.start ∧
          p.holdPoint = s.csq.hold[n]) ∧ t.inServiceRec n x.id = true ∧
        ∀ old, ended = some old → ringSub x.start s.now < s.plannedFor n x.setp →
          told s (.gapExtended n x.id old x.start (s.plannedFor n x.setp)
            (s.plannedFor n x.setp - ringSub x.start s.now)) t) ∧
      (s.covering n = none → (∀ x, ¬ due x) →
        (c.rf ≠ .off → s.liveRec n = none → towardNone ∧ t.sch = s.sch) ∧
        (c.rf = .off → c.state ≠ .standby → t = s) ∧
        ∀ d, c.rf = .off → c.state = .standby → s.txDef n = some d →
          (d.idleDarken = 0 ∨ (∃ x ∈ s.candidates n, 0 < ringSub x.start s.now ∧ ringSub x.start s.now ≤ d.idleDarken * 60) →
            t = s) ∧
          (0 < d.idleDarken → (∀ x ∈ s.candidates n, 0 < ringSub x.start s.now → d.idleDarken * 60 < ringSub x.start s.now) →
            c.declined = false → c.outstanding = none → c.deferred = none →
            ∃ o, (t.ctx n).outstanding = some o ∧ o.order = .darken ∧ t.sch = s.sch ∧ t.csq = s.csq))) ∧
    (s.txs.hall = .halting → s.plan n = none →
      t.sch = s.sch ∧ (serves ∨ c.rf = .off ∨ (s.liveRec n).isSome = true → t = s) ∧
      (¬ serves → c.rf ≠ .off → s.liveRec n = none → towardNone)) ∧
    ∀ p, s.txs.hall = .running ∨ s.txs.hall = .halting → s.plan n = some p →
      (s.targetDue n p = true → t = s) ∧
      (s.targetEnded n p = true → told s (.planAbandoned n p.concerned .targetEnded p.phase (s.windable n)) t) ∧
      (s.targetDue n p = false → s.targetEnded n p = false →
        let w := s.wanted n
        let late : Prop := p.phases.rampup = .running ∨ p.phases.rampup = .ended
        (w.map (·.id) = p.concerned ∨ late → t = s) ∧
        (w.map (·.id) ≠ p.concerned → ¬ late → s.amx.reask = [] → (∀ h ∈ s.amx.held, h.asker = .plan n → h.told = []) →
          ∃ q r, t.plan n = some q ∧ q.pend = some r ∧ r.target = w.map (·.id) ∧ r.setp = w.map (·.setp) ∧
            r.planned = w.map (·.start) ∧ q.target = p.target ∧ q.holdPoint = p.holdPoint ∧ q.atHold = false))

/-- R67: the planned duration is the ceiling, in whole seconds, of the sum of its terms in ms. The ramp counted for drive 100 where
the composition fails with LIMIT (log 88) and the free SEL-EST of an antenna no longer defined (log 105) are the model's. -/
def Obligations.PlannedDurationAddsItsTerms : Prop :=
  ∀ (s : State) (n : TxId) (q : Setpoint) (d : TxDef), s.txDef n = some d → 0 < d.rampStep →
    let c := s.ctx n
    let ramp (drive : Nat) : Nat := (drive + d.rampStep - 1) / d.rampStep * d.rampInterval
    let rampdown := if c.rf = .off then 0 else ramp c.drive
    let tune := match c.tuned with
      | none => d.tuneLong * 1000
      | some f => if f = q.freq then 0
        else if max f q.freq - min f q.freq ≤ d.shortSpan then d.tuneShort * 1000 else d.tuneLong * 1000
    let sel (a : AntId) : Nat := match s.antDef a with
      | some r => r.selEst * 1000
      | none => Config.freeSelEst (num a) * 1000
    let beamAway (a : AntId) : Bool := s.beamDefined a && !decide (s.pos (.beam a) = .atp (.beam q.beam))
    let release := match s.owned n with
      | some a => if q.path = some a then 0 else sel a
      | none => 0
    let path := match q.path with
      | none => release
      | some a => release + max (if s.owned n = some a then 0 else sel a)
          (if beamAway a then (match s.antDef a with
            | some r => r.beamEst * 1000
            | none => 0) else 0)
    let away : Prop := s.pos (.row n) = .atp .matrix ∨ s.pos (.row n) = .travelling .matrix ∨ s.pos (.row n) = .unknown
    let toload : Prop := away ∧ (tune ≠ 0 ∨ q.path = none ∨ s.owned n ≠ q.path ∨ ∃ a, q.path = some a ∧ beamAway a = true)
    let warm := if c.state = .dark then d.warmUp * 1000
      else if c.state = .warming then (s.chan (.tx n .warmUp)).remaining else 0
    let rampup := ramp (compose d q.power c.trim (s.pathRating d q.path) 0).d
    ∃ low matrix, (toload → low = d.rowEst * 1000) ∧ (¬ toload → low = 0) ∧
      (q.path ≠ none ∧ (s.pos (.row n) = .atp .load ∨ toload) → matrix = d.rowEst * 1000) ∧
      (¬ (q.path ≠ none ∧ (s.pos (.row n) = .atp .load ∨ toload)) → matrix = 0) ∧
      rampdown + low + max tune path + matrix + rampup + warm ≤ s.plannedFor n q * 1000 ∧
      s.plannedFor n q * 1000 < rampdown + low + max tune path + matrix + rampup + warm + 1000

/-! ## Transmitter contexts and hall lines (chapter 5) -/

/-- An RF-OFF is outstanding or deferred on the line of a context. -/
def Sys2Proof.Claims.rfOffOn (c : Ctx) : Prop :=
  (∃ o, c.outstanding = some o ∧ o.order = .rfOff) ∨ ∃ d, c.deferred = some d ∧ d.order = .rfOff

/-- An RF-ON is outstanding or deferred on the line of a context. -/
def Sys2Proof.Claims.rfOnOn (c : Ctx) : Prop :=
  (∃ o k, c.outstanding = some o ∧ o.order = .rfOn k) ∨ ∃ d k, c.deferred = some d ∧ d.order = .rfOn k

/-- The transmitter is defined and its line is UP. -/
def Sys2Proof.Claims.served (n : TxId) (s : State) : Prop := s.txDefined n = true ∧ (s.ctx n).lineUp = true

/-- R88: RF-ON and upward DRIVE may be sent: the path is fully confirmed, the hall is RUNNING or HALTING and the EMERGENCY line
is released. -/
def Sys2Proof.Claims.mayRadiate (n : TxId) (s : State) : Prop :=
  (s.txs.hall = .running ∨ s.txs.hall = .halting) ∧ s.pins.emergency = false ∧
  (s.pos (.row n) = .atp .load ∨
    s.pos (.row n) = .atp .matrix ∧ ∃ (a : AntId) (r : AntRun) (d : AntDef), s.pos (.sel a) = .atp (.tx n) ∧
      s.run a = some r ∧ r.service = .inService ∧ s.antDef a = some d ∧ s.amx.zone[d.zone] ≠ some true)

/-- R81, R82, R87, R88, R91, R92: the deferred order leaves once no order is outstanding, becomes outstanding with the order
accept channel at 1000 ms, and has its effects on the context; RF-ON and an upward DRIVE that R88 does not allow are not sent.
With an order outstanding, or none deferred, nothing leaves. -/
def Obligations.DeferredOrderIsSent : Prop :=
  ∀ (s : State) (n : TxId),
    let c := s.ctx n
    let go := exec (.deferredOrderSend n) s
    let sent (o : Order) (who : Asker) (t : State) : Prop :=
      go = .next t ∧ (t.ctx n).outstanding = some ⟨o, s.now, who, c.state, c.drive⟩ ∧ (t.ctx n).deferred = none ∧
      t.chan (.tx n .accept) = ⟨true, 1000, 1000⟩ ∧ (∀ m, m ≠ n → t.ctx m = s.ctx m ∧ t.prot m = s.prot m) ∧
      t.hds = s.hds ∧ t.sch = s.sch ∧ t.csq = s.csq ∧ t.amx = s.amx ∧ t.swb = s.swb ∧ t.lnk = s.lnk ∧ t.clk = s.clk ∧
      t.snaps = s.snaps ∧ t.pins = s.pins
    (c.outstanding.isSome = true ∨ c.deferred = none → go = .next s) ∧
    ∀ o who, c.outstanding = none → c.deferred = some ⟨o, who⟩ →
      (o = .rfOff → ∃ t, sent o who t ∧ (t.ctx n).rf = .unsure ∧ (t.ctx n).state = c.state ∧ (t.ctx n).drive = c.drive ∧
        (t.ctx n).ramp = none ∧ t.chan (.tx n .ramp) = .stopped ∧ t.chan (.tx n .rfOff) = ⟨true, 5000, 5000⟩) ∧
      (∀ k, o = .rfOn k → c.source ≠ .localKey → c.state = .ready ∨ c.state = .tripped ∧ who = .rfp → mayRadiate n s →
        ∃ t, sent o who t ∧ (t.ctx n).rf = .on ∧ (t.ctx n).state = .rampingUp ∧ (t.ctx n).drive = 0 ∧
          (t.ctx n).tap = some k ∧ t.chan (.tx n .ramp) = .stopped) ∧
      (∀ k, o = .rfOn k → ¬ mayRadiate n s →
        ∃ t, go = .next t ∧ (t.ctx n).outstanding = none ∧ (t.ctx n).deferred = none ∧ (t.ctx n).rf = c.rf) ∧
      (∀ v, o = .drive v → c.source ≠ .localKey →
        c.state = .rampingUp ∨ c.state = .onAir ∨ c.state = .rampingDown → c.rf = .on → v ≤ c.drive ∨ mayRadiate n s →
        ∃ t, sent o who t ∧ (t.ctx n).drive = v ∧ (t.ctx n).rf = .on ∧ (t.ctx n).state = c.state) ∧
      (∀ v, o = .drive v → c.drive < v → ¬ mayRadiate n s →
        ∃ t, go = .next t ∧ (t.ctx n).outstanding = none ∧ (t.ctx n).deferred = none ∧ (t.ctx n).drive = c.drive) ∧
      (∀ f, o = .tune f → c.source ≠ .localKey → c.state = .standby ∨ c.state = .ready → c.rf = .off →
        ∃ t, sent o who t ∧ (t.ctx n).rf = .off ∧ (t.ctx n).state = c.state) ∧
      (o = .warm → c.source ≠ .localKey → c.state = .dark → ∃ t, sent o who t ∧ (t.ctx n).state = .dark) ∧
      (o = .darken → c.source ≠ .localKey → c.state = .standby ∨ c.state = .ready → c.rf = .off → c.declined = false →
        ∃ t, sent o who t ∧ (t.ctx n).state = c.state) ∧
      (o = .statusAsk → c.source ≠ .localKey → ∃ t, sent o who t ∧ (t.ctx n).state = c.state ∧ (t.ctx n).rf = c.rf)

/-- R83, R89 to R91, R116, R160: ACCEPT and REJECT answer the outstanding order and stop its channel, and what each does by the
order it answers, with nothing deferred; a refused DRIVE leaves the drive last accepted. The DRIVE that ends the ramp of a
plan's RAMPUP takes the plan to DONE: its record becomes LIVE with ENTRY-STARTED, its antenna takes its kind and priority, and
it is removed. With no order outstanding they only retrigger the silence channel. -/
def Obligations.AcceptAndRejectAnswerTheOrder : Prop :=
  ∀ (s : State) (n : TxId) (why : Nat) (d : TxDef), s.txDef n = some d → (s.ctx n).lineUp = true →
    let c := s.ctx n
    let taken (i : Instr) (t : State) : Prop :=
      exec i s = .next t ∧ (t.ctx n).outstanding = none ∧ (t.ctx n).deferred = none ∧ (t.chan (.tx n .accept)).running = false ∧
      t.hds = s.hds ∧ t.snaps = s.snaps ∧ t.pins = s.pins ∧ t.clk = s.clk
    (c.outstanding = none → exec (.accept n) s = .next (s.retrigger (.tx n .silence)) ∧
      exec (.reject n why) s = .next (s.retrigger (.tx n .silence))) ∧
    ∀ o, c.outstanding = some o → c.deferred = none →
      (o.order = .warm → c.source ≠ .localKey → c.state = .dark → ∃ t, taken (.accept n) t ∧ (t.ctx n).state = .warming ∧
        t.chan (.tx n .warmUp) = if d.warmUp = 0 then s.chan (.tx n .warmUp) else ⟨true, d.warmUp * 1000, d.warmUp * 1000⟩) ∧
      (∀ f, o.order = .tune f → c.source ≠ .localKey → c.state = .standby ∨ c.state = .ready →
        ∃ t, taken (.accept n) t ∧ (t.ctx n).state = .tuning ∧ (t.ctx n).tuned = none ∧
          t.chan (.tx n .tune) = ⟨true, d.tuneTimeout * 1000, d.tuneTimeout * 1000⟩) ∧
      (∀ k r, o.order = .rfOn k → c.source ≠ .localKey → c.ramp = some r →
        ∃ t, taken (.accept n) t ∧ (t.ctx n).state = c.state ∧
          t.chan (.tx n .ramp) = ⟨true, d.rampInterval, d.rampInterval⟩) ∧
      (∀ r, o.order = .drive (s.prot n).d → c.source ≠ .localKey → c.ramp = some r → r.kind = .up →
        ∃ t, taken (.accept n) t ∧ (t.ctx n).state = .onAir ∧ (t.ctx n).ramp = none ∧ t.chan (.tx n .ramp) = .stopped ∧
          ∀ p q id rec, s.plan n = some p → p.setp = some q → p.target = some id → p.phases.rampup = .running → p.pend = none →
            p.deferFlags = false →
            (∀ ph, ph ≠ .rampup → ph ≠ .done → p.phases.get ph = .ended ∨ p.phases.get ph = .skipped) →
            s.recordOf n id = some rec → rec.status = .pending →
            t.plan n = none ∧ t.recordOf n id = some { rec with status := .live, onAir := some s.now } ∧
            told s (.entryStarted n id rec.tag s.now (s.prot n).clamped) t ∧
            ∀ a own, s.owned n = some a → s.owner a = some own →
              t.owner a = some { own with kind := q.kind.own, priority := q.priority }) ∧
      (o.order = .rfOff ∨ o.order = .statusAsk ∨ o.order = .darken →
        ∃ t, taken (.accept n) t ∧ t.ctx n = { c with outstanding := none }) ∧
      (o.order = .darken → ∃ t, taken (.reject n why) t ∧ (t.ctx n).declined = true ∧ (t.ctx n).state = c.state) ∧
      (o.order = .statusAsk → ∃ t, taken (.reject n why) t ∧ (t.ctx n).state = c.state ∧ (t.ctx n).rf = c.rf) ∧
      (o.order = .rfOff → c.state ≠ .unknown → ∃ t, taken (.reject n why) t ∧ (t.ctx n).state = .faulted ∧
        (t.ctx n).cause = some .rfOffUnconfirmed ∧ (t.ctx n).rf = c.rf ∧ (t.chan (.tx n .rfOff)).running = false) ∧
      (∀ k, o.order = .rfOn k → c.state = .rampingUp → ∃ t, taken (.reject n why) t ∧ (t.ctx n).state = o.before ∧
        (t.ctx n).rf = .unsure ∧ (t.ctx n).ramp = none) ∧
      (o.order = .drive c.drive → ∃ t, taken (.reject n why) t ∧ (t.ctx n).drive = o.was) ∧
      (∀ f, o.order = .warm ∨ o.order = .tune f → c.state ≠ .tripped →
        ∃ t, taken (.reject n why) t ∧ (t.ctx n).state = c.state ∧ (t.ctx n).rf = c.rf)

/-- The RF condition after a STATE report (R81). -/
def Sys2Proof.Claims.rfAfter (c : Ctx) (r : StateReport) (rf : Rf) : Prop :=
  (r.unit = .rfOn → rf = .on) ∧
  (r.unit ≠ .rfOn → r.rfOffConfirmed = true → ¬ rfOnOn c → rf = .off) ∧
  (r.unit ≠ .rfOn → r.rfOffConfirmed = false ∨ rfOnOn c → rf = c.rf)

/-- The unit states a context can explain (table of R96). -/
def Sys2Proof.Claims.explainedBy (c : Ctx) (u : UnitState) : Prop :=
  match c.state with
  | .dark => u = .dark ∨ u = .warming ∧ c.sentSince.warm = true
  | .warming => u = .dark ∨ u = .warming ∨ u = .standby
  | .standby => u = .standby ∨ u = .tuning ∧ c.sentSince.tune = true ∨ u = .dark ∧ c.sentSince.darken = true
  | .tuning => u = .standby ∨ u = .tuned ∨ u = .tuning
  | .ready => u = .tuned ∨ u = .tuning ∧ c.sentSince.tune = true ∨ u = .rfOn ∧ c.sentSince.rfOn = true ∨
      u = .dark ∧ c.sentSince.darken = true
  | .rampingUp => u = .tuned ∧ c.rfShown = false ∨ u = .rfOn ∨ (u = .tuned ∨ u = .standby) ∧ c.sentSince.rfOff = true
  | .onAir | .rampingDown => u = .rfOn ∨ (u = .tuned ∨ u = .standby) ∧ c.sentSince.rfOff = true
  | .tripped => u = .rfOn ∨ u = .tripped ∨ u = .tuned ∨ u = .standby
  | .unknown | .faulted => True

/-- R81, R89, R92, R93, R95, R96: a STATE report on a context neither UNKNOWN, FAULTED nor under LOCAL, that is neither a unit fault
nor a trip: after the warm-up has expired, the next one takes the context to STANDBY or faults it, cause WARM; another that the
context cannot explain faults it, cause MISMATCH; one it explains sets the RF condition and moves the context as the table of
section 5.4 says. R95: one that shows TRIPPED while the context carries RF, with no TRIP report since the last RF-ON and no order
on the line, sends RF-OFF, and RF is UNSURE until a later report confirms it. That RF_ON makes RF ON whatever the RF-off flag is
the model's reading (log 61), and so is that a trip report with the flag set does not confirm the RF-OFF it brings (log 93). A
report that returns the key is not checked: UnknownContextIsRebuiltAndKeyObeyed. -/
def Obligations.StateReportIsCheckedAgainstTheContext : Prop :=
  (∀ (s : State) (n : TxId) (r : StateReport), served n s → r.keyLocal = false → (s.ctx n).source ≠ .localKey →
    (s.ctx n).state = .rampingUp ∨ (s.ctx n).state = .onAir ∨ (s.ctx n).state = .rampingDown → (s.ctx n).tripSeen = false →
    (s.ctx n).outstanding = none → (s.ctx n).deferred = none → r.unit = .tripped →
    ∃ t, exec (.state n r) s = .next t ∧ (t.ctx n).last = some r ∧ (t.ctx n).rf = .unsure ∧
      (∃ o, (t.ctx n).outstanding = some o ∧ o.order = .rfOff) ∧ t.chan (.tx n .rfOff) = ⟨true, 5000, 5000⟩ ∧
      (t.chan (.tx n .ramp)).running = false ∧
      ((t.ctx n).state = .tripped ∨ (t.ctx n).state = .faulted ∧ (t.ctx n).cause = some .recycleLimit)) ∧
  ∀ (s : State) (n : TxId) (r : StateReport), served n s → r.keyLocal = false → s.txs.hall ≠ .emergency →
    let c := s.ctx n
    let awaits : Prop := c.state = .warming ∧ c.warmWait = .nextReport
    let carries : Prop := c.state = .rampingUp ∨ c.state = .onAir ∨ c.state = .rampingDown
    c.source ≠ .localKey → c.state ≠ .unknown → c.state ≠ .faulted → r.unit ≠ .fault → (carries → r.unit ≠ .tripped) →
    ∃ t, exec (.state n r) s = .next t ∧ (t.ctx n).last = some r ∧
      (awaits → (r.unit = .standby → (t.ctx n).state = .standby) ∧
        (r.unit ≠ .standby → (t.ctx n).state = .faulted ∧ (t.ctx n).cause = some .warm)) ∧
      (¬ awaits → ¬ explainedBy c r.unit → (t.ctx n).state = .faulted ∧ (t.ctx n).cause = some .mismatch) ∧
      (explainedBy c r.unit →
        (c.state = .standby ∨ c.state = .ready → r.unit = .dark → (t.ctx n).state = .dark ∧ (t.ctx n).tuned = none) ∧
        (∀ f, c.state = .tripped → r.freq = some f → (t.ctx n).tuned = some f) ∧
        (carries →
          (r.unit = .rfOn → (t.ctx n).state = c.state ∧ (t.ctx n).rf = .on ∧ ∀ f, r.freq = some f → (t.ctx n).tuned = some f) ∧
          (r.unit ≠ .rfOn → r.rfOffConfirmed = true → ¬ rfOnOn c → (s.chan (.tx n .rfOff)).running = true →
            (t.ctx n).rf = .off ∧ (t.ctx n).state = (if r.unit = .tuned then .ready else .standby) ∧
            (t.chan (.tx n .rfOff)).running = false)) ∧
        (c.state = .warming →
          (c.warmWait = .timed → (t.ctx n).state = .warming) ∧
          (c.warmWait = .untilStandby → (t.ctx n).state = if r.unit = .standby then .standby else .warming)))

/-- R81, R86, R97: the first STATE report on an UNKNOWN context, in a survey say, rebuilds it by the table. A key at LOCAL makes the
source in force LOCAL, keeps the stored setting, removes the plan and leaves no order but an RF-OFF in the deferred slot; a key
at REMOTE puts the stored setting back in force, and the context keeps the state it was last set to, whatever unit state the report
that returns the key shows: R96 does not check it. A FAULT shown by that report still faults the context (R94; log 62). That RF_ON
with the RF-off flag set is taken as ON is the model's reading (log 61). -/
def Obligations.UnknownContextIsRebuiltAndKeyObeyed : Prop :=
  (∀ (s : State) (n : TxId) (r : StateReport) (d : TxDef), s.txDef n = some d → (s.ctx n).lineUp = true →
    (s.ctx n).state = .unknown → (s.ctx n).lostUnknown = false → r.keyLocal = false → (s.ctx n).source ≠ .localKey →
    s.txs.hall ≠ .emergency → s.actFaulted (.row n) = false →
    ∃ t, exec (.state n r) s = .next t ∧
      let c := t.ctx n
      c.last = some r ∧ rfAfter (s.ctx n) r c.rf ∧ c.source = (s.ctx n).source ∧ c.trim = (s.ctx n).trim ∧
      (match r.unit with
        | .dark => c.state = .dark ∧ c.tuned = none
        | .warming => c.state = .warming ∧
            (d.warmUp ≠ 0 → t.chan (.tx n .warmUp) = ⟨true, d.warmUp * 1000, d.warmUp * 1000⟩) ∧
            (d.warmUp = 0 → (t.chan (.tx n .warmUp)).running = false)
        | .standby => c.state = .standby ∧ c.tuned = none
        | .tuning => c.state = .tuning ∧ t.chan (.tx n .tune) = ⟨true, d.tuneTimeout * 1000, d.tuneTimeout * 1000⟩
        | .tuned => c.state = .ready ∧ c.tuned = r.freq
        | .rfOn => c.state = .onAir ∧ c.tap = some r.tap ∧ c.drive = r.drive ∧ (∀ f, r.freq = some f → c.tuned = some f)
        | .tripped => c.state = (if r.freq.isSome then .ready else .standby)
        | .fault => c.state = .faulted ∧ c.cause = some .unit) ∧
      (∀ m, m ≠ n → t.ctx m = s.ctx m) ∧ t.hds = s.hds ∧ t.clk = s.clk ∧ t.snaps = s.snaps ∧ t.pins = s.pins) ∧
  (∀ (s : State) (n : TxId) (r : StateReport), served n s →
    ∃ t, exec (.state n r) s = .next t ∧ (t.ctx n).stored = (s.ctx n).stored ∧
      (r.keyLocal = true → (t.ctx n).source = .localKey) ∧
      (r.keyLocal = true → (s.ctx n).source ≠ .localKey →
        t.plan n = none ∧ ∀ d, (t.ctx n).deferred = some d → d.order = .rfOff) ∧
      (r.keyLocal = false → (s.ctx n).source = .localKey →
        (t.ctx n).source = (match (s.ctx n).stored with
          | .auto => .auto
          | .manual => .manual)) ∧
      (r.keyLocal = false → (s.ctx n).source ≠ .localKey → (t.ctx n).source = (s.ctx n).source)) ∧
  (∀ (s : State) (n : TxId) (r : StateReport), served n s → r.keyLocal = false → (s.ctx n).source = .localKey →
    (s.ctx n).state ≠ .unknown → (s.ctx n).state ≠ .tripped → (s.chan (.tx n .rfOff)).running = false →
    ∃ t, exec (.state n r) s = .next t ∧ (t.ctx n).last = some r ∧ (t.ctx n).tuned = (s.ctx n).tuned ∧
      (r.unit ≠ .fault → (t.ctx n).state = (s.ctx n).state ∧ (t.ctx n).cause = (s.ctx n).cause) ∧
      (r.unit = .fault → (t.ctx n).state = .faulted ∧
        (t.ctx n).cause = if (s.ctx n).state = .faulted then (s.ctx n).cause else some .unit))

/-- R28, R89, R90, R92, R94: TUNED, TUNE-FAIL and FAULT reports, by the state of the context, with the report that follows the
expiry of the tune channel (`tuneLate`); the ends of the warm-up, tune and RF-off confirmation channels; a stopped channel
delivers none. -/
def Obligations.UnitReportsAndTimedEndsMoveTheContext : Prop :=
  (∀ (s : State) (n : TxId), served n s →
    let c := s.ctx n
    (∀ f f', c.state = .tuning → c.tuneFreq = some f →
      ∃ t, exec (.tuned n f') s = .next t ∧ (t.chan (.tx n .tune)).running = false ∧
        (f' = f → (t.ctx n).state = .ready ∧ (t.ctx n).tuned = some f) ∧
        (f' ≠ f → (t.ctx n).state = .faulted ∧ (t.ctx n).cause = some .tune)) ∧
    (∀ f, c.state = .faulted → ∃ t, exec (.tuned n f) s = .next t ∧ (t.ctx n).state = .faulted ∧ (t.ctx n).cause = c.cause ∧
      (t.ctx n).tuneLate = false ∧ (t.ctx n).tuned = if c.tuneLate then some f else c.tuned) ∧
    (∀ f k, c.state ≠ .tuning → c.state ≠ .unknown →
      (c.state ≠ .faulted →
        ∃ t, exec (.tuned n f) s = .next t ∧ (t.ctx n).state = c.state ∧ (t.ctx n).tuned = c.tuned) ∧
      ∃ t, exec (.tuneFail n k) s = .next t ∧ (t.ctx n).state = c.state ∧ (t.ctx n).tuned = c.tuned ∧
        (t.ctx n).tuneLate = false) ∧
    (∀ f k, c.state = .unknown → exec (.tuned n f) s = .next (s.retrigger (.tx n .silence)) ∧
      exec (.tuneFail n k) s = .next (s.retrigger (.tx n .silence))) ∧
    (∀ k, c.state = .tuning → ∃ t, exec (.tuneFail n k) s = .next t ∧ (t.chan (.tx n .tune)).running = false ∧
      (t.ctx n).state = .faulted ∧ (t.ctx n).cause = some .tune) ∧
    ∀ f,
      let cause : FaultCause := match f with
        | .cooling => .cooling
        | .supply => .supply
        | .pa => .pa
        | .interlock => .interlock
      (c.state ≠ .unknown → c.state ≠ .faulted →
        ∃ t, exec (.fault n f) s = .next t ∧ (t.ctx n).state = .faulted ∧ (t.ctx n).cause = some cause ∧ t.plan n = none ∧
          (c.rf ≠ .off → rfOffOn (t.ctx n)) ∧ (t.chan (.tx n .warmUp)).running = false ∧
          (t.chan (.tx n .tune)).running = false ∧ (t.chan (.tx n .ramp)).running = false) ∧
      (c.state = .faulted → ∃ t, exec (.fault n f) s = .next t ∧ (t.ctx n).state = .faulted ∧
        (t.ctx n).cause = (if c.cause = some .unit then some cause else c.cause) ∧ t.lnk = s.lnk) ∧
      (c.state = .unknown → exec (.fault n f) s = .next (s.retrigger (.tx n .silence)))) ∧
  (∀ (s : State) (n : TxId),
    let c := s.ctx n
    let faults (i : Instr) (f : FaultCause) (ch : TxChan) : Prop :=
      ∃ t, exec i s = .next t ∧ (t.chan (.tx n ch)).running = false ∧ (t.ctx n).state = .faulted ∧ (t.ctx n).cause = some f ∧
        (t.ctx n).rf = c.rf ∧ t.plan n = none ∧ t.hds = s.hds ∧ t.snaps = s.snaps ∧ t.pins = s.pins
    ((s.chan (.tx n .warmUp)).running = false → exec (.warmUpExpiry n) s = .next s) ∧
    ((s.chan (.tx n .tune)).running = false → exec (.tuneExpiry n) s = .next s) ∧
    ((s.chan (.tx n .rfOff)).running = false → exec (.rfOffConfirmationExpiry n) s = .next s) ∧
    ((s.chan (.tx n .warmUp)).running = true → c.state = .warming →
      ∃ t, exec (.warmUpExpiry n) s = .next t ∧ (t.chan (.tx n .warmUp)).running = false ∧
        ((∃ r, c.last = some r ∧ r.unit = .standby) → (t.ctx n).state = .standby) ∧
        (¬ (∃ r, c.last = some r ∧ r.unit = .standby) → t.ctx n = { c with warmWait := .nextReport })) ∧
    ((s.chan (.tx n .tune)).running = true → c.state = .tuning → faults (.tuneExpiry n) .tune .tune ∧
      ∃ t, exec (.tuneExpiry n) s = .next t ∧ (t.ctx n).tuneLate = true ∧ (t.ctx n).tuned = c.tuned) ∧
    ((s.chan (.tx n .rfOff)).running = true → c.state ≠ .unknown →
      faults (.rfOffConfirmationExpiry n) .rfOffUnconfirmed .rfOff))

/-- R84: the context and the channels of a transmitter right after its line is marked LOST. -/
def Sys2Proof.Claims.lostLine (s : State) (n : TxId) (t : State) : Prop :=
  let c := t.ctx n
  c.lineUp = false ∧ c.state = .unknown ∧ c.rf = .unsure ∧ c.cause = none ∧ c.outstanding = none ∧ c.deferred = none ∧
  (c.owed = true ↔ (s.ctx n).owed = true ∨ rfOffOn (s.ctx n)) ∧ t.plan n = none ∧
  (∀ ch, ch ≠ .recycle → (t.chan (.tx n ch)).running = false) ∧
  t.amx.rowPos = s.amx.rowPos ∧ t.amx.selPos = s.amx.selPos ∧ (∀ m, m ≠ n → (t.ctx m).lineUp = (s.ctx m).lineUp) ∧
  t.hds = s.hds ∧ t.snaps = s.snaps ∧ t.pins = s.pins

/-- A report of TXn other than STATE. -/
def Sys2Proof.Claims.otherReport (n : TxId) (i : Instr) : Prop :=
  i = .accept n ∨ (∃ k, i = .reject n k) ∨ (∃ x y, i = .meter n x y) ∨ (∃ f, i = .tuned n f) ∨ (∃ k, i = .tuneFail n k) ∨
  (∃ u, i = .trip n u) ∨ ∃ w, i = .fault n w

/-- R84, R85: either channel's expiry marks the line LOST; the first report on a LOST line restores it, with RF-OFF first where
it is owed and STATUS-ASK behind it. A report of an undefined transmitter changes nothing (R1). -/
def Obligations.LinesAreLostAndRestored : Prop :=
  ∀ (s : State) (n : TxId),
    ((s.chan (.tx n .accept)).running = true → ∃ t, exec (.orderAcceptExpiry n) s = .next t ∧ lostLine s n t) ∧
    ((s.chan (.tx n .silence)).running = true → ∃ t, exec (.lineSilenceExpiry n) s = .next t ∧ lostLine s n t) ∧
    ((s.chan (.tx n .accept)).running = false → exec (.orderAcceptExpiry n) s = .next s) ∧
    ((s.chan (.tx n .silence)).running = false → exec (.lineSilenceExpiry n) s = .next s) ∧
    (∀ i, otherReport n i → s.txDefined n = true → (s.ctx n).lineUp = false →
      (s.ctx n).outstanding = none → (s.ctx n).deferred = none → (s.ctx n).source ≠ .localKey →
      ∃ t, exec i s = .next t ∧ (t.ctx n).lineUp = true ∧ t.chan (.tx n .silence) = ⟨true, 3000, 3000⟩ ∧
        (t.ctx n).state = (s.ctx n).state ∧ (t.ctx n).owed = false ∧
        ((s.ctx n).owed = true → (t.ctx n).outstanding.map (·.order) = some .rfOff ∧
          (t.ctx n).deferred.map (·.order) = some .statusAsk ∧ t.chan (.tx n .rfOff) = ⟨true, 5000, 5000⟩) ∧
        ((s.ctx n).owed = false → (t.ctx n).outstanding.map (·.order) = some .statusAsk ∧ (t.ctx n).deferred = none)) ∧
    (∀ r, s.txDefined n = true → (s.ctx n).lineUp = false →
      ∃ t, exec (.state n r) s = .next t ∧ (t.ctx n).lineUp = true ∧ (t.ctx n).last = some r) ∧
    (∀ i, otherReport n i ∨ (∃ r, i = .state n r) → s.txDefined n = false → exec i s = .next s)

/-- R98, R99, R100: READ-TX and READ-TRIM return what the contexts hold; TRIM stores the clamped value in the named contexts and
no other; CLEAR-FAULT makes its three checks in order and rebuilds the context, or waits for the bus. The details of the
refusals are the model's reading (log 8). -/
def Obligations.TrimsAndFaultClearing : Prop :=
  ∀ (s : State) (port : Port) (tag : Byte) (number : Nat), portFree port s →
    let v (x : Nat) : Nat := if x < 500 then 500 else if 1000 < x then 1000 else x
    (itemOf 16 number = none →
      exec (.readTx port tag number) s = .next (replied port tag 0x33 (.refused .range 1) s) ∧
      exec (.clearFault port tag number) s = .next (replied port tag 0x32 (.refused .range 1) s)) ∧
    (∀ x members, (itemOf 16 number = none → exec (.trim port tag (.tx number) x) s =
        .next (replied port tag 0x30 (.refused .range 2) s)) ∧
      (∀ g : GroupId, itemOf 4 number = some g → members = (s.hds.hall.groups[g]).filter (fun n => (s.txDef n).isSome) →
        (members = [] → exec (.trim port tag (.group number) x) s =
          .next (replied port tag 0x30 (.refused .noSuch number) s)) ∧
        (members ≠ [] → ∃ t, exec (.trim port tag (.group number) x) s = .next t ∧
          slotHolds port tag (.accepted (.trims (members.map fun n => (n, v x)) (if v x = x then [] else [3]))) t ∧
          (∀ n, (t.ctx n).trim = if n ∈ members then v x else (s.ctx n).trim) ∧ t.hds = s.hds) ∧
        (∀ n l, members = n :: l → exec (.readTrim port tag (.group number)) s =
          .next (replied port tag 0x31 (.accepted (.trimOf (s.ctx n).trim members)) s)))) ∧
    ∀ n, itemOf 16 number = some n →
      (s.txDefined n = false →
        exec (.readTx port tag number) s = .next (replied port tag 0x33 (.refused .noSuch number) s) ∧
        exec (.readTrim port tag (.tx number)) s = .next (replied port tag 0x31 (.refused .noSuch number) s) ∧
        exec (.clearFault port tag number) s = .next (replied port tag 0x32 (.refused .noSuch number) s)) ∧
      (s.txDefined n = true →
        let c := s.ctx n
        let bars (k : Nat) : Prop :=
          exec (.clearFault port tag number) s = .next (replied port tag 0x32 (.refused .state k) s)
        (exec (.readTx port tag number) s = .next (replied port tag 0x33 (.accepted (.tx
          { state := c.state, rf := c.rf, source := c.source, stored := c.stored, tuned := c.tuned, tap := c.tap
            drive := c.drive, trim := c.trim, lineUp := c.lineUp
            outstanding := c.outstanding.map fun o => (o.order, ringSub s.now o.sent)
            deferred := c.deferred.map (·.order), owed := c.owed, last := c.last, cause := c.cause, declined := c.declined }
          (s.pos (.row n)) (s.owned n) ((s.owned n).bind fun a => if s.beamDefined a then some (s.pos (.beam a)) else none)
          (s.reservation n) (s.linked n) ((s.plan n).map Plan.phase))) s)) ∧
        exec (.readTrim port tag (.tx number)) s = .next (replied port tag 0x31 (.accepted (.trimOf c.trim [n])) s) ∧
        (∀ x, ∃ t, exec (.trim port tag (.tx number) x) s = .next t ∧
          slotHolds port tag (.accepted (.trims [(n, v x)] (if v x = x then [] else [3]))) t ∧
          (∀ m, (t.ctx m).trim = if m = n then v x else (s.ctx m).trim) ∧ t.hds = s.hds) ∧
        (c.state ≠ .faulted → bars 1) ∧
        (c.state = .faulted →
          ((∃ r, c.last = some r ∧ r.unit = .fault) → bars 2) ∧
          (¬ (∃ r, c.last = some r ∧ r.unit = .fault) → c.rf ≠ .off → bars 3) ∧
          (∀ r, c.last = some r → r.unit ≠ .fault → c.rf = .off →
            (c.cause ≠ some .rowSwitch → c.cause ≠ some .adoption →
              ∃ t, exec (.clearFault port tag number) s = .next t ∧
                slotHolds port tag (.accepted (.cleared (t.ctx n).state)) t ∧ (t.ctx n).cause = none ∧
                (t.ctx n).state = (match r.unit with
                  | .dark => .dark
                  | .warming => .warming
                  | .standby => .standby
                  | .tuning => .tuning
                  | .tuned => .ready
                  | .rfOn => .onAir
                  | .tripped => if r.freq.isSome then .ready else .standby
                  | .fault => .faulted) ∧
                (c.cause = some .recycleLimit → (t.prot n).recycleCount = 0 ∧ (t.prot n).windowStart = some s.clk.elapsed) ∧
                t.hds = s.hds ∧ t.snaps = s.snaps) ∧
            (c.cause = some .rowSwitch ∨ c.cause = some .adoption →
              ∃ t, exec (.clearFault port tag number) s = .next t ∧ slotHolds port tag (.accepted .clearPending) t ∧
                (t.ctx n).state = .faulted ∧ (t.ctx n).cause = c.cause))))

/-- Every defined transmitter has RF condition OFF and no plan is in flight (R103). -/
def Sys2Proof.Claims.quiet (s : State) : Prop := (∀ n, s.txDefined n = true → (s.ctx n).rf = .off) ∧ ∀ n, s.plan n = none

/-- R101 to R105: START-HALL and HALT-HALL in each hall state, and the end of HALTING. The assertion of EMERGENCY takes the hall to
EMERGENCY, asks RF-OFF of every transmitter whose RF condition is not OFF, or owes it where the line is LOST, stops every ramp,
removes every plan and stops a survey; the release takes the hall to HALTED. A level that does not change brings nothing. -/
def Obligations.HallStartsHaltsAndGoesOff : Prop :=
  (∀ (s : State) (tag : Byte), portFree .a s →
    let starts (k : Nat) : Prop := exec (.startHall .a tag) s = .next (replied .a tag 0x34 (.refused .state k) s)
    (s.txs.hall ≠ .halted → starts 1) ∧
    (s.txs.hall = .halted → s.clk.state = .unset → starts 2) ∧
    (s.txs.hall = .halted → s.clk.state ≠ .unset → (∀ n, s.txDefined n = false) → starts 3) ∧
    (s.txs.hall = .halted → s.clk.state ≠ .unset → (∃ n, s.txDefined n = true) → s.pins.emergency = true → starts 4) ∧
    (s.txs.hall = .halted → s.clk.state ≠ .unset → (∃ n, s.txDefined n = true) → s.pins.emergency = false →
      ∃ t q, exec (.startHall .a tag) s = .next t ∧ slotHolds .a tag (.accepted .empty) t ∧
        t.txs.hall = .surveying ∧ t.txs.survey = some q ∧ t.hds = s.hds ∧ t.clk = s.clk ∧
        ∀ n, q.turns[n] = if s.txDefined n then some (if (s.ctx n).lineUp then .pending else .lost) else none) ∧
    (∀ now, s.txs.hall = .halted ∨ s.txs.hall = .surveying ∨ s.txs.hall = .emergency →
      exec (.haltHall .a tag now) s = .next (replied .a tag 0x35 (.refused .state 0) s)) ∧
    (∀ now, s.txs.hall = .running ∨ s.txs.hall = .halting →
      ∃ t, exec (.haltHall .a tag now) s = .next t ∧ slotHolds .a tag (.accepted (.hall t.txs.hall)) t ∧
        (t.txs.hall = .halting ∨ t.txs.hall = .halted) ∧
        (now = false → t.csq = s.csq ∧ t.txs.ctx = s.txs.ctx ∧ (t.txs.hall = .halted ↔ quiet s)) ∧
        (now = true → ∀ n p, s.txDefined n = true → t.plan n = some p → p.target = none) ∧ t.hds = s.hds ∧ t.clk = s.clk) ∧
    (s.txs.hall = .halting → quiet s → ∃ t, exec .hallAllOff s = .next t ∧ t.txs = { s.txs with hall := .halted } ∧
      t.hds = s.hds ∧ t.sch = s.sch ∧ t.csq = s.csq ∧ t.amx = s.amx ∧ t.swb = s.swb ∧ t.rfp = s.rfp) ∧
    (s.txs.hall ≠ .halting ∨ ¬ quiet s → exec .hallAllOff s = .next s)) ∧
  (∀ s : State,
    (s.pins.emergency = true → exec .emergencyAsserted s = .next s) ∧
    (s.pins.emergency = false →
      ∃ t, exec .emergencyAsserted s = .next t ∧ t.txs.hall = .emergency ∧ t.pins = { s.pins with emergency := true } ∧
        t.txs.survey = none ∧ (∀ n, t.plan n = none) ∧
        (∀ n, s.txDefined n = true →
          ((s.ctx n).rf ≠ .off → (s.ctx n).lineUp = true → rfOffOn (t.ctx n)) ∧
          ((s.ctx n).rf ≠ .off → (s.ctx n).lineUp = false → (t.ctx n).owed = true) ∧
          (t.chan (.tx n .ramp)).running = false) ∧
        t.hds = s.hds ∧ t.clk = s.clk ∧ t.snaps = s.snaps ∧ t.swb = s.swb) ∧
    (s.pins.emergency = false → exec .emergencyReleased s = .next s) ∧
    (s.pins.emergency = true →
      ∃ t, exec .emergencyReleased s = .next t ∧ t.pins = { s.pins with emergency := false } ∧
        t.txs = { s.txs with hall := if s.txs.hall = .emergency then .halted else s.txs.hall } ∧
        t.hds = s.hds ∧ t.clk = s.clk ∧ t.sch = s.sch ∧ t.csq = s.csq ∧ t.amx = s.amx ∧ t.swb = s.swb ∧ t.rfp = s.rfp))

/-! ## The changeover sequence (chapter 6) -/

/-- R117, R119, R125: READ-PLAN returns the plan, or the setting where there is none, from either port, and changes nothing;
SET-HOLD-POINT writes the settings and no plan; RELEASE-HOLD is taken only at hold and ends it. -/
def Obligations.HoldPointsAreSetAndReleased : Prop :=
  (∀ (s : State) (port : Port) (tag : Byte) (number : Nat), portFree port s →
    let reads (r : Result) : Prop := exec (.readPlan port tag number) s = .next (replied port tag 0x2A r s)
    (itemOf 16 number = none → reads (.refused .range 1)) ∧
    ∀ n, itemOf 16 number = some n →
      (s.txDefined n = false → reads (.refused .noSuch number)) ∧
      (s.txDefined n = true → s.plan n = none → reads (.accepted (.noPlan s.csq.hold[n]))) ∧
      (∀ p, s.txDefined n = true → s.plan n = some p → reads (.accepted (.plan p)))) ∧
  ∀ (s : State) (tag : Byte) (number : Nat), portFree .a s →
    let refuses (r : Request) (why : Reason) (k : Nat) (i : Instr) : Prop :=
      exec i s = .next (replied .a tag (kindOf r) (.refused why k) s)
    (∀ hp, exec (.setHoldPoint .a tag none hp) s =
      .next (replied .a tag 0x28 (.accepted (.holdPoints ((allTx.filter s.txDefined).map fun n => (n, hp))))
        { s with csq := { s.csq with
          hold := Vector.ofFn fun n : Fin 16 => if s.txDefined n then hp else s.csq.hold[n] } })) ∧
    (itemOf 16 number = none → (∀ hp, refuses (.setHoldPoint (some number) hp) .range 1 (.setHoldPoint .a tag (some number) hp)) ∧
      refuses (.releaseHold number) .range 1 (.releaseHold .a tag number)) ∧
    ∀ n, itemOf 16 number = some n →
      (s.txDefined n = false → (∀ hp, refuses (.setHoldPoint (some number) hp) .noSuch number
          (.setHoldPoint .a tag (some number) hp)) ∧
        refuses (.releaseHold number) .noSuch number (.releaseHold .a tag number)) ∧
      (s.txDefined n = true →
        (∀ hp, exec (.setHoldPoint .a tag (some number) hp) s = .next (replied .a tag 0x28 (.accepted (.holdPoints [(n, hp)]))
          { s with csq := { s.csq with hold := s.csq.hold.set n hp } })) ∧
        (s.plan n = none → refuses (.releaseHold number) .state 0 (.releaseHold .a tag number)) ∧
        (∀ p, s.plan n = some p →
          (p.atHold = false → refuses (.releaseHold number) .state 0 (.releaseHold .a tag number)) ∧
          (p.atHold = true → p.phases.rampup = .waiting →
            (p.holdPoint = .beforeRf →
              let q := { p with atHold := false, phases := { p.phases with hold := .ended } }
              exec (.releaseHold .a tag number) s = .next (replied .a tag 0x29 (.accepted (.entered q.phase))
                (s.setPlan n (some q)))) ∧
            (p.holdPoint = .afterTune →
              let q := { p with atHold := false, holdReleased := true }
              exec (.releaseHold .a tag number) s = .next (replied .a tag 0x29 (.accepted (.entered q.phase))
                (s.setPlan n (some q)))))))

/-- The phases each phase waits for (R108). -/
def Sys2Proof.Claims.waitsFor : Phase → List Phase
  | .warm | .claim => []
  | .rampdown => [.warm]
  | .rfOff => [.warm, .rampdown]
  | .toLoad => [.warm, .rampdown, .rfOff]
  | .release | .tune => [.warm, .rampdown, .rfOff, .toLoad]
  | .pathOut => [.warm, .rampdown, .rfOff, .toLoad, .release, .claim]
  | .toMatrix => [.warm, .rampdown, .rfOff, .toLoad, .release, .tune, .claim, .pathOut]
  | .hold => [.warm, .rampdown, .rfOff, .toLoad, .release, .tune, .claim, .pathOut, .toMatrix]
  | .rampup => [.warm, .rampdown, .rfOff, .toLoad, .release, .tune, .claim, .pathOut, .toMatrix, .hold]
  | .done => [.warm, .rampdown, .rfOff, .toLoad, .release, .tune, .claim, .pathOut, .toMatrix, .hold, .rampup]

/-- A phase may begin (R108): it is WAITING, what it waits for is ENDED or SKIPPED, no unreleased AFTER_TUNE hold stands before
TO_MATRIX or RAMPUP, the flags are set, and no retarget is pending. -/
def Sys2Proof.Claims.phaseReady (p : Plan) (ph : Phase) : Prop :=
  p.phases.get ph = .waiting ∧ (∀ q ∈ waitsFor ph, p.phases.get q = .ended ∨ p.phases.get q = .skipped) ∧
  ¬ (p.holdPoint = .afterTune ∧ p.setp ≠ none ∧ p.holdReleased = false ∧ (ph = .toMatrix ∨ ph = .rampup)) ∧
  p.deferFlags = false ∧ p.pend = none

/-- R108 to R116, R128: a phase that may not begin does not, and what each phase asks as it begins: TXS for the orders and the
ramp down, AMX for the moves and the claim. That a phase waits too for what its SKIPPED predecessors wait for is the model's choice
(log 99). -/
def Obligations.PhasesMakeTheirRequests : Prop :=
  ∀ (s : State) (n : TxId) (ph : Phase),
    let c := s.ctx n
    let go := exec (.phaseBegin n ph) s
    (s.plan n = none → go = .next s) ∧
    ∀ p, s.plan n = some p →
      let running := { p with phases := p.phases.put ph .running }
      let asks (o : Order) (t : State) : Prop := go = .next t ∧ t.plan n = some running ∧
        (∃ x, (t.ctx n).outstanding = some x ∧ x.order = o) ∧ t.chan (.tx n .accept) = ⟨true, 1000, 1000⟩ ∧ t.amx = s.amx ∧
        t.swb = s.swb ∧ t.hds = s.hds ∧ t.sch = s.sch
      let moves (act : ActId) (q : Place) (t : State) : Prop := go = .next t ∧
        (∃ h ∈ t.amx.held, h.act = act ∧ h.place = q ∧ h.asker = .plan n) ∧
        t.plan n = some { running with awaiting := p.awaiting ++ [(act, q)] } ∧ t.swb = s.swb ∧ t.txs = s.txs ∧ t.hds = s.hds
      (ph = .done ∨ ¬ phaseReady p ph → go = .next s) ∧
      (phaseReady p ph →
        (ph = .warm → served n s → c.source ≠ .localKey → c.state = .dark → c.outstanding = none → ∃ t, asks .warm t) ∧
        (ph = .rampdown → c.rf = .on → c.state = .rampingUp ∨ c.state = .onAir → s.rfOffInHand n = false →
          (∀ r, c.ramp = some r → r.kind ≠ .down) →
          ∃ t, go = .next t ∧ t.plan n = some running ∧ (t.ctx n).state = .rampingDown ∧
            (t.ctx n).ramp = some ⟨.down, c.drive, 0, true⟩ ∧
            (∀ d, s.txDef n = some d → t.chan (.tx n .ramp) = ⟨true, d.rampInterval, d.rampInterval⟩)) ∧
        (ph = .rfOff → c.rf ≠ .off → s.rfOffInHand n = true → go = .next (s.setPlan n (some running))) ∧
        (ph = .rfOff → c.rf ≠ .off → s.rfOffInHand n = false → served n s → c.source ≠ .localKey → c.outstanding = none →
          ∃ t, asks .rfOff t ∧ (t.ctx n).rf = .unsure ∧ t.chan (.tx n .rfOff) = ⟨true, 5000, 5000⟩) ∧
        (ph = .toLoad → s.pos (.row n) ≠ .atp .load → s.pos (.row n) ≠ .travelling .load → s.actFaulted (.row n) = false →
          ∃ t, moves (.row n) .load t) ∧
        (ph = .toLoad → s.pos (.row n) = .travelling .load →
          go = .next (s.setPlan n (some { running with awaiting := p.awaiting ++ [(.row n, .load)] }))) ∧
        (∀ a, ph = .release → s.owned n = some a → s.pos (.sel a) ≠ .atp .ground → s.pos (.sel a) ≠ .travelling .ground →
          s.actFaulted (.sel a) = false → ∃ t, moves (.sel a) .ground t) ∧
        (∀ q, ph = .tune → p.setp = some q → served n s → c.source ≠ .localKey → c.state = .standby ∨ c.state = .ready →
          c.rf = .off → c.outstanding = none → ∃ t, asks (.tune q.freq) t) ∧
        (∀ q a r d, ph = .claim → p.setp = some q → q.path = some a → p.claimAnt = none → s.run a = some r →
          s.antDef a = some d → n ∈ d.reach → r.service = .inService → r.owner = none → r.queue = [] →
          s.amx.zone[d.zone] ≠ some true → s.owned n = none → s.reservation n = none →
          ∃ t v, go = .next t ∧ t.owner a = some ⟨n, q.kind.own, q.priority, s.now⟩ ∧ t.plan n = some v ∧ v.claim = .granted ∧
            v.phases.claim = .ended) ∧
        (∀ q a, ph = .pathOut → p.setp = some q → q.path = some a →
          (p.needsPath = true → s.pos (.sel a) ≠ .atp (.tx n) ∧ s.actFaulted (.sel a) = false) →
          (p.needsBeam = true → s.pos (.beam a) ≠ .atp (.beam q.beam) ∧ s.actFaulted (.beam a) = false) →
          ∃ t, go = .next t ∧ t.swb = s.swb ∧ t.txs = s.txs ∧ t.hds = s.hds ∧
            t.plan n = some { running with awaiting := p.awaiting ++
              ((if p.needsPath then [(ActId.sel a, Place.tx n)] else []) ++
                if p.needsBeam then [(ActId.beam a, Place.beam q.beam)] else []) } ∧
            (p.needsPath = true → ∃ h ∈ t.amx.held, h.act = .sel a ∧ h.place = .tx n ∧ h.asker = .plan n) ∧
            (p.needsBeam = true → ∃ h ∈ t.amx.held, h.act = .beam a ∧ h.place = .beam q.beam ∧ h.asker = .plan n)) ∧
        (ph = .toMatrix → s.pos (.row n) ≠ .atp .matrix → s.pos (.row n) ≠ .travelling .matrix →
          s.actFaulted (.row n) = false → ∃ t, moves (.row n) .matrix t) ∧
        (ph = .hold → ∃ t, go = .next t ∧ t.plan n = some { running with atHold := true } ∧ t.txs = s.txs ∧ t.amx = s.amx) ∧
        (∀ q d, ph = .rampup → p.setp = some q → s.txDef n = some d → c.lineUp = true → c.source ≠ .localKey →
          c.state = .ready → c.outstanding = none → mayRadiate n s →
          let k := compose d q.power c.trim (s.pathRating d q.path) 0
          k.limit = false → ∃ t, asks (.rfOn k.tap) t ∧ (t.ctx n).state = .rampingUp ∧ (t.ctx n).rf = .on ∧
            (t.ctx n).drive = 0 ∧ (t.prot n).fold = 0 ∧ (t.prot n).run = 0 ∧ (t.prot n).d = k.d ∧ (t.prot n).taps = none))

/-- R107, R120, R129: a pending retarget waits while a request of the plan is in progress, and then replaces the setpoint, the planned
and the predicted second, with the flags computed anew; the claim second stays with the antenna it was taken for. Stated for
targets that need no claim. -/
def Obligations.RetargetTakesEffect : Prop :=
  ∀ (s : State) (n : TxId),
    let c := s.ctx n
    (s.plan n = none → exec (.retargetEffect n) s = .next s) ∧
    ∀ p, s.plan n = some p →
      let busy : Prop := p.phases.warm = .running ∨ p.phases.rampdown = .running ∨ p.phases.rfOff = .running ∨
        p.phases.tune = .running ∨ p.awaiting ≠ []
      (p.pend = none ∨ busy → exec (.retargetEffect n) s = .next s) ∧
      ∀ r, p.pend = some r → ¬ busy → c.state ≠ .tuning →
        let takes (t : State) (v : Plan) : Prop :=
          exec (.retargetEffect n) s = .next t ∧ t.plan n = some v ∧ v.target = r.target ∧ v.setp = r.setp ∧
          v.planned = r.planned ∧ v.predicted = ringAdd s.now r.d ∧ v.pend = none ∧ v.holdPoint = p.holdPoint ∧
          v.claimSec = (if p.claimAnt = r.setp.bind (·.path) then p.claimSec else none) ∧
          t.txs = s.txs ∧ t.amx = s.amx ∧ t.swb = s.swb ∧ t.sch = s.sch ∧ t.hds = s.hds
        (∀ q, r.setp = some q → (∀ a, q.path = some a → s.owned n = some a) →
          ∃ t v, takes t v ∧ (v.needsRetune = true ↔ c.tuned ≠ some q.freq) ∧
            (v.needsRelease = true ↔ ∃ a, s.owned n = some a ∧ q.path ≠ some a) ∧ v.needsPath = false ∧
            (v.needsBeam = true ↔ ∃ a, q.path = some a ∧ s.beamDefined a = true ∧ s.pos (.beam a) ≠ .atp (.beam q.beam)) ∧
            v.phases.rampup = .waiting) ∧
        (r.setp = none → c.rf = .on →
          ∃ t v, takes t v ∧ v.phases.rfOff = .waiting ∧ v.phases.tune = .skipped ∧ v.phases.claim = .skipped ∧
            v.phases.pathOut = .skipped ∧ v.phases.toMatrix = .skipped ∧ v.phases.hold = .skipped ∧ v.phases.rampup = .skipped)

/-- R121 to R123: a cause that reaches a transmitter. A plan is abandoned, with its notice, its record lost and its moves
withdrawn, and becomes a wind-down toward NONE that keeps its hold point and its predicted second, or is removed where it cannot
wind down; a wind-down is removed by a cause that bars it, or by a fault of an actuator it waits for, and by nothing else. A
transmitter on air with no plan loses its LIVE target and winds down, with the transmitter's own hold point, unless the cause
bars it; one that is not on air is left alone. That a wind-down with a retarget pending is taken as a wind-down, that the
predicted second is kept, and that a claim standing GRANTED goes too, are the model's choices (logs 67, 23 and 74). -/
def Obligations.CausesAbandonPlansAndTakeTheRfDown : Prop :=
  ∀ (s : State) (n : TxId) (cause : Cause),
    let c := s.ctx n
    let t := s.causeReaches n cause
    let hard : Prop := cause = .lineLost ∨ cause = .localKey ∨ cause = .txFault ∨ cause = .emergency
    let windable : Prop := c.lineUp = true ∧ c.source ≠ .localKey ∧ c.state ≠ .faulted ∧ s.txs.hall ≠ .emergency
    let lost (id : TargetId) : Prop := ∀ r, s.recordOf n id = some r → r.status = .pending ∨ r.status = .live →
      (t.recordOf n id).map (·.status) = some (if cause = .preempted then .preempted else .missed (.abandoned cause))
    let winds (hp : HoldPoint) : Prop :=
      (∀ q, t.plan n = some q → q.target = none ∧ q.setp = none ∧ q.windDown = true ∧ q.cause = some cause ∧
        q.holdPoint = hp ∧ q.pend = none ∧ q.claim = .none ∧ q.atHold = false ∧ q.awaiting = []) ∧
      (c.rf ≠ .off → t.plan n ≠ none)
    (∀ p, s.plan n = some p → p.windDown = true →
      (hard → t.plan n = none ∧ t.sch = s.sch) ∧ (¬ hard → t = s) ∧
      ∀ act, ((∃ q, (act, q) ∈ p.awaiting) → (s.planActuatorFault n act).plan n = none) ∧
        ((∀ q, (act, q) ∉ p.awaiting) → s.planActuatorFault n act = s)) ∧
    (∀ p, s.plan n = some p → p.windDown = false →
      told s (.planAbandoned n p.concerned cause p.phase (s.windable n)) t ∧ (s.windable n = true ↔ windable) ∧
      (∀ id, p.concerned = some id → lost id) ∧ (t.prot n).waiting = false ∧ (∀ h ∈ t.amx.held, h.asker ≠ .plan n) ∧
      (windable → winds p.holdPoint ∧ ∀ q, t.plan n = some q → q.predicted = p.predicted) ∧
      (¬ windable → t.plan n = none) ∧ t.hds = s.hds ∧ t.swb = s.swb ∧ t.clk = s.clk ∧ t.csq.hold = s.csq.hold) ∧
    (s.plan n = none →
      let onAir : Prop := s.liveRec n ≠ none ∨
        c.state = .onAir ∧ ∃ a o, s.owned n = some a ∧ s.owner a = some o ∧ o.kind = .adopted
      (¬ onAir → t = s) ∧
      (onAir → (∀ r, s.liveRec n = some r → lost r.id) ∧ (t.prot n).waiting = false ∧
        (hard ∨ ¬ windable → t.plan n = none) ∧ (¬ hard → windable → winds s.csq.hold[n])))

/-! ## The antenna matrix (chapter 7) -/

/-- R140, R141, R144: SET-ANT-SERVICE, from either port, and CLEAR-SUSPECT by the service the antenna holds: OUT ends a service
query that is pending, also where the service is OUT(HOST) already; IN queries each actuator of the antenna in FAULT, the
selector or the beam drive alone too, and otherwise restores the service; either form of IN withdraws AMX's grounding move. -/
def Obligations.AntennaServiceChanges : Prop :=
  ∀ (s : State) (port : Port) (tag : Byte) (number : Nat), portFree port s →
    let out := exec (.setAntServiceOut port tag number) s
    let back := exec (.setAntServiceIn port tag number) s
    let clear := exec (.clearSuspect port tag number) s
    let refused (kind : Byte) (why : Reason) (k : Nat) := replied port tag kind (.refused why k) s
    (itemOf 40 number = none → out = .next (refused 0x38 .range 1) ∧ back = .next (refused 0x38 .range 1) ∧
      (port = .a → clear = .next (refused 0x39 .range 1))) ∧
    ∀ a, itemOf 40 number = some a →
      (s.antDefined a = false → out = .next (refused 0x38 .noSuch number) ∧ back = .next (refused 0x38 .noSuch number) ∧
        (port = .a → clear = .next (refused 0x39 .noSuch number))) ∧
      ∀ r, s.antDefined a = true → s.run a = some r →
        let inFault (act : ActId) : Prop :=
          (act = .sel a ∨ act = .beam a ∧ s.beamDefined a = true) ∧ s.actFaulted act = true
        (r.service = .outHost → out = .next (replied port tag 0x38
          (.accepted (.serviceOut .outHost .outHost r.owner (s.amxGrounding a))) (s.setRun a (some { r with query := [] })))) ∧
        (r.service ≠ .outHost → ∃ t o g, out = .next t ∧ slotHolds port tag (.accepted (.serviceOut r.service .outHost o g)) t ∧
          (∃ q, t.run a = some q ∧ q.service = .outHost ∧ q.queue = [] ∧ q.query = []) ∧ t.hds = s.hds ∧
          (r.owner = none → o = none ∧ (s.pos (.sel a) ≠ .atp .ground → s.actFaulted (.sel a) = false →
            ∃ h ∈ t.amx.held, h.act = .sel a ∧ h.place = .ground ∧ h.asker = .amx))) ∧
        (r.service = .inService → back = .next (replied port tag 0x38 (.accepted (.serviceIn false)) s)) ∧
        (r.service = .suspect → back = .next (refused 0x38 .state 0)) ∧
        (r.service = .outHost ∨ r.service = .outActuator →
          ((∀ act, ¬ inFault act) →
            ∃ t q, back = .next t ∧ slotHolds port tag (.accepted (.serviceIn false)) t ∧ t.hds = s.hds ∧
              t.run a = some q ∧ q.service = .inService ∧ q.query = [] ∧
              ∀ h ∈ t.amx.held, h.act = .sel a → h.asker ≠ .amx) ∧
          ((∃ act, inFault act) →
            ∃ t q, back = .next t ∧ slotHolds port tag (.accepted (.serviceIn true)) t ∧ t.hds = s.hds ∧
              t.run a = some q ∧ q.service = r.service ∧ (∀ act, act ∈ q.query ↔ inFault act) ∧
              ∀ h ∈ t.amx.held, h.act = .sel a → h.asker ≠ .amx)) ∧
        (port = .a → r.service = .suspect → clear = .next (replied port tag 0x39 (.accepted (.suspectCleared (s.trips a)))
          ((s.setRun a (some { r with service := .inService })).setTrips a []))) ∧
        (port = .a → r.service ≠ .suspect → clear = .next (refused 0x39 .state 0))

/-- R17, R46, R51, R58, R78, R145, R173: READ-TX-DEF, READ-ANT-DEF, READ-BANKS, READ-CONFLICTS, READ-ENTRY of either bank,
READ-BOOKINGS, READ-OCCURRENCE, READ-ANT and READ-MATRIX return what the blocks hold, from either port, and change nothing, but
that READ-ANT first removes the trips older than 600 s from the antenna's list; a number that names nothing is refused. The detail
of READ-ENTRY's NO-SUCH in NEXT (log 97) and which held moves READ-MATRIX counts as waiting for room (log 103) are the model's
choices. -/
def Obligations.RequestsReadTheStateBack : Prop :=
  (∀ (s : State) (port : Port) (tag : Byte) (number : Nat), portFree port s →
    exec (.readTxDef port tag 0) s =
      .next (replied port tag 0x04 (.accepted (.hallDef s.hds.hall s.effectiveGroups s.hds.zones)) s) ∧
    (∀ n d, itemOf 16 number = some n → s.txDef n = some d → exec (.readTxDef port tag number) s =
      .next (replied port tag 0x04
        (.accepted (.txDef number d ((s.hds.staticMin[n]).getD 0) (s.groupOf n) [])) s)) ∧
    (∀ n, itemOf 16 number = some n → s.txDef n = none →
      exec (.readTxDef port tag number) s = .next (replied port tag 0x04 (.refused .noSuch number) s)) ∧
    (16 < number → exec (.readTxDef port tag number) s = .next (replied port tag 0x04 (.refused .range 1) s)) ∧
    (∀ a d, itemOf 40 number = some a → s.antDef a = some d → exec (.readAntDef port tag number) s =
      .next (replied port tag 0x05 (.accepted (.antDef number d (decide (2 ≤ d.beams)) (s.hds.zones[d.zone]).inUse)) s)) ∧
    (∀ a, itemOf 40 number = some a → s.antDef a = none →
      exec (.readAntDef port tag number) s = .next (replied port tag 0x05 (.refused .noSuch number) s)) ∧
    (number = 0 ∨ 40 < number → exec (.readAntDef port tag number) s = .next (replied port tag 0x05 (.refused .range 1) s))) ∧
  ((∀ (s : State) (port : Port) (tag : Byte), portFree port s →
     let b := s.sch.staged
     exec (.readBanks port tag) s = .next (replied port tag 0x1A (.accepted (.banks
       (s.sch.active.map fun x => (x.generation, x.header, x.entries.length, (x.entries.filter (·.2)).length, x.recheck,
         x.expired)) b.state b.entries.length b.header
       (if b.state = .validating then some (b.pass, b.position, b.conflicts.length, b.overflow, b.willClamp, b.tight)
         else none) s.sch.arming s.sch.lastGen)) s) ∧
     exec (.readConflicts port tag) s = .next (replied port tag 0x1B
       (.accepted (.conflicts b.conflicts b.overflow b.willClamp b.tight b.standing)) s) ∧
     ∀ bank : BankSel,
       let l : List Entry := match bank, s.sch.active with
         | .staged, _ => b.entries
         | .active, some x => x.entries.map (·.1)
         | .active, none => []
       let marks (id : Nat) : Option (Bool × Nat) := match bank with
         | .staged => none
         | .active => s.sch.active.map fun x => (x.entries.any fun y => decide (y.1.id = id) && y.2, x.generation)
       let reads (id : Nat) (mode : ReadMode) (r : Result) : Prop :=
         exec (.readEntry port tag bank id mode) s = .next (replied port tag 0x13 r s)
       reads 0 .exact (.refused .range 2) ∧
       (∀ id mode, 65535 < id → reads id mode (.refused .range 2)) ∧
       (∀ id mode, id ≤ 65535 → (id ≠ 0 ∨ mode = .next) → (∀ x ∈ l, if mode = .exact then x.id ≠ id else x.id ≤ id) →
         reads id mode (.refused .noSuch id)) ∧
       (∀ id e, 0 < id → id ≤ 65535 → l.find? (fun x => decide (x.id = id)) = some e →
         reads id .exact (.accepted (.entry e (positionOf id l) (marks id)))) ∧
       ∀ id, id ≤ 65535 → (∃ x ∈ l, id < x.id) →
         ∃ e ∈ l, id < e.id ∧ (∀ x ∈ l, id < x.id → e.id ≤ x.id) ∧
           reads id .next (.accepted (.entry e (positionOf e.id l) (marks e.id)))) ∧
  (∀ (s : State) (port : Port) (tag : Byte), portFree port s →
     exec (.readBookings port tag) s = .next (replied port tag 0x23 (.accepted (.bookings (s.sch.bookings.map fun b =>
       ⟨b, b.finish, (s.recordOf b.tx (.booking b.id b.start)).map (·.status)⟩))) s) ∧
     ∀ number n, itemOf 16 number = some n →
       (s.txDefined n = false →
         exec (.readOccurrence port tag number) s = .next (replied port tag 0x24 (.refused .noSuch number) s)) ∧
       (s.txDefined n = true → exec (.readOccurrence port tag number) s = .next (replied port tag 0x24
         (.accepted (.occurrence (s.occ n).cur (s.occ n).prev (s.ctx n).source ((s.covering n).map (·.id))
           ((s.nextTarget n).map fun c => (c.id, c.start))
           ((s.nextTarget n).map fun c =>
             (s.plannedFor n c.setp, ringSub c.start (s.plannedFor n c.setp))))) s)))) ∧
  (∀ (s : State) (port : Port) (tag : Byte) (number : Nat), portFree port s →
    (itemOf 40 number = none → exec (.readAnt port tag number) s = .next (replied port tag 0x3A (.refused .range 1) s)) ∧
    (∀ a, itemOf 40 number = some a → s.antDefined a = false →
      exec (.readAnt port tag number) s = .next (replied port tag 0x3A (.refused .noSuch number) s)) ∧
    (∀ a r, itemOf 40 number = some a → s.antDefined a = true → s.run a = some r →
      let trips := (s.trips a).filter fun x =>
        decide ((s.clk.elapsed + 4294967296 - x.2 % 4294967296) % 4294967296 ≤ 600)
      exec (.readAnt port tag number) s = .next (replied port tag 0x3A (.accepted (.antenna r (s.zoneOpenAt a)
        (s.pos (.sel a)) (if s.beamDefined a then some (s.pos (.beam a)) else none)
        ((s.entry (.sel a)).map (·.status)) ((s.entry (.beam a)).map (·.status))
        ((s.amx.held.filter fun h => decide (h.act = .sel a) || decide (h.act = .beam a)).map fun h =>
          ⟨h.act, h.place, h.asker, ringSub s.now h.asked⟩) trips)) (s.setTrips a trips))) ∧
    ∃ waiting, exec (.readMatrix port tag) s = .next (replied port tag 0x3B (.accepted (.matrix
      ((allAnt.filter s.antDefined).map fun a => ⟨a, s.serviceOf a, s.zoneOpenAt a, s.owner a,
        (match s.run a with
          | some r => r.queue.length
          | none => 0), s.pos (.sel a)⟩)
      ((allTx.filter s.txDefined).map fun n => ⟨n, s.pos (.row n), s.owned n, s.reservation n⟩)
      ((allZones.filter fun z => (s.hds.zones[z]).inUse).map fun z => (z, decide (s.amx.zone[z] = some true)))
      s.amx.held.length waiting)) s) ∧ (s.swb.queue.length < 32 → waiting = 0) ∧
      (32 ≤ s.swb.queue.length → waiting = (s.amx.held.filter fun h =>
        (decide (s.txs.hall = .surveying) || decide (s.txs.hall = .running) || decide (s.txs.hall = .halting)) &&
        !(s.pos h.act).isTravelling && s.interlock h.act h.place).length))

/-- R138, R139, R130: the gate lines set the condition of a zone in use. An opening asks RF-OFF of every owner in the zone whose
row is not at LOAD and whose selector stands at it or travels to it, and hands CSQ the cause ZONE_OPEN for it; a closing offers
the antennas of the zone. That the held moves wait for a hand-over of their own is the model's choice (log 6). -/
def Obligations.GateLinesOpenAndCloseZones : Prop :=
  ∀ (s : State) (z : ZoneId),
    let level (v : Bool) : Pins := { s.pins with gate := s.pins.gate.set z v }
    (s.amx.zone[z] ≠ some false → exec (.gateLineOff z) s = .next { s with pins := level false }) ∧
    (s.amx.zone[z] ≠ some true → exec (.gateLineOn z) s = .next { s with pins := level true }) ∧
    (s.amx.zone[z] = some false → ∃ t, exec (.gateLineOff z) s = .next t ∧ t.amx.zone = s.amx.zone.set z (some true) ∧
      t.pins = level false ∧ t.amx.rowPos = s.amx.rowPos ∧ t.amx.selPos = s.amx.selPos ∧ t.hds = s.hds ∧ t.swb = s.swb ∧
      ∀ a n, a ∈ (s.hds.zones[z]).members → s.owner a = some n → s.txDefined n.tx = true → s.owned n.tx = some a →
        s.pos (.row n.tx) ≠ .atp .load →
        s.pos (.sel a) = .atp (.tx n.tx) ∨ s.pos (.sel a) = .travelling (.tx n.tx) →
        ((s.ctx n.tx).rf ≠ .off → ((s.ctx n.tx).lineUp = true → rfOffOn (t.ctx n.tx)) ∧
          ((s.ctx n.tx).lineUp = false → (t.ctx n.tx).owed = true)) ∧
        (∀ v, t.plan n.tx = some v → v.windDown = true) ∧
        ((s.ctx n.tx).deferred = none → ∀ id r, s.recordOf n.tx id = some r → r.status = .pending ∨ r.status = .live →
          (∃ p, s.plan n.tx = some p ∧ p.windDown = false ∧ p.concerned = some id) ∨
            s.plan n.tx = none ∧ (s.liveRec n.tx).map (·.id) = some id →
          (t.recordOf n.tx id).map (·.status) = some (.missed (.abandoned .zoneOpen)))) ∧
    (s.amx.zone[z] = some true → ∃ t, exec (.gateLineOn z) s = .next t ∧ t.amx.zone = s.amx.zone.set z (some false) ∧
      t.pins = level true ∧ t.amx.held = s.amx.held ∧ t.hds = s.hds ∧ t.swb = s.swb ∧ t.txs = s.txs ∧
      ∀ a d r c rest, a ∈ (s.hds.zones[z]).members → s.antDef a = some d → d.zone = z → s.run a = some r →
        r.service = .inService → r.owner = none → r.queue = c :: rest → s.owned c.tx = none → (∀ x ∈ rest, x.tx ≠ c.tx) →
        (∀ b q, b ≠ a → s.run b = some q → ∀ x ∈ q.queue, x.tx ≠ c.tx) →
        t.run a = some { r with owner := some ⟨c.tx, c.kind.own, c.priority, c.sec⟩, queue := rest })

/-- R135: TXn is safe. -/
def Sys2Proof.Claims.isSafe (s : State) (n : TxId) : Prop := (s.ctx n).rf = .off ∨ s.pos (.row n) = .atp .load

/-- R135, R136: the interlock of an actuator for a move to a position; UNSURE counts as RF on. -/
def Sys2Proof.Claims.interlockHolds (s : State) : ActId → Place → Prop
  | .row n, _ => (s.ctx n).rf = .off
  | .sel a, q =>
    (∀ n, s.pos (.sel a) = .atp (.tx n) → isSafe s n) ∧
    (∀ d n, s.pos (.sel a) = .unknown → s.antDef a = some d → n ∈ d.reach → s.txDefined n = true → isSafe s n) ∧
    s.zoneOpenAt a = false ∧
    ∀ n, q = .tx n → isSafe s n ∧ ∀ b d, b ≠ a → s.antDef b = some d → s.pos (.sel b) ≠ .atp (.tx n) ∧
      s.pos (.sel b) ≠ .travelling (.tx n) ∧ (s.pos (.sel b) = .unknown → n ∉ d.reach)
  | .beam a, _ => s.zoneOpenAt a = false ∧
    (s.pos (.sel a) = .atp .ground ∨ ∃ n, s.pos (.sel a) = .atp (.tx n) ∧ isSafe s n)

/-- R137: a held move may be handed to SWB. -/
def Sys2Proof.Claims.handable (s : State) (h : Held) : Prop :=
  (s.txs.hall = .surveying ∨ s.txs.hall = .running ∨ s.txs.hall = .halting) ∧ s.swb.queue.length < 32 ∧
  (∀ p, s.pos h.act ≠ .travelling p) ∧ interlockHolds s h.act h.place

/-- R127, R130, R137: an offer grants an antenna to the head of its queue where every condition holds; a hand-over takes the first
held move that may go, into the bus order queue, its actuator then TRAVELLING. Otherwise nothing changes. -/
def Obligations.GrantsAndHandOversInOrder : Prop :=
  (∀ (s : State) (a : AntId),
     (∀ r c rest, s.run a = some r → r.queue = c :: rest → r.service = .inService → r.owner = none →
       s.zoneOpenAt a = false → s.owned c.tx = none → (∀ x ∈ rest, x.tx ≠ c.tx) →
       ∃ t, exec (.antennaOffer a) s = .next t ∧
         t.run a = some { r with owner := some ⟨c.tx, c.kind.own, c.priority, c.sec⟩, queue := rest } ∧
         (∀ b, b ≠ a → t.run b = s.run b) ∧
         (∀ p, s.plan c.tx = some p → t.plan c.tx =
           some { p with claim := .granted, phases := { p.phases with claim := .ended } }) ∧
         t.hds = s.hds ∧ t.txs = s.txs ∧ t.sch = s.sch ∧ t.swb = s.swb ∧ t.rfp = s.rfp) ∧
     (s.run a = none ∨ (∃ r, s.run a = some r ∧ (r.queue = [] ∨ r.service ≠ .inService ∨ r.owner ≠ none ∨
         s.zoneOpenAt a = true ∨ ∃ c rest, r.queue = c :: rest ∧ s.owned c.tx ≠ none)) →
       exec (.antennaOffer a) s = .next s)) ∧
  (∀ s : State, s.amx.reask = [] →
     ((∀ h ∈ s.amx.held, ¬ handable s h) → exec .moveHandover s = .next s) ∧
     ∀ l h r, s.amx.held = l ++ h :: r → (∀ x ∈ l, ¬ handable s x) → handable s h →
       ∃ t, exec .moveHandover s = .next t ∧ t.swb = { s.swb with queue := s.swb.queue ++ [⟨h.act, some h.place, .amx⟩] } ∧
         t.pos h.act = .travelling h.place ∧ (∀ act, act ≠ h.act → t.pos act = s.pos act) ∧
         t.amx.held = s.amx.held.filter (fun x => !decide (x.act = h.act)) ∧ t.amx.ant = s.amx.ant ∧ t.txs = s.txs ∧
         t.csq = s.csq ∧ t.sch = s.sch ∧ t.hds = s.hds ∧ t.rfp = s.rfp)

/-- R135, R137, law of the device: no command puts a MOVE into the bus order queue but a hand-over, and that only for a move
whose interlock holds and whose actuator does not travel. -/
def Obligations.NoMoveWithoutItsInterlock : Prop :=
  ∀ (c : Instr) (s t : State) (o : BusOrder) (q : Place), exec c s = .next t → o ∈ t.swb.queue → o.place = some q →
    o ∈ s.swb.queue ∨ c = .moveHandover ∧ interlockHolds s o.act q ∧ ∀ p, s.pos o.act ≠ .travelling p

/-- R129: claim c stands above claim d: by priority, then by the earlier claim second, then by the lower transmitter number. -/
def Sys2Proof.Claims.above (c d : Claim) : Prop :=
  d.priority < c.priority ∨
    c.priority = d.priority ∧ (later d.sec c.sec = true ∨ c.sec = d.sec ∧ c.tx.val < d.tx.val)

/-- R129: claim c takes its place in a queue, behind those it does not stand above. -/
def Sys2Proof.Claims.joins (c : Claim) (q q' : List Claim) : Prop :=
  ∃ l r, q = l ++ r ∧ q' = l ++ c :: r ∧ (∀ x ∈ l, ¬ above c x) ∧ ∀ x y, r = x :: y → above c x

/-- R114, R128, R129, R131, R132: how a claim is answered: UNUSABLE out of reach or of service; GRANTED or RESERVED again where it
stands already, which is the model's choice (log 81); otherwise GRANTED on a free antenna, and in the queue, where it may wait,
at its place, displacing the lowest of four where it stands above it, or BUSY. Priority 7 preempts an owner of less, which is wound down, and waits for one that is
winding down or as high. The plan takes its claim standing from the answer. A withdrawn claim leaves its queue and no other. -/
def Obligations.ClaimsAreAnsweredByTheirRank : Prop :=
  (∀ (s : State) (a : AntId) (c : Claim) (d : AntDef) (r : AntRun), s.antDef a = some d → s.run a = some r →
     let answers (w : ClaimAnswer) : Prop := s.claim a c = (s, w)
     let blocked : Prop := s.zoneOpenAt a = true ∨ s.owned c.tx ≠ none
     let enters : Prop :=
       (r.queue.length < 4 → ∃ t q, s.claim a c = (t, .reserved) ∧ joins c r.queue q ∧
         t.run a = some { r with queue := q } ∧ t.csq = s.csq ∧ ∀ b, b ≠ a → t.run b = s.run b) ∧
       (∀ l, 4 ≤ r.queue.length → r.queue.getLast? = some l → ¬ above c l → answers .busy) ∧
       (∀ l, 4 ≤ r.queue.length → r.queue.getLast? = some l → above c l →
         ∃ t q, s.claim a c = (t, .reserved) ∧ joins c (r.queue.filter fun x => !decide (x.tx = l.tx)) q ∧
           t.run a = some { r with queue := q } ∧ t.plan l.tx = (s.plan l.tx).map fun p => { p with claim := .retry })
     (c.tx ∉ d.reach ∨ r.service ≠ .inService → answers .unusable) ∧
     (c.tx ∈ d.reach → r.service = .inService →
       (s.owned c.tx = some a → answers .granted) ∧
       (s.owned c.tx ≠ some a → (∃ x ∈ r.queue, x.tx = c.tx) → answers .reserved) ∧
       (s.owned c.tx ≠ some a → (∀ x ∈ r.queue, x.tx ≠ c.tx) → s.reservation c.tx = none →
         (r.owner = none → r.queue = [] → ¬ blocked →
           ∃ t, s.claim a c = (t, .granted) ∧ t.owner a = some ⟨c.tx, c.kind.own, c.priority, c.sec⟩ ∧ t.csq = s.csq) ∧
         (r.owner = none → blocked → enters) ∧
         (r.owner = none → r.queue ≠ [] → ¬ blocked → (c.wait = true → enters) ∧ (c.wait = false → answers .busy)) ∧
         ∀ o, r.owner = some o →
           let takes : Prop := c.priority = 7 ∧ o.priority < 7 ∧ o.kind ≠ .localKey ∧ s.windingDown o.tx = false
           let behind : Prop := c.priority = 7 ∧ o.kind ≠ .localKey ∧ (7 ≤ o.priority ∨ s.windingDown o.tx = true)
           (takes → r.queue.length < 4 → o.tx ≠ c.tx →
             ∃ t q, s.claim a c = (t, .reserved) ∧ t.run a = some q ∧ c ∈ q.queue ∧
               (∀ p, t.plan o.tx = some p → p.windDown = true ∧ p.cause = some .preempted) ∧
               (s.plan o.tx = none → t.liveRec o.tx = none)) ∧
           (¬ takes → behind ∨ c.wait = true → enters) ∧
           (¬ takes → ¬ behind → c.wait = false → answers .busy)))) ∧
  (∀ (s : State) (n : TxId) (p : Plan) (q : Setpoint) (a : AntId) (d : AntDef) (r : AntRun), s.plan n = some p →
     phaseReady p .claim → p.setp = some q → q.path = some a → s.antDef a = some d → s.run a = some r →
     let go := exec (.phaseBegin n .claim) s
     (n ∉ d.reach ∨ r.service ≠ .inService → p.windDown = false →
       ∃ t, go = .next t ∧ ∀ v, t.plan n = some v → v.windDown = true ∧ v.cause = some .service) ∧
     (∀ o, n ∈ d.reach → r.service = .inService → s.owned n = none → (∀ x ∈ r.queue, x.tx ≠ n) → s.reservation n = none →
       r.owner = some o → q.priority < 7 → r.queue.length < 4 →
       ∃ t v, go = .next t ∧ t.plan n = some v ∧ v.claimAnt = some a ∧ v.phases.claim = .running ∧
         v.claim = if q.wait then .reserved else .retry)) ∧
  ∀ (s : State) (n : TxId) (b : AntId) (r : AntRun), s.reservation n = some b → s.run b = some r →
    (∃ q, (s.withdrawClaim n).run b = some q ∧ ∀ x ∈ q.queue, x.tx ≠ n) ∧
    (∀ a, a ≠ b → (s.withdrawClaim n).run a = s.run a) ∧
    ∀ x l, r.queue = x :: l → x.tx ≠ n →
      s.withdrawClaim n = s.setRun b (some { r with queue := r.queue.filter fun y => !decide (y.tx = n) })

/-! ## The switch bus (chapter 8) -/

/-- R150: an order is eligible. -/
def Sys2Proof.Claims.eligibleOrder (s : State) (o : BusOrder) : Prop :=
  ∃ e, s.entry o.act = some e ∧ (∀ p, e.status ≠ .travelling p) ∧
    (e.watch = false ∨ o.place = none ∧ Requester.swb ∈ e.requesters) ∧ (o.place ≠ none → s.swb.surveyed = true)

/-- R149 to R151, R154: the first eligible order in queue order leaves once no transaction is open and no all-call waits, and a
MOVE only after the all-call survey; the ALL-QUERY leaves once no transaction is open and begins the first turn. -/
def Obligations.BusSendsInQueueOrder : Prop :=
  ∀ s : State,
    (s.swb.trans ≠ .none ∨ s.swb.allCallWaiting = true ∨ (∀ o ∈ s.swb.queue, ¬ eligibleOrder s o) →
      exec .busOrderSend s = .next s) ∧
    (∀ l o r e, s.swb.trans = .none → s.swb.allCallWaiting = false → s.swb.queue = l ++ o :: r →
      (∀ x ∈ l, ¬ eligibleOrder s x) → eligibleOrder s o → s.entry o.act = some e →
      ∃ t u, exec .busOrderSend s = .next t ∧ t.swb.queue = l ++ r ++ u ∧ (∀ x ∈ u, x.place = none) ∧
        t.chan .busAnswer = ⟨true, 1000, 1000⟩ ∧ t.amx = s.amx ∧ t.txs = s.txs ∧ t.hds = s.hds ∧ t.lnk = s.lnk ∧
        (∀ p, o.place = some p → t.swb.trans = .move o.act p ∧
          t.chan (.travel o.act) = ⟨true, s.travelMs o.act, s.travelMs o.act⟩ ∧
          (t.entry o.act).map (·.status) = some (.travelling p)) ∧
        (o.place = none → t.swb.trans = .query o.act ∧ (t.entry o.act).map (·.status) = some e.status)) ∧
    (s.swb.allCallWaiting = false ∨ s.swb.trans ≠ .none → exec .allQuerySend s = .next s) ∧
    (∀ act rest, s.swb.allCallWaiting = true → s.swb.trans = .none →
      allAct.filter (fun x => (s.entry x).isSome) = act :: rest →
      exec .allQuerySend s = .next (({ s with swb := { s.swb with
        allCallWaiting := false, counts := ⟨0, 0, 0⟩, trans := .allCall act } } : State).setChan .busAnswer
          ⟨true, 1000, 1000⟩)) ∧
    (s.swb.allCallWaiting = true → s.swb.trans = .none → (∀ act, s.entry act = none) →
      ∃ t, exec .allQuerySend s = .next t ∧ t.swb.surveyed = true ∧ t.swb.allCallWaiting = false)

/-- The position fits its sender (R147). -/
def Sys2Proof.Claims.fitsSender (s : State) : ActId → Place → Prop
  | .row _, p => p = .load ∨ p = .matrix
  | .sel _, p => p = .ground ∨ ∃ n, p = .tx n
  | .beam a, p => ∃ i d, p = .beam i ∧ s.antDef a = some d ∧ i < d.beams

/-- Status, last position, unordered mark and watch of an actuator. -/
def Sys2Proof.Claims.standing (t : State) (act : ActId) : Option (ActStatus × Option Place × Bool × Bool) :=
  (t.entry act).map fun e => (e.status, e.last, e.unordered, e.watch)

/-- No MOVE of the actuator waits in the bus order queue (R151). -/
def Sys2Proof.Claims.noMoveWaits (s : State) (act : ActId) : Prop := ∀ o ∈ s.swb.queue, o.act = act → o.place = none

/-- R142, R153: what a fault of an actuator, once recorded, does to its dependants: the antenna of a selector or a beam drive goes
out of service with its claims and its service query ended, and its owner, who keeps it unless its selector stands at GROUND, is
left with a wind-down or no plan; the transmitter of a row switch is FAULTED, cause ROW_SWITCH, with RF-OFF where RF is not OFF
and its plan gone, or stays UNKNOWN. A context FAULTED already takes that cause in place of its own, the clearing of an ADOPTION
that the fault ends being judged first (log 94); one that awaits RSn has digested a report (R98). -/
def Sys2Proof.Claims.dependantsTake (s : State) (act : ActId) (t : State) : Prop :=
  (∀ a r, act = .sel a ∨ act = .beam a → s.run a = some r →
    ∃ q, t.run a = some q ∧ q.service = (if r.service = .outHost ∧ r.query = [] then .outHost else .outActuator) ∧ q.query = [] ∧
      q.queue = [] ∧ ∀ o, r.owner = some o → t.pos (.sel a) ≠ .atp .ground →
        q.owner.map (·.tx) = some o.tx ∧ ∀ v, t.plan o.tx = some v → v.windDown = true) ∧
  ∀ n, act = .row n →
    let c := s.ctx n
    (c.state = .unknown → (t.ctx n).state = .unknown) ∧
    (c.state ≠ .unknown → (c.last = none → act ∉ c.clearing) →
      (t.ctx n).state = .faulted ∧ (t.ctx n).cause = some .rowSwitch ∧
      (c.rf ≠ .off → served n s → c.state ≠ .faulted → rfOffOn (t.ctx n)) ∧
      ∀ p, s.plan n = some p → p.windDown = false → t.plan n = none)

/-- R112, R127, R152: what a position of an actuator, once handed to AMX, does to the ownership of its antenna: it ends where the
selector comes to GROUND, the antenna goes to the head of its queue, and the queue the releasing transmitter heads is offered. -/
def Sys2Proof.Claims.ownerTakes (s : State) (act : ActId) (p : Place) (t : State) : Prop :=
  ∀ a r, s.run a = some r → act = .sel a → p = .ground → s.amx.reask = [] → (∀ h ∈ s.amx.flight, h.told = []) →
    ∀ o, r.owner = some o → (∀ b q, s.owner b = some q → q.tx = o.tx → b = a) → (∀ x ∈ r.queue, x.tx ≠ o.tx) →
      (r.queue = [] → t.owner a = none) ∧
      (∀ c rest, r.queue = c :: rest → r.service = .inService → s.zoneOpenAt a = false → s.owned c.tx = none →
        (t.owner a).map (·.tx) = some c.tx) ∧
      ∀ b q c rest, b ≠ a → s.run b = some q → q.owner = none → q.service = .inService → s.zoneOpenAt b = false →
        q.queue = c :: rest → c.tx = o.tx → s.reservation o.tx = some b → (t.owner b).map (·.tx) = some o.tx

/-- R112, R127, R141: what the arrival of an actuator at a position does to its antenna: to its ownership, and a query of
SET-ANT-SERVICE IN that awaited the actuator is answered, where the last one restores the service. -/
def Sys2Proof.Claims.antennaTakes (s : State) (act : ActId) (p : Place) (t : State) : Prop :=
  ownerTakes s act p t ∧ ∀ a r, s.run a = some r →
    (act = .sel a ∨ act = .beam a → act ∈ r.query → ∃ q, t.run a = some q ∧
      q.query = r.query.filter (fun x => !decide (x = act)) ∧
      q.service = if ∀ x ∈ r.query, x = act then .inService else r.service)

/-- R112, R127, R141, R142, R147, R149, R151 to R154: what each report does by the status of its sender, with what a fault it records
does to the sender's dependants, and an arrival to its antenna; a report of an actuator that is not defined, or whose position
does not fit it, is discarded; the ends of the bus answer channel and of the travel timers. That the QUERY of a watch answered
TRAVELLING is a fault though the watch has ended is the model's reading (log 54), and so is what a faulted sender's TRAVELLING
answer leaves (log 79); that MOVING from one recorded AT a position keeps the last position is its choice (log 85). A position that
a faulted actuator reports, STUCK's too, reaches AMX with the fault kept. -/
def Obligations.BusReportsAndTimersFollowTheStatus : Prop :=
  ((∀ (s : State) (addr : Nat), (∀ act, addrOf act = addr → s.entry act = none) → ∀ p q,
    exec (.moving addr) s = .next s ∧ exec (.arrived addr p) s = .next s ∧ exec (.stuck addr p) s = .next s ∧
    exec (.position addr q) s = .next s) ∧
  ∀ (s : State) (act : ActId) (e : ActEntry) (p : Place), s.entry act = some e →
    let addr := addrOf act
    let gives (i : Instr) (x : ActStatus × Option Place × Bool × Bool) : Prop :=
      ∃ t, exec i s = .next t ∧ standing t act = some x ∧ t.hds = s.hds
    let keeps (i : Instr) : Prop := gives i (e.status, e.last, e.unordered, e.watch)
    let reaches (i : Instr) : Prop :=
      ∃ t, exec i s = .next t ∧ standing t act = some (e.status, some p, e.unordered, e.watch) ∧ t.hds = s.hds ∧
        (noMoveWaits s act → t.pos act = .atp p ∧ ownerTakes s act p t)
    let faults (i : Instr) (x : ActStatus × Option Place × Bool × Bool) : Prop :=
      ∃ t, exec i s = .next t ∧ standing t act = some x ∧ t.hds = s.hds ∧ noMoveWaits t act ∧ dependantsTake s act t
    (¬ fitsSender s act p → exec (.arrived addr p) s = .next s ∧ exec (.stuck addr p) s = .next s ∧
      exec (.position addr (some p)) s = .next s) ∧
    (∀ q, e.status = .atp q → faults (.moving addr) (.fault .stuck, e.last, true, false)) ∧
    ((∀ q, e.status ≠ .atp q) → keeps (.moving addr)) ∧
    (fitsSender s act p →
      (e.status = .travelling p ∨ e.status = .unknown →
        ∃ t, exec (.arrived addr p) s = .next t ∧ standing t act = some (.atp p, some p, false, false) ∧
          (t.chan (.travel act)).running = false ∧ (noMoveWaits s act → t.pos act = .atp p ∧ antennaTakes s act p t) ∧
          t.hds = s.hds) ∧
      (∀ q, e.status = .travelling q → q ≠ p → faults (.arrived addr p) (.fault .stuck, some p, false, false)) ∧
      (e.status = .atp p → keeps (.arrived addr p)) ∧
      (∀ q, e.status = .atp q → q ≠ p → faults (.arrived addr p) (.fault .stuck, some p, true, false)) ∧
      (∀ k, e.status = .fault k → reaches (.arrived addr p)) ∧
      (∀ q, e.status = .atp q → faults (.stuck addr p) (.fault .stuck, some p, true, false)) ∧
      ((∃ q, e.status = .travelling q) ∨ e.status = .unknown →
        faults (.stuck addr p) (.fault .stuck, some p, false, false)) ∧
      (∀ k, e.status = .fault k → reaches (.stuck addr p)) ∧
      (s.swb.trans = .query act →
        ∃ t, exec (.position addr (some p)) s = .next t ∧ standing t act = some (.atp p, some p, false, false) ∧
          t.swb.trans = .none ∧ (t.chan .busAnswer).running = false ∧
          (noMoveWaits s act → t.pos act = .atp p ∧ antennaTakes s act p t)) ∧
      (s.swb.trans = .none → (∀ k, e.status ≠ .fault k) → exec (.position addr (some p)) s = .next s) ∧
      (∀ k, s.swb.trans = .none → e.status = .fault k → reaches (.position addr (some p))) ∧
      (s.swb.trans = .allCall act → (∀ q, e.status ≠ .travelling q) →
        ∃ t, exec (.position addr (some p)) s = .next t ∧ standing t act = some (.atp p, some p, false, false) ∧
          t.swb.counts.at_ = s.swb.counts.at_ + 1)) ∧
    (s.swb.trans = .query act →
      (Requester.swb ∉ e.requesters → ∃ t, exec (.position addr none) s = .next t ∧
        standing t act = some (.unknown, e.last, false, true) ∧
        t.chan (.travel act) = ⟨true, s.travelMs act, s.travelMs act⟩ ∧ t.swb.trans = .none ∧
        (noMoveWaits s act → t.pos act = .unknown)) ∧
      (Requester.swb ∈ e.requesters → faults (.position addr none) (.fault .timeout, e.last, false, false))) ∧
    (s.swb.trans = .none → exec (.position addr none) s = .next s)) ∧
  (∀ (s : State) (act : ActId),
    ((s.chan .busAnswer).running = false → exec .busAnswerExpiry s = .next s) ∧
    ((s.chan (.travel act)).running = false → exec (.travelExpiry act) s = .next s) ∧
    ∀ e, s.entry act = some e →
      ((s.chan .busAnswer).running = true → (∃ p, s.swb.trans = .move act p) ∨ s.swb.trans = .query act →
        ∃ t, exec .busAnswerExpiry s = .next t ∧ standing t act = some (.fault .silent, e.last, false, false) ∧
          t.swb.trans = .none ∧ noMoveWaits t act ∧ t.hds = s.hds ∧ dependantsTake s act t) ∧
      ((s.chan .busAnswer).running = true → s.swb.trans = .allCall act →
        ∃ t, exec .busAnswerExpiry s = .next t ∧ standing t act = some (.fault .silent, e.last, false, false) ∧
          t.swb.counts.silent = s.swb.counts.silent + 1) ∧
      ((s.chan (.travel act)).running = true →
        (∀ p, e.status = .travelling p → ∃ t, exec (.travelExpiry act) s = .next t ∧
          standing t act = some (.fault .timeout, e.last, false, false) ∧ (t.chan (.travel act)).running = false ∧
          t.pos act = .unknown ∧ dependantsTake s act t) ∧
        ((∀ p, e.status ≠ .travelling p) → e.watch = true → ∃ t u, exec (.travelExpiry act) s = .next t ∧
          t.entry act = some u ∧ u.status = e.status ∧ u.watch = true ∧ Requester.swb ∈ u.requesters ∧
          (t.chan (.travel act)).running = false)))

/-! ## Power composition and RF protection (chapter 9) -/

/-- The power of tap k of a transmitter, counted from 1 (R158). -/
def Sys2Proof.Claims.powerOfTap (d : TxDef) (k : Nat) : Nat := d.rating * (d.taps.getD (k - 1) 0) / 1000

/-- R158 steps 2 to 5 and R159: drive, marks and failure for a ceiling on a tap of power p under the lesser rating lim. -/
def Sys2Proof.Claims.driveFits (p lim c : Nat) (k : Comp) : Prop :=
  ∃ raw, raw ≤ (2 * (1000 * c) + p) / (2 * p) ∧ p * raw ≤ 1000 * lim ∧
    (raw = (2 * (1000 * c) + p) / (2 * p) ∨ 1000 * lim < p * (raw + 1)) ∧
    k.d = (if raw < 100 then 100 else if 1000 < raw then 1000 else raw) ∧ (k.floor = true ↔ raw < 100) ∧
    (k.short = true ↔ 1000 < raw) ∧ (k.limit = true ↔ raw < 100 ∧ 1000 * lim < p * 100) ∧
    (k.limit = false → p * k.d ≤ 1000 * lim ∧ 100 ≤ k.d ∧ k.d ≤ 1000)

/-- R156 to R159, R164: the target power, the ceiling, the tap and the drive of a composition, with the law that the commanded
output stays within both ratings; the reflection coefficient and the VSWR of a window, with their ranges. -/
def Obligations.RfpArithmetic : Prop :=
  (∀ (d : TxDef) (power trim rPath fold : Nat), d.taps.getLast? = some 1000 → (∀ x ∈ d.taps, 1000 ≤ d.rating * x) →
     let factor := match fold with
       | 0 => 1000
       | 1 => 841
       | 2 => 707
       | 3 => 595
       | _ => 500
     let c := min (power * trim / 1000) (min d.rating rPath) * factor / 1000
     let k := compose d power trim rPath fold
     k.c = c ∧ (k.clamped = true ↔ min d.rating rPath < power * trim / 1000) ∧
     1 ≤ k.tap ∧ k.tap ≤ d.taps.length ∧ c ≤ powerOfTap d k.tap ∧ (∀ j, 1 ≤ j → j < k.tap → powerOfTap d j < c) ∧
     driveFits (powerOfTap d k.tap) (min d.rating rPath) c k ∧
     ∀ tap clamp, 1 ≤ tap → tap ≤ d.taps.length →
       (composeOn d tap rPath c clamp).tap = tap ∧
       driveFits (powerOfTap d tap) (min d.rating rPath) c (composeOn d tap rPath c clamp)) ∧
  (∀ pf pr : Nat,
     (pf ≤ pr → gammaOf pf pr = 1000 ∧ vswrOf pf pr = 9999 ∧ vswrClamped pf pr = false) ∧
     (pr < pf → gammaOf pf pr * gammaOf pf pr ≤ 1000000 * pr / pf ∧
       1000000 * pr / pf < (gammaOf pf pr + 1) * (gammaOf pf pr + 1) ∧ gammaOf pf pr ≤ 999 ∧
       vswrOf pf pr = min 9999 (100 * (1000 + gammaOf pf pr) / (1000 - gammaOf pf pr)) ∧
       (vswrClamped pf pr = true ↔ 9999 < 100 * (1000 + gammaOf pf pr) / (1000 - gammaOf pf pr))) ∧
     100 ≤ vswrOf pf pr ∧ vswrOf pf pr ≤ 9999)

/-- R162, R163, R166 to R168: what a METER report does: discarded without RF, accumulated up to the third, and the fourth closes
the window, which is masked, low-carrier, or evaluated and leads to a trip, a fold, a warning or a clean window. -/
def Obligations.MeterWindowsAreJudged : Prop :=
  ∀ (s : State) (n : TxId) (forward reflected : Nat), served n s → (s.ctx n).state ≠ .unknown →
    let c := s.ctx n
    let p := s.prot n
    let go := exec (.meter n forward reflected) s
    let base := s.retrigger (.tx n .silence)
    let carries : Prop := (c.state = .rampingUp ∨ c.state = .onAir ∨ c.state = .rampingDown) ∧ c.rf = .on
    let pf := (p.fwdSum + forward) / 4
    let pr := (p.reflSum + reflected) / 4
    let th := s.thresholds n
    let S := vswrOf pf pr
    (¬ carries → go = .next base) ∧
    (carries → p.count ≠ 3 → go = .next (base.updProt n fun q =>
      { q with count := p.count + 1, fwdSum := p.fwdSum + forward, reflSum := p.reflSum + reflected })) ∧
    (carries → p.count = 3 →
      (p.mask = true → go = .next (base.updProt n fun q =>
        { q with count := 0, fwdSum := 0, reflSum := 0, mask := false, last := some ⟨pf, pr, true, false, none⟩ })) ∧
      (p.mask = false → pf < s.hds.hall.minForward ∨ pf = 0 → go = .next (base.updProt n fun q =>
        { q with count := 0, fwdSum := 0, reflSum := 0, last := some ⟨pf, pr, false, true, none⟩ })) ∧
      (p.mask = false → s.hds.hall.minForward ≤ pf → pf ≠ 0 →
        ∃ t, go = .next t ∧ (t.prot n).count = 0 ∧ (t.prot n).fwdSum = 0 ∧ (t.prot n).reflSum = 0 ∧
          (t.prot n).last = some ⟨pf, pr, false, false, some ⟨gammaOf pf pr, S, vswrClamped pf pr, th, p.floor, p.short⟩⟩ ∧
          (c.source = .localKey → (t.prot n).fold = p.fold ∧ (t.prot n).run = p.run ∧ t.txs = s.txs) ∧
          (c.source ≠ .localKey →
            (th.trip ≤ S → rfOffOn (t.ctx n)) ∧
            (S < th.trip → th.fold ≤ S → (p.fold < 4 → (t.prot n).fold = p.fold + 1 ∧ (t.prot n).run = 0) ∧
              (4 ≤ p.fold → rfOffOn (t.ctx n))) ∧
            (S < th.trip → S < th.fold → th.warn ≤ S →
              (t.prot n).run = 0 ∧ (t.prot n).fold = p.fold ∧ t.txs = s.txs) ∧
            (S < th.trip → S < th.fold → S < th.warn →
              (p.run < 7 → (t.prot n).run = p.run + 1 ∧ (t.prot n).fold = p.fold ∧ t.txs = s.txs) ∧
              (7 ≤ p.run → p.fold = 0 → (t.prot n).run = 0 ∧ (t.prot n).fold = 0 ∧ t.txs = s.txs) ∧
              (7 ≤ p.run → p.run ≤ 8 → 0 < p.fold →
                (c.state = .rampingDown ∨ s.pathConfirmed n = true →
                  (t.prot n).fold = p.fold - 1 ∧ (t.prot n).run = 0) ∧
                (c.state ≠ .rampingDown → s.pathConfirmed n = false →
                  (t.prot n).run = 8 ∧ (t.prot n).fold = p.fold ∧ t.txs = s.txs))))))

/-- R171: the path test of a recycle. -/
def Sys2Proof.Claims.recyclePathHolds (n : TxId) (s : State) : Prop :=
  s.pos (.row n) = .atp .load ∨
    ∃ a, s.owned n = some a ∧ s.inService a = true ∧ s.pos (.sel a) = .atp (.tx n) ∧ s.zoneOpenAt a = false

/-- The hall is RUNNING or HALTING. -/
def Sys2Proof.Claims.hallUp (s : State) : Prop := s.txs.hall = .running ∨ s.txs.hall = .halting

/-- R95, R116, R169 to R171: a unit TRIP on a context with RF takes the RF off and sets it TRIPPED; with no plan and no claim a recycle is
counted in its window and waits, or the limit faults the context; a plan in RAMPUP is paused by it, or ended by the limit; under
another phase of a plan none is wanted. A TRIP on any
other context is discarded, and under LOCAL it brings no order. The end of the recycle delay: nothing but the end of the wait off
TRIPPED; with the target, the path and the hall in order and a power known, RF-ON on the tap composed at the present fold level;
with no target, no order; with a LIVE record, or a plan in RAMPUP, whose interval is over, whose booking was cancelled, whose path
or hall is not in order, or whose composition fails, the recycle ends with the cause of R171, which the record and the plan take. A
plan in RAMPUP whose record a promotion has made DONE is judged by its interval alone. -/
def Obligations.TripsTakeTheRfOffAndRecycleReturnsIt : Prop :=
  (∀ (s : State) (n : TxId) (u : UnitTrip) (d : TxDef), s.txDef n = some d → (s.ctx n).lineUp = true →
    (s.ctx n).state ≠ .unknown →
    let c := s.ctx n
    let p := s.prot n
    let go := exec (.trip n u) s
    let carries : Prop := c.state = .rampingUp ∨ c.state = .onAir ∨ c.state = .rampingDown
    let stale : Prop := p.windowStart = none ∨ ∃ w, p.windowStart = some w ∧
      d.recycleWindow ≤ (s.clk.elapsed + 4294967296 - w % 4294967296) % 4294967296
    (c.source ≠ .localKey → ¬ carries → go = .next (s.retrigger (.tx n .silence))) ∧
    (c.source = .localKey → ∃ t, go = .next t ∧ (t.ctx n).outstanding = c.outstanding ∧ (t.ctx n).deferred = c.deferred ∧
      (t.ctx n).rf = c.rf ∧ t.hds = s.hds) ∧
    (c.source ≠ .localKey → carries → c.rf = .on → s.plan n = none → s.reservation n = none → s.rfOffInHand n = false →
      ∃ t, go = .next t ∧ rfOffOn (t.ctx n) ∧ t.hds = s.hds ∧
        ∀ k, (stale → k = 0) → (¬ stale → k = p.recycleCount) →
          (d.recycleLimit ≤ k → (t.ctx n).state = .faulted ∧ (t.ctx n).cause = some .recycleLimit) ∧
          (k < d.recycleLimit → (t.ctx n).state = .tripped ∧ (t.prot n).recycleCount = k + 1 ∧ (t.prot n).waiting = true ∧
            (t.prot n).mask = true ∧ (stale → (t.prot n).windowStart = some s.clk.elapsed) ∧
            (¬ stale → (t.prot n).windowStart = p.windowStart) ∧
            t.chan (.tx n .recycle) = ⟨true, d.recycleDelay * 1000, d.recycleDelay * 1000⟩)) ∧
    (∀ q, c.source ≠ .localKey → carries → c.rf = .on → s.plan n = some q → q.phases.rampup ≠ .running →
      s.rfOffInHand n = false → c.outstanding = none →
      ∃ t, go = .next t ∧ rfOffOn (t.ctx n) ∧ (t.ctx n).state = .tripped ∧ (t.prot n).recycleCount = p.recycleCount ∧
        t.hds = s.hds) ∧
    (∀ q, c.source ≠ .localKey → carries → c.rf = .on → s.plan n = some q → q.phases.rampup = .running → q.phase = .rampup →
      s.rfOffInHand n = false → c.outstanding = none → u = .overload ∨ s.chargedAnt n = none →
      ∃ t, go = .next t ∧ rfOffOn (t.ctx n) ∧
        ∀ k, (stale → k = 0) → (¬ stale → k = p.recycleCount) →
          (d.recycleLimit ≤ k → (t.ctx n).state = .faulted ∧ (t.ctx n).cause = some .recycleLimit ∧ t.plan n = none) ∧
          (k < d.recycleLimit → (t.ctx n).state = .tripped ∧ t.plan n = some q ∧ (t.prot n).recycleCount = k + 1 ∧
            (t.prot n).fold = p.fold ∧ (t.prot n).waiting = true ∧
            t.chan (.tx n .recycle) = ⟨true, d.recycleDelay * 1000, d.recycleDelay * 1000⟩))) ∧
  (∀ (s : State) (n : TxId),
    let c := s.ctx n
    let go := exec (.recycleExpiry n) s
    ((s.chan (.tx n .recycle)).running = false → go = .next s) ∧
    ((s.chan (.tx n .recycle)).running = true →
      (c.state ≠ .tripped → ∃ t, go = .next t ∧ t.ctx n = c ∧ (t.prot n).waiting = false ∧ t.csq = s.csq ∧ t.lnk = s.lnk) ∧
      (c.state = .tripped → s.plan n = none → s.liveRec n = none →
        ∃ t, go = .next t ∧ (t.prot n).waiting = false ∧ (t.ctx n).outstanding = c.outstanding ∧ (t.ctx n).rf = c.rf) ∧
      (∀ d r, c.state = .tripped → s.plan n = none → s.txDef n = some d → s.liveRec n = some r →
        let past : Prop := hasEnded r.finish s.now = true
        let ends (cause : Cause) : Prop := ∃ t, go = .next t ∧ (t.prot n).waiting = false ∧
          (t.recordOf n r.id).map (·.status) = some (.missed (.abandoned cause)) ∧ (t.ctx n).outstanding = c.outstanding ∧
          (t.ctx n).rf = c.rf ∧ (∀ v, t.plan n = some v → v.windDown = true ∧ v.cause = some cause) ∧
          (c.lineUp = true → c.source ≠ .localKey → s.txs.hall ≠ .emergency → c.rf ≠ .off → t.plan n ≠ none)
        (past → ends .targetEnded) ∧ (¬ past → ¬ (recyclePathHolds n s ∧ hallUp s) → ends .service) ∧
        ∀ power, ¬ past → recyclePathHolds n s → hallUp s → (s.prot n).power = some power →
          (compose d power c.trim (s.pathRating d (s.prot n).path) (s.prot n).fold).limit = true → ends .rejected) ∧
      (∀ p id r, c.state = .tripped → s.plan n = some p → p.windDown = false → p.phases.rampup = .running → p.target = some id →
        s.recordOf n id = some r →
        let past : Prop := hasEnded r.finish s.now = true ∨ r.status = .done .cancelled
        let ends (cause : Cause) : Prop := ∃ t, go = .next t ∧ (t.prot n).waiting = false ∧
          told s (.planAbandoned n p.concerned cause p.phase (s.windable n)) t
        (past → ends .targetEnded) ∧ (¬ past → ¬ (recyclePathHolds n s ∧ hallUp s) → ends .service)) ∧
      ∀ d r power, c.state = .tripped → s.txDef n = some d → c.lineUp = true → c.source ≠ .localKey → c.outstanding = none →
        (s.plan n = none ∧ s.liveRec n = some r ∨
          ∃ p id, s.plan n = some p ∧ p.phases.rampup = .running ∧ p.target = some id ∧ s.recordOf n id = some r ∧
            r.status ≠ .done .cancelled) →
        hasEnded r.finish s.now = false → mayRadiate n s →
        recyclePathHolds n s → (s.prot n).power = some power →
        let k := compose d power c.trim (s.pathRating d (s.prot n).path) (s.prot n).fold
        k.limit = false →
        ∃ t, go = .next t ∧ (∃ o, (t.ctx n).outstanding = some o ∧ o.order = .rfOn k.tap) ∧ (t.ctx n).state = .rampingUp ∧
          (t.ctx n).rf = .on ∧ (t.ctx n).drive = 0 ∧ (t.prot n).waiting = false ∧ (t.prot n).d = k.d ∧
          (t.prot n).fold = (s.prot n).fold))

/-- The context state a report rebuilds (R86). -/
def Sys2Proof.Claims.rebuiltState (r : StateReport) : CtxState :=
  match r.unit with
  | .dark => .dark
  | .warming => .warming
  | .standby => .standby
  | .tuning => .tuning
  | .tuned => .ready
  | .rfOn => .onAir
  | .tripped => if r.freq.isSome then .ready else .standby
  | .fault => .faulted

/-- R184, R185: the first STATE report on a line that was lost, outside a survey and with RF on: the checks of adoption lock the
transmitter out, send RF-OFF, or adopt it with its drive, its tap and its antenna. CLEAR-FAULT on cause ADOPTION has every
selector that reaches the transmitter and its row switch queried, a second one joins the queries that are out, and the last
answer rebuilds the context and gives it its antenna where all stands recorded, or posts ADOPTION-LOCKOUT again. An RF-OFF in
hand, where the model's reading counts (log 38), is shut out here. That RF_ON is taken as RF ON whatever the RF-off flag, that a
queried selector no longer defined is passed over, and which check the repeated lockout names, are the model's (logs 61, 24, 91). -/
def Obligations.LostLinesAreAdoptedAndLockoutsCleared : Prop :=
  (∀ (s : State) (n : TxId) (r : StateReport), s.txDefined n = true → (s.ctx n).lineUp = false → (s.ctx n).state = .unknown →
     (s.ctx n).lostUnknown = true → s.txs.hall = .running ∨ s.txs.hall = .halting ∨ s.txs.hall = .halted →
     (s.ctx n).owed = false → (s.ctx n).outstanding = none → (s.ctx n).deferred = none →
     (s.chan (.tx n .rfOff)).running = false → (s.ctx n).source ≠ .localKey → s.actFaulted (.row n) = false →
     r.keyLocal = false → r.unit = .rfOn →
     let standing := s.standing n
     let matrix : Prop := s.pos (.row n) = .atp .matrix
     let load : Prop := s.pos (.row n) = .atp .load
     let shut (a : AntId) : Prop := s.zoneOpenAt a = true ∨ s.inService a = false
     ∃ t, exec (.state n r) s = .next t ∧ (t.ctx n).lineUp = true ∧ (t.ctx n).lostUnknown = false ∧ (t.ctx n).rf = .on ∧
       (2 ≤ standing.length ∨ matrix ∧ standing = [] →
         (t.ctx n).state = .faulted ∧ (t.ctx n).cause = some .adoption ∧ rfOffOn (t.ctx n)) ∧
       (standing.length < 2 → (matrix ∧ ∃ a ∈ standing, shut a) ∨ (¬ matrix ∧ ¬ load) →
         (t.ctx n).state = .onAir ∧ rfOffOn (t.ctx n)) ∧
       (standing.length < 2 → load ∨ (matrix ∧ ∃ a ∈ standing, ¬ shut a) →
         (t.ctx n).state = .onAir ∧ (t.ctx n).adopted = true ∧ (t.ctx n).drive = r.drive ∧ (t.ctx n).tap = some r.tap ∧
         (t.prot n).fold = 0 ∧ (t.prot n).run = 0 ∧ (t.prot n).mask = true ∧
         (∀ b o, s.owned n = some b → s.owner b = some o → o.kind ≠ .localKey →
           t.owner b = some { o with kind := .adopted, priority := 0 }) ∧
         (∀ a q, matrix → standing = [a] → s.run a = some q → q.owner = none → s.owned n = none →
           t.owner a = some ⟨n, .adopted, 0, s.now⟩))) ∧
  (∀ (s : State) (port : Port) (tag : Byte) (number : Nat) (n : TxId), portFree port s → itemOf 16 number = some n →
     s.txDefined n = true → (s.ctx n).state = .faulted → (s.ctx n).cause = some .adoption → (s.ctx n).rf = .off →
     (∀ r, (s.ctx n).last = some r → r.unit ≠ .fault) →
     let go := exec (.clearFault port tag number) s
     ((s.ctx n).clearing ≠ [] → go = .next (replied port tag 0x32 (.accepted .clearPending) s)) ∧
     ((s.ctx n).clearing = [] → ∃ t, go = .next t ∧ slotHolds port tag (.accepted .clearPending) t ∧
       (t.ctx n).queried = (t.ctx n).clearing ∧
       ∀ act, act ∈ (t.ctx n).clearing ↔ act = .row n ∨ ∃ a d, act = .sel a ∧ s.antDef a = some d ∧ n ∈ d.reach)) ∧
  ∀ (s : State) (n : TxId) (act : ActId), (s.ctx n).state = .faulted → (s.ctx n).cause = some .adoption →
    act ∈ (s.ctx n).clearing →
    let c := s.ctx n
    let t := s.clearingAnswered act n
    let recorded : Prop := (∃ p, s.pos (.row n) = .atp p) ∧ (s.standing n).length ≤ 1 ∧
      ∀ a, ActId.sel a ∈ c.queried → s.antDefined a = true → s.pos (.sel a) ≠ .unknown ∧ s.actFaulted (.sel a) = false
    ((∃ x ∈ c.clearing, x ≠ act) →
      t = s.updCtx n fun x => { x with clearing := x.clearing.filter fun y => !decide (y = act) }) ∧
    ((∀ x ∈ c.clearing, x = act) →
      (¬ recorded → t.ctx n = { c with clearing := [] } ∧ told s (.adoptionLockout n
        (if 2 ≤ (s.standing n).length then 1 else 2) c.rf (s.pos (.row n)) (s.standing n)) t) ∧
      (∀ r, recorded → s.txDefined n = true → c.last = some r → r.unit ≠ .fault →
        (t.ctx n).state = rebuiltState r ∧ (t.ctx n).cause = none) ∧
      (∀ a q, recorded → s.pos (.row n) = .atp .matrix → s.standing n = [a] → s.run a = some q → q.owner = none →
        s.owned n = none → t.owner a = some ⟨n, .adopted, 0, s.now⟩))

/-- R143, R173, R174: a trip enters the recent-trip list of the antenna it is charged to, newest first, with those of the last
600 s and at most four; trips of two transmitters make an antenna IN_SERVICE SUSPECT, with its notice: its queue is emptied and
the plans toward it are abandoned, while its owner keeps it. An OVERLOAD trip enters no list. That the owner keeps the antenna
is the model's reading (log 37). So are that a trip under LOCAL is charged to the lowest-numbered of two selectors at the row
(log 87), and that it enters the list whether or not RF is carried (log 39). -/
def Obligations.TripsOfTwoMakeAnAntennaSuspect : Prop :=
  (∀ (s : State) (n : TxId) (a : AntId),
     let recent := (s.trips a).filter fun x =>
       decide ((s.clk.elapsed + 4294967296 - x.2 % 4294967296) % 4294967296 ≤ 600)
     let l := ((n, s.clk.elapsed) :: recent).take 4
     let t := s.enterTrip n a
     t.trips a = l ∧ (∀ b, b ≠ a → t.trips b = s.trips b) ∧ ((∀ x ∈ l, x.1 = n) → t = s.setTrips a l) ∧
     ((∃ x ∈ l, x.1 ≠ n) → ∀ r, s.run a = some r →
       (r.service = .suspect → t = s.setTrips a l) ∧
       (r.service ≠ .suspect → ∃ names, (∀ m, m ∈ names ↔ ∃ x ∈ l, x.1 = m) ∧
         told s (.antennaSuspect a (r.owner.map (·.tx)) names (if r.service = .inService then .suspect else r.service)) t) ∧
       (r.service = .outHost ∨ r.service = .outActuator → t.run a = some r ∧ t.csq = s.csq) ∧
       (r.service = .inService →
         (∃ q, t.run a = some q ∧ q.service = .suspect ∧ q.queue = [] ∧ q.owner = r.owner) ∧
         ∀ m p, s.plan m = some p → p.windDown = false → p.aim = some a ∨ (∃ x ∈ r.queue, x.tx = m) →
           ∀ q, t.plan m = some q → q.windDown = true ∧ q.cause = some .service))) ∧
  ∀ (s : State) (n : TxId) (u : UnitTrip) (a : AntId), served n s → (s.ctx n).source = .localKey → (s.ctx n).state ≠ .unknown →
    s.pos (.row n) = .atp .matrix → (s.standing n).head? = some a →
    ∃ t, exec (.trip n u) s = .next t ∧
      (u = .overload → ∀ b, t.trips b = s.trips b) ∧
      (u ≠ .overload → (t.trips a).head? = some (n, s.clk.elapsed) ∧ (t.trips a).length ≤ 4 ∧
        ∀ b, b ≠ a → t.trips b = s.trips b)

/-- R91, R160: each expiry of the ramp channel sends the next drive of the ramp, and the expiry after a ramp down has sent 0 ends
it; with the channel stopped, a DRIVE outstanding or the plan at hold, no expiry is delivered. -/
def Obligations.RampStepsSendTheDrive : Prop :=
  ∀ (s : State) (n : TxId),
    let c := s.ctx n
    let x := s.chan (.tx n .ramp)
    let go := exec (.rampExpiry n) s
    let isOpen : Prop := x.running = true ∧ (∀ o v, c.outstanding = some o → o.order ≠ .drive v) ∧
      ∀ p, s.plan n = some p → p.atHold = false
    (¬ isOpen → go = .next s) ∧
    ∀ r d, isOpen → c.ramp = some r → s.txDef n = some d →
      let v := match r.kind with
        | .up => min (s.prot n).d ((r.count + 1) * d.rampStep)
        | .air => min (s.prot n).d (r.base + (r.count + 1) * d.rampStep)
        | .down => r.base - (r.count + 1) * d.rampStep
      (r.kind = .down → c.drive = 0 → ∃ t, go = .next t ∧ (t.ctx n).ramp = none ∧ t.chan (.tx n .ramp) = .stopped ∧
        (t.ctx n).state = c.state ∧ (t.ctx n).outstanding = c.outstanding) ∧
      (¬ (r.kind = .down ∧ c.drive = 0) → c.lineUp = true → c.source ≠ .localKey → c.outstanding = none → c.rf = .on →
        c.state = .rampingUp ∨ c.state = .onAir ∨ c.state = .rampingDown → v ≤ c.drive ∨ mayRadiate n s →
        ∃ t, go = .next t ∧ (∃ o, (t.ctx n).outstanding = some o ∧ o.order = .drive v) ∧ (t.ctx n).drive = v ∧
          (t.ctx n).ramp = some { r with count := r.count + 1 } ∧ t.chan (.tx n .ramp) = ⟨true, x.duration, x.duration⟩ ∧
          t.hds = s.hds ∧ t.sch = s.sch ∧ t.csq = s.csq ∧ t.amx = s.amx ∧ t.swb = s.swb ∧ t.rfp = s.rfp)

/-! ## What every step keeps -/

/-- R2: the ranges of a transmitter record. -/
def Sys2Proof.Claims.txInRange (d : TxDef) : Prop :=
  100 ≤ d.rating ∧ d.rating ≤ 6000 ∧ 3900 ≤ d.bandLow ∧ d.bandLow ≤ d.bandHigh ∧ d.bandHigh ≤ 26100 ∧
  d.bandLow % 5 = 0 ∧ d.bandHigh % 5 = 0 ∧ 2 ≤ d.taps.length ∧ d.taps.length ≤ 6 ∧ d.taps.Pairwise (· < ·) ∧
  (∀ x ∈ d.taps, 100 ≤ x) ∧ d.taps.getLast? = some 1000 ∧ 10 ≤ d.rampStep ∧ d.rampStep ≤ 500 ∧ 50 ≤ d.rampInterval ∧
  d.rampInterval ≤ 2000 ∧ d.rampInterval % 50 = 0 ∧ d.warmUp ≤ 600 ∧ 5 ≤ d.tuneShort ∧ d.tuneShort ≤ d.tuneLong ∧
  d.tuneLong ≤ 300 ∧ d.shortSpan ≤ 5000 ∧ 10 ≤ d.tuneTimeout ∧ d.tuneTimeout ≤ 600 ∧ 1 ≤ d.rowEst ∧ d.rowEst ≤ 60 ∧
  d.rowEst < d.rowTimeout ∧ d.rowTimeout ≤ 120 ∧ 1 ≤ d.recycleLimit ∧ d.recycleLimit ≤ 5 ∧ 2 ≤ d.recycleDelay ∧
  d.recycleDelay ≤ 60 ∧ 60 ≤ d.recycleWindow ∧ d.recycleWindow ≤ 3600 ∧ 101 ≤ d.loadWarn ∧ d.loadWarn ≤ d.loadFold ∧
  d.loadFold < d.loadTrip ∧ d.loadTrip ≤ 9999 ∧ d.idleDarken ≤ 1440

/-- R4: the ranges of an antenna record. -/
def Sys2Proof.Claims.antInRange (d : AntDef) : Prop :=
  100 ≤ d.rating ∧ d.rating ≤ 6000 ∧ 3900 ≤ d.bandLow ∧ d.bandLow ≤ d.bandHigh ∧ d.bandHigh ≤ 26100 ∧
  d.bandLow % 5 = 0 ∧ d.bandHigh % 5 = 0 ∧ d.reach ≠ [] ∧ d.reach.Pairwise (· < ·) ∧ 1 ≤ d.beams ∧ d.beams ≤ 9 ∧
  101 ≤ d.warn ∧ d.warn ≤ d.fold ∧ d.fold < d.trip ∧ d.trip ≤ 9999 ∧ 1 ≤ d.selEst ∧ d.selEst ≤ 120 ∧
  d.selEst < d.selTimeout ∧ d.selTimeout ≤ 300 ∧ 1 ≤ d.beamEst ∧ d.beamEst ≤ 300 ∧ d.beamEst < d.beamTimeout ∧
  d.beamTimeout ≤ 600

/-- R2, R4, R7: the hall description within its ranges, with no transmitter in two trim groups. -/
def Sys2Proof.Claims.hdsLegal (h : Hds) : Prop :=
  (∀ (n : TxId) (d : TxDef), h.tx[n] = some d → txInRange d) ∧ (∀ (a : AntId) (d : AntDef), h.ant[a] = some d → antInRange d) ∧
  10 ≤ h.hall.minForward ∧ h.hall.minForward ≤ 500 ∧ h.hall.minRemainder ≤ 900 ∧
  (∀ g : GroupId, (h.hall.groups[g]).Pairwise (· < ·)) ∧
  ∀ (g g' : GroupId) (n : TxId), n ∈ h.hall.groups[g] → n ∈ h.hall.groups[g'] → g = g'

/-- R2, R4, R7, R10 to R12: every step keeps the hall description within its ranges. -/
def Obligations.EveryStepKeepsTheDescriptionInRange : Prop :=
  ∀ s t : State, hdsLegal s.hds → step s = .next t → hdsLegal t.hds

/-- R166, R170: the fold level and the recycle count of every transmitter, and its run of clean windows (R167), within their
limits. -/
def Sys2Proof.Claims.protLegal (s : State) : Prop :=
  ∀ n : TxId, (s.prot n).fold ≤ 4 ∧ (s.prot n).run ≤ 8 ∧ ∀ d, s.txDef n = some d → (s.prot n).recycleCount ≤ d.recycleLimit

/-- R166, R167, R170: every step keeps the fold level at most 4, the clean run at most 8 and the recycle count at most its
limit, also where DEFINE-TX lowers it (R161). -/
def Obligations.EveryStepKeepsProtectionWithinItsLimits : Prop :=
  ∀ s t : State, protLegal s → step s = .next t → protLegal t

/-- R38: the entries of a bank: at most 1024, of distinct IDs, in the order of the bank. -/
def Sys2Proof.Claims.bankLegal (l : List Entry) : Prop :=
  l.length ≤ 1024 ∧ (l.map (·.id)).Nodup ∧ l.Pairwise fun x y => x.before y = true

/-- R38, R72: both banks lawful; at most 32 bookings, of IDs 1 to 32, in ascending order of ID. -/
def Sys2Proof.Claims.schLegal (c : Sch) : Prop :=
  bankLegal c.staged.entries ∧ (∀ b, c.active = some b → bankLegal (b.entries.map (·.1))) ∧ c.bookings.length ≤ 32 ∧
  c.bookings.Pairwise (fun x y => x.id < y.id) ∧ ∀ b ∈ c.bookings, 1 ≤ b.id ∧ b.id ≤ 32

/-- R38, R41, R55, R72, R74: every step keeps the banks and the booking list lawful. -/
def Obligations.EveryStepKeepsBanksAndBookingsLawful : Prop :=
  ∀ s t : State, schLegal s.sch → step s = .next t → schLegal t.sch

/-- R129, R133: a reservation queue holds at most four claims, never two of one transmitter and none of the antenna's owner, and
no transmitter owns two antennas. -/
def Sys2Proof.Claims.claimsLegal (s : State) : Prop :=
  (∀ (a : AntId) (r : AntRun), s.run a = some r → r.queue.length ≤ 4 ∧ (r.queue.map (·.tx)).Nodup ∧
    ∀ o, r.owner = some o → ∀ c ∈ r.queue, c.tx ≠ o.tx) ∧
  ∀ (a b : AntId) (o q : Own), s.owner a = some o → s.owner b = some q → o.tx = q.tx → a = b

/-- R129, R133: every step keeps the reservation queues and the ownerships lawful. -/
def Obligations.EveryStepKeepsQueuesAndOwnershipsLawful : Prop :=
  ∀ s t : State, claimsLegal s → step s = .next t → claimsLegal t

/-! ## Survey, adoption, restart and power-on (chapter 10) -/

/-- R175, R177 to R182: the survey ends once no turn is PENDING and both flags are set, and the hall becomes RUNNING: a
transmitter at which two selectors stand, or with RF not OFF at MATRIX with none, is FAULTED, cause ADOPTION, with RF-OFF sent
or owed (checks 1 and 2); one whose line is UP with RF not OFF on a path that is open or out of service, on no path, or UNSURE
is sent RF-OFF without a fault (check 3), and a LOST line owes no more than before; every other transmitter with RF ON is
adopted ON_AIR. A selector recorded at a transmitter that does not take it from MATRIX is grounded, or taken out of service
where the transmitter is not defined (check 4); one that a transmitter does take from MATRIX gives it the antenna, ADOPTED. A
clearing whose queries are out goes on through a check that locks its transmitter out again (R185). An ownership through a
transmitter at which two selectors stand stays where it survives from before the survey, and one begun in the survey ends: that
it ends there, and what tells the two apart, is the model's reading (log 80). -/
def Obligations.SurveyEndsWithChecksAndAdoption : Prop :=
  ∀ s : State,
    let ready (q : Survey) : Prop := (∀ n : TxId, q.turns[n] ≠ some .pending) ∧ q.bus = true ∧ q.recheckDone = true
    (s.txs.hall ≠ .surveying ∨ s.txs.survey = none ∨ (∃ q, s.txs.survey = some q ∧ ¬ ready q) →
      exec .surveyEnd s = .next s) ∧
    ∀ q, s.txs.hall = .surveying → s.txs.survey = some q → ready q →
      ∃ t, exec .surveyEnd s = .next t ∧ t.txs.hall = .running ∧ t.txs.survey = none ∧ t.hds = s.hds ∧ t.clk = s.clk ∧
        t.snaps = s.snaps ∧ t.pins = s.pins ∧
        (∀ n, s.txDefined n = true →
          let c := s.ctx n
          let standing := s.standing n
          let barred : Prop := 2 ≤ standing.length ∨ c.rf ≠ .off ∧ s.pos (.row n) = .atp .matrix ∧ standing = []
          let off : Prop := c.rf ≠ .off ∧ c.lineUp = true ∧
            ((s.pos (.row n) = .atp .matrix ∧ ∃ a ∈ standing, s.zoneOpenAt a = true ∨ s.inService a = false) ∨
              (s.pos (.row n) ≠ .atp .matrix ∧ s.pos (.row n) ≠ .atp .load) ∨ c.rf = .unsure)
          (barred → (t.ctx n).state = .faulted ∧ (t.ctx n).cause = some .adoption ∧
            (c.rf ≠ .off → c.lineUp = true → rfOffOn (t.ctx n)) ∧ (c.rf ≠ .off → c.lineUp = false → (t.ctx n).owed = true) ∧
            (c.state = .faulted → c.cause = some .adoption → (t.ctx n).clearing = c.clearing)) ∧
          (¬ barred → off → rfOffOn (t.ctx n) ∧ (t.ctx n).state = c.state ∧ (t.ctx n).cause = c.cause) ∧
          (¬ barred → c.lineUp = false → (t.ctx n).owed = c.owed) ∧
          (¬ barred → ¬ off → c.rf = .on →
            (t.ctx n).state = .onAir ∧ (t.ctx n).rf = .on ∧ (t.ctx n).adopted = true ∧ (t.prot n).fold = 0 ∧
            (t.prot n).run = 0 ∧ (t.prot n).mask = true) ∧
          ∀ a r, s.pos (.row n) = .atp .matrix → standing = [a] → s.run a = some r → c.source ≠ .localKey →
            (∀ o, r.owner = some o → o.tx = n → o.kind ≠ .localKey →
              t.owner a = some { o with kind := .adopted, priority := 0 }) ∧
            (r.owner = none → r.queue = [] → s.owned n = none → s.reservation n = none →
              t.owner a = some ⟨n, .adopted, 0, s.now⟩)) ∧
        ∀ a n, s.antDefined a = true → s.pos (.sel a) = .atp (.tx n) →
          (∀ r o, s.txDefined n = true → 2 ≤ (s.standing n).length → s.run a = some r → r.owner = some o → o.tx = n →
            (q.owners[a] = some (n, o.sec) → (t.owner a).map (·.tx) = some n) ∧
            (q.owners[a] ≠ some (n, o.sec) → r.queue = [] → t.owner a = none)) ∧
          (s.txDefined n = true → 2 ≤ (s.standing n).length ∨ s.pos (.row n) ≠ .atp .matrix → s.actFaulted (.sel a) = false →
            ∃ h ∈ t.amx.held, h.act = .sel a ∧ h.place = .ground ∧ h.asker = .amx) ∧
          ∀ r, s.txDefined n = false → s.run a = some r →
            ∃ q, t.run a = some q ∧ q.service = .outHost ∧ q.queue = [] ∧ q.query = []

/-- R29, R36, R79, R80, R105, R106, R126, R127, R139, R155, R161, R175, R186, R187: what RESTART keeps and what it returns to its
power-on values: the contexts, but for the STATUS-ASK of the survey it begins, every channel but line silence and that order's
accept channel, the tables of AMX and SWB, the receivers and the notice queues, which hold what RESTART posts; and the hall
state entered. -/
def Obligations.RestartKeepsAndReturns : Prop :=
  ∀ (s : State) (tag : Byte), portFree .a s → (s.sch.staged.state = .validating → s.sch.staged.entries ≠ []) →
    ∃ t, exec (.restart .a tag) s = .next t ∧ slotHolds .a tag (.accepted .empty) t ∧
      t.hds = s.hds ∧ t.clk = s.clk ∧ t.pins = s.pins ∧ t.sch.active = s.sch.active ∧ t.sch.arming = s.sch.arming ∧
      t.sch.lastGen = s.sch.lastGen ∧ t.sch.bookings = s.sch.bookings ∧ t.csq.hold = s.csq.hold ∧
      t.sch.staged.entries = s.sch.staged.entries ∧
      (∀ n, (t.ctx n).state = .unknown ∧ (t.ctx n).rf = .unsure ∧ (t.ctx n).stored = (s.ctx n).stored ∧
        (t.ctx n).trim = (s.ctx n).trim ∧ (t.ctx n).lineUp = true ∧ (t.ctx n).drive = 0 ∧ (t.ctx n).deferred = none ∧
        t.plan n = none ∧ t.occ n = ⟨none, none⟩ ∧ t.prot n = Prot.initial ∧ t.snaps[n] = none ∧
        t.pos (.row n) = .unknown ∧
        ((t.ctx n).source = match (s.ctx n).stored with
          | .auto => .auto
          | .manual => .manual) ∧
        (t.ctx n).tuned = none ∧ (t.ctx n).tap = none ∧ (t.ctx n).owed = false ∧ (t.ctx n).last = none ∧ (t.ctx n).cause = none ∧
        (t.ctx n).declined = false ∧ t.entry (.row n) = (if s.txDefined n then some .initial else none) ∧
        (t.ctx n).outstanding =
          (if t.txs.hall = .surveying ∧ s.txDefined n = true then some ⟨.statusAsk, s.now, .txs, .unknown, 0⟩ else none) ∧
        ∀ ch, t.chan (.tx n ch) = match ch with
          | .silence => if s.txDefined n then ⟨true, 3000, 3000⟩ else .stopped
          | .accept => if t.txs.hall = .surveying ∧ s.txDefined n = true then ⟨true, 1000, 1000⟩ else .stopped
          | _ => .stopped) ∧
      (∀ a, t.trips a = [] ∧ t.pos (.sel a) = .unknown ∧ t.pos (.beam a) = .unknown ∧
        t.entry (.sel a) = (if s.antDefined a then some .initial else none) ∧
        t.entry (.beam a) = (if s.beamDefined a then some .initial else none) ∧
        t.run a = if s.antDefined a then some ⟨.inService, none, [], []⟩ else none) ∧
      t.amx.held = [] ∧ t.swb.queue = [] ∧ t.swb.trans = .none ∧ t.swb.surveyed = false ∧
      (∀ act, t.chan (.travel act) = .stopped) ∧ t.chan .busAnswer = .stopped ∧ t.chan .sync = .stopped ∧
      (∀ port, t.chan (.gap port) = .stopped ∧ (t.port port).rx = .hunting ∧ (t.port port).waiting = none ∧
        (t.port port).queue = (allZones.filter fun z => (s.hds.zones[z]).inUse && !s.pins.gate[z]).map (fun z =>
          .notice s.clk.day s.clk.sec (.zoneOpen z (s.hds.zones[z]).members)) ++
          [.notice s.clk.day s.clk.sec (.hallState s.txs.hall t.txs.hall .restart)]) ∧
      (∀ z : ZoneId, t.amx.zone[z] = if (s.hds.zones[z]).inUse then some (!s.pins.gate[z]) else none) ∧
      t.txs.hall = (if s.pins.emergency then .emergency
        else if (∃ n, s.txDefined n = true) ∧ s.clk.state ≠ .unset then .surveying else .halted)

/-- R18, R27, R36, R59, R79, R80, R105, R106, R126, R127, R155, R161, R187, R192: what the controller holds at power-on. -/
def Sys2Proof.Claims.poweredUp (t : State) : Prop :=
  (∀ n, t.txDef n = none ∧ (t.ctx n).state = .unknown ∧ (t.ctx n).rf = .unsure ∧ (t.ctx n).source = .auto ∧
    (t.ctx n).stored = .auto ∧ (t.ctx n).tuned = none ∧ (t.ctx n).tap = none ∧ (t.ctx n).drive = 0 ∧
    (t.ctx n).trim = 1000 ∧ (t.ctx n).lineUp = true ∧ (t.ctx n).outstanding = none ∧ (t.ctx n).deferred = none ∧
    (t.ctx n).owed = false ∧ (t.ctx n).last = none ∧ (t.ctx n).cause = none ∧ (t.ctx n).declined = false ∧
    t.plan n = none ∧ t.csq.hold[n] = .none ∧ t.occ n = ⟨none, none⟩ ∧ t.snaps[n] = none ∧
    (t.prot n).fold = 0 ∧ (t.prot n).run = 0 ∧ (t.prot n).mask = false ∧ (t.prot n).recycleCount = 0 ∧
    (t.prot n).windowStart = none ∧ (t.prot n).waiting = false ∧ (t.prot n).last = none ∧ t.hds.staticMin[n] = none ∧
    (t.prot n).count = 0 ∧ (t.prot n).fwdSum = 0 ∧ (t.prot n).reflSum = 0 ∧ (t.prot n).floor = false ∧ (t.prot n).short = false) ∧
  (∀ ch, t.chan ch = ⟨false, 0, 0⟩) ∧ t.hds.hall.minForward = 50 ∧ t.hds.hall.minRemainder = 120 ∧
  t.hds.hall.panelRelease = false ∧ t.hds.hall.panelTelemetry = false ∧ (∀ g : GroupId, t.hds.hall.groups[g] = []) ∧
  (∀ z : ZoneId, t.hds.zones[z] = ⟨[], false⟩ ∧ t.amx.zone[z] = none) ∧
  (∀ a, t.antDef a = none ∧ t.run a = none ∧ t.trips a = []) ∧ (∀ act, t.entry act = none ∧ t.pos act = .unknown) ∧
  t.clk.state = .unset ∧ t.clk.day = 0 ∧ t.clk.sec = 0 ∧ t.clk.offset = 0 ∧ t.clk.missing = 0 ∧ t.clk.stray = 0 ∧
  t.clk.elapsed = 0 ∧ t.clk.pend = none ∧ t.sch.staged.state = .empty ∧ t.sch.staged.entries = [] ∧ t.sch.staged.header = none ∧
  t.sch.staged.conflicts = [] ∧ t.sch.staged.overflow = 0 ∧ t.sch.staged.willClamp = 0 ∧ t.sch.staged.tight = 0 ∧
  t.sch.staged.standing = .none ∧ t.sch.active = none ∧ t.sch.arming = .disarmed ∧
  t.sch.lastGen = 0 ∧ t.sch.bookings = [] ∧ t.amx.held = [] ∧ t.swb.queue = [] ∧ t.swb.trans = .none ∧
  t.swb.surveyed = false ∧ t.txs.survey = none ∧
  ∀ port, (t.port port).rx.state = .hunt ∧ (t.port port).waiting = none ∧ (t.port port).slot = none ∧
    (t.port port).discards = 0

/-- R18, R27, R36, R59, R79, R80, R105, R106, R126, R127, R155, R161, R187, R192: State.reset and POWER_ON leave the controller at
its power-on values, HALTED, or in EMERGENCY with its notice where the line is asserted; State.reset is in the ranges that every
step keeps. -/
def Obligations.PowerOnLeavesTheResetValues : Prop :=
  poweredUp State.reset ∧ State.reset.txs.hall = .halted ∧ State.reset.pending = [] ∧ clockLegal State.reset.clk ∧
  hdsLegal State.reset.hds ∧ protLegal State.reset ∧ schLegal State.reset.sch ∧ claimsLegal State.reset ∧
  (∀ port, queueLegal (State.reset.port port).queue) ∧ State.reset.swb.queue.length ≤ 32 ∧
  ∀ s : State, ∃ t, exec .powerOn s = .next t ∧ poweredUp t ∧ t.pins = s.pins ∧
    (s.pins.emergency = false → t.txs.hall = .halted ∧ ∀ port, (t.port port).queue = []) ∧
    (s.pins.emergency = true → t.txs.hall = .emergency ∧ ∀ port,
      (t.port port).queue = [.notice 0 0 (.hallState .halted .emergency .emergencyAsserted)])

/-! ## The work on a handed second (chapters 2, 3, 4 and 6) -/

/-- R19, R20: the clock at a second advance. -/
def Sys2Proof.Claims.secondBegun (c : Clock) : Clock :=
  { c with
    day := (nextTime c).1
    sec := (nextTime c).2.1
    offset := (nextTime c).2.2
    elapsed := (c.elapsed + 1) % 4294967296 }

/-- R23, R24: the clock takes the three parts of a time set, with no set pending and no pulse missing. -/
def Sys2Proof.Claims.timeTaken (v : TimeSet) (c : Clock) : Clock :=
  { c with day := v.day, sec := v.sec, offset := v.offset, missing := 0, pend := none }

/-- R55, R57, R62, R114: the work on a second that the state's clock holds: the AT_TIME test, the expiry test, then each defined
transmitter's bookkeeping and its decision, and at a whole minute each claim in RETRY once more. -/
def Sys2Proof.Claims.worked (u : State) : State :=
  let tested := u.atTimeTest.expiryTest
  let decided := tested.definedTx.foldl (fun x n => (x.bookkeep n).1.decisionStage n (x.bookkeep n).2) tested
  let again (x : State) (n : TxId) : State :=
    if (x.plan n).map (·.claim) = some .retry then x.submitClaim n else x
  if decided.clk.sec % 60 = 0 then allTx.foldl again decided else decided

/-- R19 to R25, R55, R57, R62, R63, R114, R129: each second advance outside UNSET and each applied time set is handed on and worked
in that order, once, on the state whose clock holds it; an on-time pulse of a second already begun, with no set pending, hands
nothing. A claim in RETRY submitted again keeps its claim second and its plan takes its standing from the answer. The instants are
the model's (log 5), and so is the one second handed where a pulse advances the second and applies a set (log 64). -/
def Obligations.HandedSecondsAreWorkedInOrder : Prop :=
  (∀ s : State, s.clk.state ≠ .unset → (s.clk.state = .locked → s.clk.tail = false) →
     exec .oscillatorSecond s = .next (worked { s.elapse (1000 - s.clk.phase) with
       clk := { secondBegun s.clk with
         phase := s.clk.phase - 1000, tail := decide (s.clk.state = .locked), seen := none } })) ∧
  (∀ (s : State) (k : Nat),
     let at_ := s.clk.phase + k
     let go := exec (.secondPulse k) s
     let held (c : Clock) (w : Option Nat) : State :=
       { s.elapse k with clk := { c with state := .locked, phase := 0, tail := false, seen := w, missing := 0 } }
     (s.clk.state = .free ∨ s.clk.state = .holdover → s.clk.tail = false → 500 ≤ at_ → at_ < 1000 →
       go = .next (worked ((held (secondBegun s.clk) none).post (.clockState s.clk.state .locked .pulse)))) ∧
     (s.clk.state = .locked → s.clk.tail = false → (∀ w, s.clk.seen = some w → w < at_) → 950 ≤ at_ → at_ < 1000 →
       (s.clk.pend = none → go = .next (worked (held (secondBegun s.clk) (some (1050 - at_))))) ∧
       ∀ v, s.clk.pend = some v → go = .next (worked (held (timeTaken v (secondBegun s.clk)) (some (1050 - at_))))) ∧
     (s.clk.state = .locked → s.clk.tail = true → s.clk.seen = none → at_ ≤ 50 →
       (s.clk.pend = none → go = .next (held s.clk (some (50 - at_)))) ∧
       ∀ v, s.clk.pend = some v → go = .next (worked (held (timeTaken v s.clk) (some (50 - at_)))))) ∧
  (∀ (s : State) (tag : Byte) (day sec : Nat) (offset : Option Nat), portFree .a s → s.clk.state ≠ .locked → day ≤ 65535 →
     sec ≤ 86399 → (∀ o, offset = some o → o ≤ 6) →
     let set : State := { s with clk := { timeTaken ⟨day, sec, offset.getD s.clk.offset⟩ s.clk with
       state := .free, phase := 0, tail := false, seen := none } }
     exec (.setTime .a tag day sec offset) s = .next (replied .a tag 0x08 (.accepted (.timeSet true day sec .free))
       (worked (if s.clk.state = .free then set else set.post (.clockState s.clk.state .free .set))))) ∧
  ∀ (s : State) (n : TxId) (p : Plan) (q : Setpoint) (a : AntId) (k : Nat), s.plan n = some p → p.setp = some q →
    q.path = some a → p.claim = .retry → p.claimAnt = some a → p.claimSec = some k → p.phases.claim = .running →
    let r := s.claim a ⟨n, q.priority, q.kind, q.wait, k⟩
    let t := s.submitClaim n
    let stands (w : ClaimStanding) : Prop := t = r.1.updPlan n fun x => { x with claim := w }
    (r.2 = .granted →
      t = r.1.updPlan n fun x => { x with claim := .granted, phases := { x.phases with claim := .ended } }) ∧
    (r.2 = .reserved → stands .reserved) ∧ (r.2 = .busy → stands .retry) ∧
    (r.2 = .unusable → p.windDown = false → told s (.planAbandoned n p.concerned .service p.phase (s.windable n)) t ∧
      ∀ v, t.plan n = some v → v.windDown = true ∧ v.cause = some .service)

end
end

