-- ==== Sys2Proof/Laws/State.lean ====
section
/-! SUPPORT. The small lemmas of the record updates: for each update, each field of `State` it leaves as it was, and what a
read of the updated record gives afterwards. -/

namespace Sys2Proof.Machine
open Sys2Proof

/-! ### updCtx -/

@[simp] theorem State.updCtx_pending (n : TxId) (f : Ctx → Ctx) (s : State) : (s.updCtx n f).pending = s.pending := rfl
@[simp] theorem State.updCtx_pins (n : TxId) (f : Ctx → Ctx) (s : State) : (s.updCtx n f).pins = s.pins := rfl
@[simp] theorem State.updCtx_hds (n : TxId) (f : Ctx → Ctx) (s : State) : (s.updCtx n f).hds = s.hds := rfl
@[simp] theorem State.updCtx_clk (n : TxId) (f : Ctx → Ctx) (s : State) : (s.updCtx n f).clk = s.clk := rfl
@[simp] theorem State.updCtx_tim (n : TxId) (f : Ctx → Ctx) (s : State) : (s.updCtx n f).tim = s.tim := rfl
@[simp] theorem State.updCtx_snaps (n : TxId) (f : Ctx → Ctx) (s : State) : (s.updCtx n f).snaps = s.snaps := rfl
@[simp] theorem State.updCtx_sch (n : TxId) (f : Ctx → Ctx) (s : State) : (s.updCtx n f).sch = s.sch := rfl
@[simp] theorem State.updCtx_csq (n : TxId) (f : Ctx → Ctx) (s : State) : (s.updCtx n f).csq = s.csq := rfl
@[simp] theorem State.updCtx_amx (n : TxId) (f : Ctx → Ctx) (s : State) : (s.updCtx n f).amx = s.amx := rfl
@[simp] theorem State.updCtx_swb (n : TxId) (f : Ctx → Ctx) (s : State) : (s.updCtx n f).swb = s.swb := rfl
@[simp] theorem State.updCtx_rfp (n : TxId) (f : Ctx → Ctx) (s : State) : (s.updCtx n f).rfp = s.rfp := rfl
@[simp] theorem State.updCtx_lnk (n : TxId) (f : Ctx → Ctx) (s : State) : (s.updCtx n f).lnk = s.lnk := rfl
@[simp] theorem State.updCtx_free (n : TxId) (f : Ctx → Ctx) (s : State) : (s.updCtx n f).free = s.free := rfl

/-! ### setPlan -/

@[simp] theorem State.setPlan_pending (n : TxId) (p : Option Plan) (s : State) : (s.setPlan n p).pending = s.pending := rfl
@[simp] theorem State.setPlan_pins (n : TxId) (p : Option Plan) (s : State) : (s.setPlan n p).pins = s.pins := rfl
@[simp] theorem State.setPlan_hds (n : TxId) (p : Option Plan) (s : State) : (s.setPlan n p).hds = s.hds := rfl
@[simp] theorem State.setPlan_clk (n : TxId) (p : Option Plan) (s : State) : (s.setPlan n p).clk = s.clk := rfl
@[simp] theorem State.setPlan_tim (n : TxId) (p : Option Plan) (s : State) : (s.setPlan n p).tim = s.tim := rfl
@[simp] theorem State.setPlan_snaps (n : TxId) (p : Option Plan) (s : State) : (s.setPlan n p).snaps = s.snaps := rfl
@[simp] theorem State.setPlan_sch (n : TxId) (p : Option Plan) (s : State) : (s.setPlan n p).sch = s.sch := rfl
@[simp] theorem State.setPlan_txs (n : TxId) (p : Option Plan) (s : State) : (s.setPlan n p).txs = s.txs := rfl
@[simp] theorem State.setPlan_amx (n : TxId) (p : Option Plan) (s : State) : (s.setPlan n p).amx = s.amx := rfl
@[simp] theorem State.setPlan_swb (n : TxId) (p : Option Plan) (s : State) : (s.setPlan n p).swb = s.swb := rfl
@[simp] theorem State.setPlan_rfp (n : TxId) (p : Option Plan) (s : State) : (s.setPlan n p).rfp = s.rfp := rfl
@[simp] theorem State.setPlan_lnk (n : TxId) (p : Option Plan) (s : State) : (s.setPlan n p).lnk = s.lnk := rfl
@[simp] theorem State.setPlan_free (n : TxId) (p : Option Plan) (s : State) : (s.setPlan n p).free = s.free := rfl

/-! ### updPlan -/

@[simp] theorem State.updPlan_pending (n : TxId) (f : Plan → Plan) (s : State) : (s.updPlan n f).pending = s.pending := rfl
@[simp] theorem State.updPlan_pins (n : TxId) (f : Plan → Plan) (s : State) : (s.updPlan n f).pins = s.pins := rfl
@[simp] theorem State.updPlan_hds (n : TxId) (f : Plan → Plan) (s : State) : (s.updPlan n f).hds = s.hds := rfl
@[simp] theorem State.updPlan_clk (n : TxId) (f : Plan → Plan) (s : State) : (s.updPlan n f).clk = s.clk := rfl
@[simp] theorem State.updPlan_tim (n : TxId) (f : Plan → Plan) (s : State) : (s.updPlan n f).tim = s.tim := rfl
@[simp] theorem State.updPlan_snaps (n : TxId) (f : Plan → Plan) (s : State) : (s.updPlan n f).snaps = s.snaps := rfl
@[simp] theorem State.updPlan_sch (n : TxId) (f : Plan → Plan) (s : State) : (s.updPlan n f).sch = s.sch := rfl
@[simp] theorem State.updPlan_txs (n : TxId) (f : Plan → Plan) (s : State) : (s.updPlan n f).txs = s.txs := rfl
@[simp] theorem State.updPlan_amx (n : TxId) (f : Plan → Plan) (s : State) : (s.updPlan n f).amx = s.amx := rfl
@[simp] theorem State.updPlan_swb (n : TxId) (f : Plan → Plan) (s : State) : (s.updPlan n f).swb = s.swb := rfl
@[simp] theorem State.updPlan_rfp (n : TxId) (f : Plan → Plan) (s : State) : (s.updPlan n f).rfp = s.rfp := rfl
@[simp] theorem State.updPlan_lnk (n : TxId) (f : Plan → Plan) (s : State) : (s.updPlan n f).lnk = s.lnk := rfl
@[simp] theorem State.updPlan_free (n : TxId) (f : Plan → Plan) (s : State) : (s.updPlan n f).free = s.free := rfl

/-! ### updProt -/

@[simp] theorem State.updProt_pending (n : TxId) (f : Prot → Prot) (s : State) : (s.updProt n f).pending = s.pending := rfl
@[simp] theorem State.updProt_pins (n : TxId) (f : Prot → Prot) (s : State) : (s.updProt n f).pins = s.pins := rfl
@[simp] theorem State.updProt_hds (n : TxId) (f : Prot → Prot) (s : State) : (s.updProt n f).hds = s.hds := rfl
@[simp] theorem State.updProt_clk (n : TxId) (f : Prot → Prot) (s : State) : (s.updProt n f).clk = s.clk := rfl
@[simp] theorem State.updProt_tim (n : TxId) (f : Prot → Prot) (s : State) : (s.updProt n f).tim = s.tim := rfl
@[simp] theorem State.updProt_snaps (n : TxId) (f : Prot → Prot) (s : State) : (s.updProt n f).snaps = s.snaps := rfl
@[simp] theorem State.updProt_sch (n : TxId) (f : Prot → Prot) (s : State) : (s.updProt n f).sch = s.sch := rfl
@[simp] theorem State.updProt_csq (n : TxId) (f : Prot → Prot) (s : State) : (s.updProt n f).csq = s.csq := rfl
@[simp] theorem State.updProt_txs (n : TxId) (f : Prot → Prot) (s : State) : (s.updProt n f).txs = s.txs := rfl
@[simp] theorem State.updProt_amx (n : TxId) (f : Prot → Prot) (s : State) : (s.updProt n f).amx = s.amx := rfl
@[simp] theorem State.updProt_swb (n : TxId) (f : Prot → Prot) (s : State) : (s.updProt n f).swb = s.swb := rfl
@[simp] theorem State.updProt_lnk (n : TxId) (f : Prot → Prot) (s : State) : (s.updProt n f).lnk = s.lnk := rfl
@[simp] theorem State.updProt_free (n : TxId) (f : Prot → Prot) (s : State) : (s.updProt n f).free = s.free := rfl

/-! ### setTrips -/

@[simp] theorem State.setTrips_pending (a : AntId) (l : List (TxId × Nat)) (s : State) : (s.setTrips a l).pending = s.pending := rfl
@[simp] theorem State.setTrips_pins (a : AntId) (l : List (TxId × Nat)) (s : State) : (s.setTrips a l).pins = s.pins := rfl
@[simp] theorem State.setTrips_hds (a : AntId) (l : List (TxId × Nat)) (s : State) : (s.setTrips a l).hds = s.hds := rfl
@[simp] theorem State.setTrips_clk (a : AntId) (l : List (TxId × Nat)) (s : State) : (s.setTrips a l).clk = s.clk := rfl
@[simp] theorem State.setTrips_tim (a : AntId) (l : List (TxId × Nat)) (s : State) : (s.setTrips a l).tim = s.tim := rfl
@[simp] theorem State.setTrips_snaps (a : AntId) (l : List (TxId × Nat)) (s : State) : (s.setTrips a l).snaps = s.snaps := rfl
@[simp] theorem State.setTrips_sch (a : AntId) (l : List (TxId × Nat)) (s : State) : (s.setTrips a l).sch = s.sch := rfl
@[simp] theorem State.setTrips_csq (a : AntId) (l : List (TxId × Nat)) (s : State) : (s.setTrips a l).csq = s.csq := rfl
@[simp] theorem State.setTrips_txs (a : AntId) (l : List (TxId × Nat)) (s : State) : (s.setTrips a l).txs = s.txs := rfl
@[simp] theorem State.setTrips_amx (a : AntId) (l : List (TxId × Nat)) (s : State) : (s.setTrips a l).amx = s.amx := rfl
@[simp] theorem State.setTrips_swb (a : AntId) (l : List (TxId × Nat)) (s : State) : (s.setTrips a l).swb = s.swb := rfl
@[simp] theorem State.setTrips_lnk (a : AntId) (l : List (TxId × Nat)) (s : State) : (s.setTrips a l).lnk = s.lnk := rfl
@[simp] theorem State.setTrips_free (a : AntId) (l : List (TxId × Nat)) (s : State) : (s.setTrips a l).free = s.free := rfl

/-! ### setRun -/

@[simp] theorem State.setRun_pending (a : AntId) (r : Option AntRun) (s : State) : (s.setRun a r).pending = s.pending := rfl
@[simp] theorem State.setRun_pins (a : AntId) (r : Option AntRun) (s : State) : (s.setRun a r).pins = s.pins := rfl
@[simp] theorem State.setRun_hds (a : AntId) (r : Option AntRun) (s : State) : (s.setRun a r).hds = s.hds := rfl
@[simp] theorem State.setRun_clk (a : AntId) (r : Option AntRun) (s : State) : (s.setRun a r).clk = s.clk := rfl
@[simp] theorem State.setRun_tim (a : AntId) (r : Option AntRun) (s : State) : (s.setRun a r).tim = s.tim := rfl
@[simp] theorem State.setRun_snaps (a : AntId) (r : Option AntRun) (s : State) : (s.setRun a r).snaps = s.snaps := rfl
@[simp] theorem State.setRun_sch (a : AntId) (r : Option AntRun) (s : State) : (s.setRun a r).sch = s.sch := rfl
@[simp] theorem State.setRun_csq (a : AntId) (r : Option AntRun) (s : State) : (s.setRun a r).csq = s.csq := rfl
@[simp] theorem State.setRun_txs (a : AntId) (r : Option AntRun) (s : State) : (s.setRun a r).txs = s.txs := rfl
@[simp] theorem State.setRun_swb (a : AntId) (r : Option AntRun) (s : State) : (s.setRun a r).swb = s.swb := rfl
@[simp] theorem State.setRun_rfp (a : AntId) (r : Option AntRun) (s : State) : (s.setRun a r).rfp = s.rfp := rfl
@[simp] theorem State.setRun_lnk (a : AntId) (r : Option AntRun) (s : State) : (s.setRun a r).lnk = s.lnk := rfl
@[simp] theorem State.setRun_free (a : AntId) (r : Option AntRun) (s : State) : (s.setRun a r).free = s.free := rfl

/-! ### updRun -/

@[simp] theorem State.updRun_pending (a : AntId) (f : AntRun → AntRun) (s : State) : (s.updRun a f).pending = s.pending := rfl
@[simp] theorem State.updRun_pins (a : AntId) (f : AntRun → AntRun) (s : State) : (s.updRun a f).pins = s.pins := rfl
@[simp] theorem State.updRun_hds (a : AntId) (f : AntRun → AntRun) (s : State) : (s.updRun a f).hds = s.hds := rfl
@[simp] theorem State.updRun_clk (a : AntId) (f : AntRun → AntRun) (s : State) : (s.updRun a f).clk = s.clk := rfl
@[simp] theorem State.updRun_tim (a : AntId) (f : AntRun → AntRun) (s : State) : (s.updRun a f).tim = s.tim := rfl
@[simp] theorem State.updRun_snaps (a : AntId) (f : AntRun → AntRun) (s : State) : (s.updRun a f).snaps = s.snaps := rfl
@[simp] theorem State.updRun_sch (a : AntId) (f : AntRun → AntRun) (s : State) : (s.updRun a f).sch = s.sch := rfl
@[simp] theorem State.updRun_csq (a : AntId) (f : AntRun → AntRun) (s : State) : (s.updRun a f).csq = s.csq := rfl
@[simp] theorem State.updRun_txs (a : AntId) (f : AntRun → AntRun) (s : State) : (s.updRun a f).txs = s.txs := rfl
@[simp] theorem State.updRun_swb (a : AntId) (f : AntRun → AntRun) (s : State) : (s.updRun a f).swb = s.swb := rfl
@[simp] theorem State.updRun_rfp (a : AntId) (f : AntRun → AntRun) (s : State) : (s.updRun a f).rfp = s.rfp := rfl
@[simp] theorem State.updRun_lnk (a : AntId) (f : AntRun → AntRun) (s : State) : (s.updRun a f).lnk = s.lnk := rfl
@[simp] theorem State.updRun_free (a : AntId) (f : AntRun → AntRun) (s : State) : (s.updRun a f).free = s.free := rfl

/-! ### updOcc -/

@[simp] theorem State.updOcc_pending (n : TxId) (f : Occ → Occ) (s : State) : (s.updOcc n f).pending = s.pending := rfl
@[simp] theorem State.updOcc_pins (n : TxId) (f : Occ → Occ) (s : State) : (s.updOcc n f).pins = s.pins := rfl
@[simp] theorem State.updOcc_hds (n : TxId) (f : Occ → Occ) (s : State) : (s.updOcc n f).hds = s.hds := rfl
@[simp] theorem State.updOcc_clk (n : TxId) (f : Occ → Occ) (s : State) : (s.updOcc n f).clk = s.clk := rfl
@[simp] theorem State.updOcc_tim (n : TxId) (f : Occ → Occ) (s : State) : (s.updOcc n f).tim = s.tim := rfl
@[simp] theorem State.updOcc_snaps (n : TxId) (f : Occ → Occ) (s : State) : (s.updOcc n f).snaps = s.snaps := rfl
@[simp] theorem State.updOcc_csq (n : TxId) (f : Occ → Occ) (s : State) : (s.updOcc n f).csq = s.csq := rfl
@[simp] theorem State.updOcc_txs (n : TxId) (f : Occ → Occ) (s : State) : (s.updOcc n f).txs = s.txs := rfl
@[simp] theorem State.updOcc_amx (n : TxId) (f : Occ → Occ) (s : State) : (s.updOcc n f).amx = s.amx := rfl
@[simp] theorem State.updOcc_swb (n : TxId) (f : Occ → Occ) (s : State) : (s.updOcc n f).swb = s.swb := rfl
@[simp] theorem State.updOcc_rfp (n : TxId) (f : Occ → Occ) (s : State) : (s.updOcc n f).rfp = s.rfp := rfl
@[simp] theorem State.updOcc_lnk (n : TxId) (f : Occ → Occ) (s : State) : (s.updOcc n f).lnk = s.lnk := rfl
@[simp] theorem State.updOcc_free (n : TxId) (f : Occ → Occ) (s : State) : (s.updOcc n f).free = s.free := rfl

/-! ### updStaged -/

@[simp] theorem State.updStaged_pending (f : StagedBank → StagedBank) (s : State) : (s.updStaged f).pending = s.pending := rfl
@[simp] theorem State.updStaged_pins (f : StagedBank → StagedBank) (s : State) : (s.updStaged f).pins = s.pins := rfl
@[simp] theorem State.updStaged_hds (f : StagedBank → StagedBank) (s : State) : (s.updStaged f).hds = s.hds := rfl
@[simp] theorem State.updStaged_clk (f : StagedBank → StagedBank) (s : State) : (s.updStaged f).clk = s.clk := rfl
@[simp] theorem State.updStaged_tim (f : StagedBank → StagedBank) (s : State) : (s.updStaged f).tim = s.tim := rfl
@[simp] theorem State.updStaged_snaps (f : StagedBank → StagedBank) (s : State) : (s.updStaged f).snaps = s.snaps := rfl
@[simp] theorem State.updStaged_csq (f : StagedBank → StagedBank) (s : State) : (s.updStaged f).csq = s.csq := rfl
@[simp] theorem State.updStaged_txs (f : StagedBank → StagedBank) (s : State) : (s.updStaged f).txs = s.txs := rfl
@[simp] theorem State.updStaged_amx (f : StagedBank → StagedBank) (s : State) : (s.updStaged f).amx = s.amx := rfl
@[simp] theorem State.updStaged_swb (f : StagedBank → StagedBank) (s : State) : (s.updStaged f).swb = s.swb := rfl
@[simp] theorem State.updStaged_rfp (f : StagedBank → StagedBank) (s : State) : (s.updStaged f).rfp = s.rfp := rfl
@[simp] theorem State.updStaged_lnk (f : StagedBank → StagedBank) (s : State) : (s.updStaged f).lnk = s.lnk := rfl
@[simp] theorem State.updStaged_free (f : StagedBank → StagedBank) (s : State) : (s.updStaged f).free = s.free := rfl

/-! ### arm -/

@[simp] theorem State.arm_pending (a : Arming) (s : State) : (s.arm a).pending = s.pending := rfl
@[simp] theorem State.arm_pins (a : Arming) (s : State) : (s.arm a).pins = s.pins := rfl
@[simp] theorem State.arm_hds (a : Arming) (s : State) : (s.arm a).hds = s.hds := rfl
@[simp] theorem State.arm_clk (a : Arming) (s : State) : (s.arm a).clk = s.clk := rfl
@[simp] theorem State.arm_tim (a : Arming) (s : State) : (s.arm a).tim = s.tim := rfl
@[simp] theorem State.arm_snaps (a : Arming) (s : State) : (s.arm a).snaps = s.snaps := rfl
@[simp] theorem State.arm_csq (a : Arming) (s : State) : (s.arm a).csq = s.csq := rfl
@[simp] theorem State.arm_txs (a : Arming) (s : State) : (s.arm a).txs = s.txs := rfl
@[simp] theorem State.arm_amx (a : Arming) (s : State) : (s.arm a).amx = s.amx := rfl
@[simp] theorem State.arm_swb (a : Arming) (s : State) : (s.arm a).swb = s.swb := rfl
@[simp] theorem State.arm_rfp (a : Arming) (s : State) : (s.arm a).rfp = s.rfp := rfl
@[simp] theorem State.arm_lnk (a : Arming) (s : State) : (s.arm a).lnk = s.lnk := rfl
@[simp] theorem State.arm_free (a : Arming) (s : State) : (s.arm a).free = s.free := rfl

/-! ### updClk -/

@[simp] theorem State.updClk_pending (f : Clock → Clock) (s : State) : (s.updClk f).pending = s.pending := rfl
@[simp] theorem State.updClk_pins (f : Clock → Clock) (s : State) : (s.updClk f).pins = s.pins := rfl
@[simp] theorem State.updClk_hds (f : Clock → Clock) (s : State) : (s.updClk f).hds = s.hds := rfl
@[simp] theorem State.updClk_tim (f : Clock → Clock) (s : State) : (s.updClk f).tim = s.tim := rfl
@[simp] theorem State.updClk_snaps (f : Clock → Clock) (s : State) : (s.updClk f).snaps = s.snaps := rfl
@[simp] theorem State.updClk_sch (f : Clock → Clock) (s : State) : (s.updClk f).sch = s.sch := rfl
@[simp] theorem State.updClk_csq (f : Clock → Clock) (s : State) : (s.updClk f).csq = s.csq := rfl
@[simp] theorem State.updClk_txs (f : Clock → Clock) (s : State) : (s.updClk f).txs = s.txs := rfl
@[simp] theorem State.updClk_amx (f : Clock → Clock) (s : State) : (s.updClk f).amx = s.amx := rfl
@[simp] theorem State.updClk_swb (f : Clock → Clock) (s : State) : (s.updClk f).swb = s.swb := rfl
@[simp] theorem State.updClk_rfp (f : Clock → Clock) (s : State) : (s.updClk f).rfp = s.rfp := rfl
@[simp] theorem State.updClk_lnk (f : Clock → Clock) (s : State) : (s.updClk f).lnk = s.lnk := rfl
@[simp] theorem State.updClk_free (f : Clock → Clock) (s : State) : (s.updClk f).free = s.free := rfl

/-! ### withHall -/

@[simp] theorem State.withHall_pending (h : HallState) (s : State) : (s.withHall h).pending = s.pending := rfl
@[simp] theorem State.withHall_pins (h : HallState) (s : State) : (s.withHall h).pins = s.pins := rfl
@[simp] theorem State.withHall_hds (h : HallState) (s : State) : (s.withHall h).hds = s.hds := rfl
@[simp] theorem State.withHall_clk (h : HallState) (s : State) : (s.withHall h).clk = s.clk := rfl
@[simp] theorem State.withHall_tim (h : HallState) (s : State) : (s.withHall h).tim = s.tim := rfl
@[simp] theorem State.withHall_snaps (h : HallState) (s : State) : (s.withHall h).snaps = s.snaps := rfl
@[simp] theorem State.withHall_sch (h : HallState) (s : State) : (s.withHall h).sch = s.sch := rfl
@[simp] theorem State.withHall_csq (h : HallState) (s : State) : (s.withHall h).csq = s.csq := rfl
@[simp] theorem State.withHall_amx (h : HallState) (s : State) : (s.withHall h).amx = s.amx := rfl
@[simp] theorem State.withHall_swb (h : HallState) (s : State) : (s.withHall h).swb = s.swb := rfl
@[simp] theorem State.withHall_rfp (h : HallState) (s : State) : (s.withHall h).rfp = s.rfp := rfl
@[simp] theorem State.withHall_lnk (h : HallState) (s : State) : (s.withHall h).lnk = s.lnk := rfl
@[simp] theorem State.withHall_free (h : HallState) (s : State) : (s.withHall h).free = s.free := rfl

/-! ### dropSurvey -/

@[simp] theorem State.dropSurvey_pending (s : State) : (s.dropSurvey).pending = s.pending := rfl
@[simp] theorem State.dropSurvey_pins (s : State) : (s.dropSurvey).pins = s.pins := rfl
@[simp] theorem State.dropSurvey_hds (s : State) : (s.dropSurvey).hds = s.hds := rfl
@[simp] theorem State.dropSurvey_clk (s : State) : (s.dropSurvey).clk = s.clk := rfl
@[simp] theorem State.dropSurvey_tim (s : State) : (s.dropSurvey).tim = s.tim := rfl
@[simp] theorem State.dropSurvey_snaps (s : State) : (s.dropSurvey).snaps = s.snaps := rfl
@[simp] theorem State.dropSurvey_sch (s : State) : (s.dropSurvey).sch = s.sch := rfl
@[simp] theorem State.dropSurvey_csq (s : State) : (s.dropSurvey).csq = s.csq := rfl
@[simp] theorem State.dropSurvey_amx (s : State) : (s.dropSurvey).amx = s.amx := rfl
@[simp] theorem State.dropSurvey_swb (s : State) : (s.dropSurvey).swb = s.swb := rfl
@[simp] theorem State.dropSurvey_rfp (s : State) : (s.dropSurvey).rfp = s.rfp := rfl
@[simp] theorem State.dropSurvey_lnk (s : State) : (s.dropSurvey).lnk = s.lnk := rfl
@[simp] theorem State.dropSurvey_free (s : State) : (s.dropSurvey).free = s.free := rfl

/-! ### setTurn -/

@[simp] theorem State.setTurn_pending (n : TxId) (v : Turn) (s : State) : (s.setTurn n v).pending = s.pending := rfl
@[simp] theorem State.setTurn_pins (n : TxId) (v : Turn) (s : State) : (s.setTurn n v).pins = s.pins := rfl
@[simp] theorem State.setTurn_hds (n : TxId) (v : Turn) (s : State) : (s.setTurn n v).hds = s.hds := rfl
@[simp] theorem State.setTurn_clk (n : TxId) (v : Turn) (s : State) : (s.setTurn n v).clk = s.clk := rfl
@[simp] theorem State.setTurn_tim (n : TxId) (v : Turn) (s : State) : (s.setTurn n v).tim = s.tim := rfl
@[simp] theorem State.setTurn_snaps (n : TxId) (v : Turn) (s : State) : (s.setTurn n v).snaps = s.snaps := rfl
@[simp] theorem State.setTurn_sch (n : TxId) (v : Turn) (s : State) : (s.setTurn n v).sch = s.sch := rfl
@[simp] theorem State.setTurn_csq (n : TxId) (v : Turn) (s : State) : (s.setTurn n v).csq = s.csq := rfl
@[simp] theorem State.setTurn_amx (n : TxId) (v : Turn) (s : State) : (s.setTurn n v).amx = s.amx := rfl
@[simp] theorem State.setTurn_swb (n : TxId) (v : Turn) (s : State) : (s.setTurn n v).swb = s.swb := rfl
@[simp] theorem State.setTurn_rfp (n : TxId) (v : Turn) (s : State) : (s.setTurn n v).rfp = s.rfp := rfl
@[simp] theorem State.setTurn_lnk (n : TxId) (v : Turn) (s : State) : (s.setTurn n v).lnk = s.lnk := rfl
@[simp] theorem State.setTurn_free (n : TxId) (v : Turn) (s : State) : (s.setTurn n v).free = s.free := rfl

/-! ### loseTurn -/

@[simp] theorem State.loseTurn_pending (n : TxId) (s : State) : (s.loseTurn n).pending = s.pending := rfl
@[simp] theorem State.loseTurn_pins (n : TxId) (s : State) : (s.loseTurn n).pins = s.pins := rfl
@[simp] theorem State.loseTurn_hds (n : TxId) (s : State) : (s.loseTurn n).hds = s.hds := rfl
@[simp] theorem State.loseTurn_clk (n : TxId) (s : State) : (s.loseTurn n).clk = s.clk := rfl
@[simp] theorem State.loseTurn_tim (n : TxId) (s : State) : (s.loseTurn n).tim = s.tim := rfl
@[simp] theorem State.loseTurn_snaps (n : TxId) (s : State) : (s.loseTurn n).snaps = s.snaps := rfl
@[simp] theorem State.loseTurn_sch (n : TxId) (s : State) : (s.loseTurn n).sch = s.sch := rfl
@[simp] theorem State.loseTurn_csq (n : TxId) (s : State) : (s.loseTurn n).csq = s.csq := rfl
@[simp] theorem State.loseTurn_amx (n : TxId) (s : State) : (s.loseTurn n).amx = s.amx := rfl
@[simp] theorem State.loseTurn_swb (n : TxId) (s : State) : (s.loseTurn n).swb = s.swb := rfl
@[simp] theorem State.loseTurn_rfp (n : TxId) (s : State) : (s.loseTurn n).rfp = s.rfp := rfl
@[simp] theorem State.loseTurn_lnk (n : TxId) (s : State) : (s.loseTurn n).lnk = s.lnk := rfl
@[simp] theorem State.loseTurn_free (n : TxId) (s : State) : (s.loseTurn n).free = s.free := rfl

/-! ### takeAnt -/

@[simp] theorem State.takeAnt_pending (a : AntId) (o : Own) (s : State) : (s.takeAnt a o).pending = s.pending := rfl
@[simp] theorem State.takeAnt_pins (a : AntId) (o : Own) (s : State) : (s.takeAnt a o).pins = s.pins := rfl
@[simp] theorem State.takeAnt_hds (a : AntId) (o : Own) (s : State) : (s.takeAnt a o).hds = s.hds := rfl
@[simp] theorem State.takeAnt_clk (a : AntId) (o : Own) (s : State) : (s.takeAnt a o).clk = s.clk := rfl
@[simp] theorem State.takeAnt_tim (a : AntId) (o : Own) (s : State) : (s.takeAnt a o).tim = s.tim := rfl
@[simp] theorem State.takeAnt_snaps (a : AntId) (o : Own) (s : State) : (s.takeAnt a o).snaps = s.snaps := rfl
@[simp] theorem State.takeAnt_sch (a : AntId) (o : Own) (s : State) : (s.takeAnt a o).sch = s.sch := rfl
@[simp] theorem State.takeAnt_csq (a : AntId) (o : Own) (s : State) : (s.takeAnt a o).csq = s.csq := rfl
@[simp] theorem State.takeAnt_txs (a : AntId) (o : Own) (s : State) : (s.takeAnt a o).txs = s.txs := rfl
@[simp] theorem State.takeAnt_swb (a : AntId) (o : Own) (s : State) : (s.takeAnt a o).swb = s.swb := rfl
@[simp] theorem State.takeAnt_rfp (a : AntId) (o : Own) (s : State) : (s.takeAnt a o).rfp = s.rfp := rfl
@[simp] theorem State.takeAnt_lnk (a : AntId) (o : Own) (s : State) : (s.takeAnt a o).lnk = s.lnk := rfl
@[simp] theorem State.takeAnt_free (a : AntId) (o : Own) (s : State) : (s.takeAnt a o).free = s.free := rfl

/-! ### setChan -/

@[simp] theorem State.setChan_pending (ch : ChanId) (v : Chan) (s : State) : (s.setChan ch v).pending = s.pending := rfl
@[simp] theorem State.setChan_pins (ch : ChanId) (v : Chan) (s : State) : (s.setChan ch v).pins = s.pins := rfl
@[simp] theorem State.setChan_hds (ch : ChanId) (v : Chan) (s : State) : (s.setChan ch v).hds = s.hds := rfl
@[simp] theorem State.setChan_clk (ch : ChanId) (v : Chan) (s : State) : (s.setChan ch v).clk = s.clk := rfl
@[simp] theorem State.setChan_snaps (ch : ChanId) (v : Chan) (s : State) : (s.setChan ch v).snaps = s.snaps := rfl
@[simp] theorem State.setChan_sch (ch : ChanId) (v : Chan) (s : State) : (s.setChan ch v).sch = s.sch := rfl
@[simp] theorem State.setChan_csq (ch : ChanId) (v : Chan) (s : State) : (s.setChan ch v).csq = s.csq := rfl
@[simp] theorem State.setChan_txs (ch : ChanId) (v : Chan) (s : State) : (s.setChan ch v).txs = s.txs := rfl
@[simp] theorem State.setChan_amx (ch : ChanId) (v : Chan) (s : State) : (s.setChan ch v).amx = s.amx := rfl
@[simp] theorem State.setChan_swb (ch : ChanId) (v : Chan) (s : State) : (s.setChan ch v).swb = s.swb := rfl
@[simp] theorem State.setChan_rfp (ch : ChanId) (v : Chan) (s : State) : (s.setChan ch v).rfp = s.rfp := rfl
@[simp] theorem State.setChan_lnk (ch : ChanId) (v : Chan) (s : State) : (s.setChan ch v).lnk = s.lnk := rfl
@[simp] theorem State.setChan_free (ch : ChanId) (v : Chan) (s : State) : (s.setChan ch v).free = s.free := rfl

/-! ### setTrans -/

@[simp] theorem State.setTrans_pending (t : Trans) (s : State) : (s.setTrans t).pending = s.pending := rfl
@[simp] theorem State.setTrans_pins (t : Trans) (s : State) : (s.setTrans t).pins = s.pins := rfl
@[simp] theorem State.setTrans_hds (t : Trans) (s : State) : (s.setTrans t).hds = s.hds := rfl
@[simp] theorem State.setTrans_clk (t : Trans) (s : State) : (s.setTrans t).clk = s.clk := rfl
@[simp] theorem State.setTrans_tim (t : Trans) (s : State) : (s.setTrans t).tim = s.tim := rfl
@[simp] theorem State.setTrans_snaps (t : Trans) (s : State) : (s.setTrans t).snaps = s.snaps := rfl
@[simp] theorem State.setTrans_sch (t : Trans) (s : State) : (s.setTrans t).sch = s.sch := rfl
@[simp] theorem State.setTrans_csq (t : Trans) (s : State) : (s.setTrans t).csq = s.csq := rfl
@[simp] theorem State.setTrans_txs (t : Trans) (s : State) : (s.setTrans t).txs = s.txs := rfl
@[simp] theorem State.setTrans_amx (t : Trans) (s : State) : (s.setTrans t).amx = s.amx := rfl
@[simp] theorem State.setTrans_rfp (t : Trans) (s : State) : (s.setTrans t).rfp = s.rfp := rfl
@[simp] theorem State.setTrans_lnk (t : Trans) (s : State) : (s.setTrans t).lnk = s.lnk := rfl
@[simp] theorem State.setTrans_free (t : Trans) (s : State) : (s.setTrans t).free = s.free := rfl

/-! ### setQueue -/

@[simp] theorem State.setQueue_pending (q : List BusOrder) (s : State) : (s.setQueue q).pending = s.pending := rfl
@[simp] theorem State.setQueue_pins (q : List BusOrder) (s : State) : (s.setQueue q).pins = s.pins := rfl
@[simp] theorem State.setQueue_hds (q : List BusOrder) (s : State) : (s.setQueue q).hds = s.hds := rfl
@[simp] theorem State.setQueue_clk (q : List BusOrder) (s : State) : (s.setQueue q).clk = s.clk := rfl
@[simp] theorem State.setQueue_tim (q : List BusOrder) (s : State) : (s.setQueue q).tim = s.tim := rfl
@[simp] theorem State.setQueue_snaps (q : List BusOrder) (s : State) : (s.setQueue q).snaps = s.snaps := rfl
@[simp] theorem State.setQueue_sch (q : List BusOrder) (s : State) : (s.setQueue q).sch = s.sch := rfl
@[simp] theorem State.setQueue_csq (q : List BusOrder) (s : State) : (s.setQueue q).csq = s.csq := rfl
@[simp] theorem State.setQueue_txs (q : List BusOrder) (s : State) : (s.setQueue q).txs = s.txs := rfl
@[simp] theorem State.setQueue_amx (q : List BusOrder) (s : State) : (s.setQueue q).amx = s.amx := rfl
@[simp] theorem State.setQueue_rfp (q : List BusOrder) (s : State) : (s.setQueue q).rfp = s.rfp := rfl
@[simp] theorem State.setQueue_lnk (q : List BusOrder) (s : State) : (s.setQueue q).lnk = s.lnk := rfl
@[simp] theorem State.setQueue_free (q : List BusOrder) (s : State) : (s.setQueue q).free = s.free := rfl

/-! ### setGate -/

@[simp] theorem State.setGate_pending (z : ZoneId) (v : Bool) (s : State) : (s.setGate z v).pending = s.pending := rfl
@[simp] theorem State.setGate_hds (z : ZoneId) (v : Bool) (s : State) : (s.setGate z v).hds = s.hds := rfl
@[simp] theorem State.setGate_clk (z : ZoneId) (v : Bool) (s : State) : (s.setGate z v).clk = s.clk := rfl
@[simp] theorem State.setGate_tim (z : ZoneId) (v : Bool) (s : State) : (s.setGate z v).tim = s.tim := rfl
@[simp] theorem State.setGate_snaps (z : ZoneId) (v : Bool) (s : State) : (s.setGate z v).snaps = s.snaps := rfl
@[simp] theorem State.setGate_sch (z : ZoneId) (v : Bool) (s : State) : (s.setGate z v).sch = s.sch := rfl
@[simp] theorem State.setGate_csq (z : ZoneId) (v : Bool) (s : State) : (s.setGate z v).csq = s.csq := rfl
@[simp] theorem State.setGate_txs (z : ZoneId) (v : Bool) (s : State) : (s.setGate z v).txs = s.txs := rfl
@[simp] theorem State.setGate_amx (z : ZoneId) (v : Bool) (s : State) : (s.setGate z v).amx = s.amx := rfl
@[simp] theorem State.setGate_swb (z : ZoneId) (v : Bool) (s : State) : (s.setGate z v).swb = s.swb := rfl
@[simp] theorem State.setGate_rfp (z : ZoneId) (v : Bool) (s : State) : (s.setGate z v).rfp = s.rfp := rfl
@[simp] theorem State.setGate_lnk (z : ZoneId) (v : Bool) (s : State) : (s.setGate z v).lnk = s.lnk := rfl
@[simp] theorem State.setGate_free (z : ZoneId) (v : Bool) (s : State) : (s.setGate z v).free = s.free := rfl

/-! ### post -/

@[simp] theorem State.post_pending (nt : Notice) (s : State) : (s.post nt).pending = s.pending := rfl
@[simp] theorem State.post_pins (nt : Notice) (s : State) : (s.post nt).pins = s.pins := rfl
@[simp] theorem State.post_hds (nt : Notice) (s : State) : (s.post nt).hds = s.hds := rfl
@[simp] theorem State.post_clk (nt : Notice) (s : State) : (s.post nt).clk = s.clk := rfl
@[simp] theorem State.post_tim (nt : Notice) (s : State) : (s.post nt).tim = s.tim := rfl
@[simp] theorem State.post_snaps (nt : Notice) (s : State) : (s.post nt).snaps = s.snaps := rfl
@[simp] theorem State.post_sch (nt : Notice) (s : State) : (s.post nt).sch = s.sch := rfl
@[simp] theorem State.post_csq (nt : Notice) (s : State) : (s.post nt).csq = s.csq := rfl
@[simp] theorem State.post_txs (nt : Notice) (s : State) : (s.post nt).txs = s.txs := rfl
@[simp] theorem State.post_amx (nt : Notice) (s : State) : (s.post nt).amx = s.amx := rfl
@[simp] theorem State.post_swb (nt : Notice) (s : State) : (s.post nt).swb = s.swb := rfl
@[simp] theorem State.post_rfp (nt : Notice) (s : State) : (s.post nt).rfp = s.rfp := rfl
@[simp] theorem State.post_free (nt : Notice) (s : State) : (s.post nt).free = s.free := rfl

/-! ### withPending -/

@[simp] theorem State.withPending_pins (l : List Instr) (s : State) : (s.withPending l).pins = s.pins := rfl
@[simp] theorem State.withPending_hds (l : List Instr) (s : State) : (s.withPending l).hds = s.hds := rfl
@[simp] theorem State.withPending_clk (l : List Instr) (s : State) : (s.withPending l).clk = s.clk := rfl
@[simp] theorem State.withPending_tim (l : List Instr) (s : State) : (s.withPending l).tim = s.tim := rfl
@[simp] theorem State.withPending_snaps (l : List Instr) (s : State) : (s.withPending l).snaps = s.snaps := rfl
@[simp] theorem State.withPending_sch (l : List Instr) (s : State) : (s.withPending l).sch = s.sch := rfl
@[simp] theorem State.withPending_csq (l : List Instr) (s : State) : (s.withPending l).csq = s.csq := rfl
@[simp] theorem State.withPending_txs (l : List Instr) (s : State) : (s.withPending l).txs = s.txs := rfl
@[simp] theorem State.withPending_amx (l : List Instr) (s : State) : (s.withPending l).amx = s.amx := rfl
@[simp] theorem State.withPending_swb (l : List Instr) (s : State) : (s.withPending l).swb = s.swb := rfl
@[simp] theorem State.withPending_rfp (l : List Instr) (s : State) : (s.withPending l).rfp = s.rfp := rfl
@[simp] theorem State.withPending_lnk (l : List Instr) (s : State) : (s.withPending l).lnk = s.lnk := rfl
@[simp] theorem State.withPending_free (l : List Instr) (s : State) : (s.withPending l).free = s.free := rfl

/-! ### setEntry -/

@[simp] theorem State.setEntry_pending (act : ActId) (e : Option ActEntry) (s : State) : (s.setEntry act e).pending = s.pending := by cases act <;> rfl
@[simp] theorem State.setEntry_pins (act : ActId) (e : Option ActEntry) (s : State) : (s.setEntry act e).pins = s.pins := by cases act <;> rfl
@[simp] theorem State.setEntry_hds (act : ActId) (e : Option ActEntry) (s : State) : (s.setEntry act e).hds = s.hds := by cases act <;> rfl
@[simp] theorem State.setEntry_clk (act : ActId) (e : Option ActEntry) (s : State) : (s.setEntry act e).clk = s.clk := by cases act <;> rfl
@[simp] theorem State.setEntry_tim (act : ActId) (e : Option ActEntry) (s : State) : (s.setEntry act e).tim = s.tim := by cases act <;> rfl
@[simp] theorem State.setEntry_snaps (act : ActId) (e : Option ActEntry) (s : State) : (s.setEntry act e).snaps = s.snaps := by cases act <;> rfl
@[simp] theorem State.setEntry_sch (act : ActId) (e : Option ActEntry) (s : State) : (s.setEntry act e).sch = s.sch := by cases act <;> rfl
@[simp] theorem State.setEntry_csq (act : ActId) (e : Option ActEntry) (s : State) : (s.setEntry act e).csq = s.csq := by cases act <;> rfl
@[simp] theorem State.setEntry_txs (act : ActId) (e : Option ActEntry) (s : State) : (s.setEntry act e).txs = s.txs := by cases act <;> rfl
@[simp] theorem State.setEntry_amx (act : ActId) (e : Option ActEntry) (s : State) : (s.setEntry act e).amx = s.amx := by cases act <;> rfl
@[simp] theorem State.setEntry_rfp (act : ActId) (e : Option ActEntry) (s : State) : (s.setEntry act e).rfp = s.rfp := by cases act <;> rfl
@[simp] theorem State.setEntry_lnk (act : ActId) (e : Option ActEntry) (s : State) : (s.setEntry act e).lnk = s.lnk := by cases act <;> rfl
@[simp] theorem State.setEntry_free (act : ActId) (e : Option ActEntry) (s : State) : (s.setEntry act e).free = s.free := by cases act <;> rfl

/-! ### setPos -/

@[simp] theorem State.setPos_pending (act : ActId) (q : Pos) (s : State) : (s.setPos act q).pending = s.pending := by cases act <;> rfl
@[simp] theorem State.setPos_pins (act : ActId) (q : Pos) (s : State) : (s.setPos act q).pins = s.pins := by cases act <;> rfl
@[simp] theorem State.setPos_hds (act : ActId) (q : Pos) (s : State) : (s.setPos act q).hds = s.hds := by cases act <;> rfl
@[simp] theorem State.setPos_clk (act : ActId) (q : Pos) (s : State) : (s.setPos act q).clk = s.clk := by cases act <;> rfl
@[simp] theorem State.setPos_tim (act : ActId) (q : Pos) (s : State) : (s.setPos act q).tim = s.tim := by cases act <;> rfl
@[simp] theorem State.setPos_snaps (act : ActId) (q : Pos) (s : State) : (s.setPos act q).snaps = s.snaps := by cases act <;> rfl
@[simp] theorem State.setPos_sch (act : ActId) (q : Pos) (s : State) : (s.setPos act q).sch = s.sch := by cases act <;> rfl
@[simp] theorem State.setPos_csq (act : ActId) (q : Pos) (s : State) : (s.setPos act q).csq = s.csq := by cases act <;> rfl
@[simp] theorem State.setPos_txs (act : ActId) (q : Pos) (s : State) : (s.setPos act q).txs = s.txs := by cases act <;> rfl
@[simp] theorem State.setPos_swb (act : ActId) (q : Pos) (s : State) : (s.setPos act q).swb = s.swb := by cases act <;> rfl
@[simp] theorem State.setPos_rfp (act : ActId) (q : Pos) (s : State) : (s.setPos act q).rfp = s.rfp := by cases act <;> rfl
@[simp] theorem State.setPos_lnk (act : ActId) (q : Pos) (s : State) : (s.setPos act q).lnk = s.lnk := by cases act <;> rfl
@[simp] theorem State.setPos_free (act : ActId) (q : Pos) (s : State) : (s.setPos act q).free = s.free := by cases act <;> rfl

/-! ### updPort -/

@[simp] theorem State.updPort_pending (port : Port) (f : PortState → PortState) (s : State) : (s.updPort port f).pending = s.pending := by cases port <;> rfl
@[simp] theorem State.updPort_pins (port : Port) (f : PortState → PortState) (s : State) : (s.updPort port f).pins = s.pins := by cases port <;> rfl
@[simp] theorem State.updPort_hds (port : Port) (f : PortState → PortState) (s : State) : (s.updPort port f).hds = s.hds := by cases port <;> rfl
@[simp] theorem State.updPort_clk (port : Port) (f : PortState → PortState) (s : State) : (s.updPort port f).clk = s.clk := by cases port <;> rfl
@[simp] theorem State.updPort_tim (port : Port) (f : PortState → PortState) (s : State) : (s.updPort port f).tim = s.tim := by cases port <;> rfl
@[simp] theorem State.updPort_snaps (port : Port) (f : PortState → PortState) (s : State) : (s.updPort port f).snaps = s.snaps := by cases port <;> rfl
@[simp] theorem State.updPort_sch (port : Port) (f : PortState → PortState) (s : State) : (s.updPort port f).sch = s.sch := by cases port <;> rfl
@[simp] theorem State.updPort_csq (port : Port) (f : PortState → PortState) (s : State) : (s.updPort port f).csq = s.csq := by cases port <;> rfl
@[simp] theorem State.updPort_txs (port : Port) (f : PortState → PortState) (s : State) : (s.updPort port f).txs = s.txs := by cases port <;> rfl
@[simp] theorem State.updPort_amx (port : Port) (f : PortState → PortState) (s : State) : (s.updPort port f).amx = s.amx := by cases port <;> rfl
@[simp] theorem State.updPort_swb (port : Port) (f : PortState → PortState) (s : State) : (s.updPort port f).swb = s.swb := by cases port <;> rfl
@[simp] theorem State.updPort_rfp (port : Port) (f : PortState → PortState) (s : State) : (s.updPort port f).rfp = s.rfp := by cases port <;> rfl
@[simp] theorem State.updPort_free (port : Port) (f : PortState → PortState) (s : State) : (s.updPort port f).free = s.free := by cases port <;> rfl

/-! ### What a read gives after a write -/

@[simp] theorem State.updCtx_ctx (n : TxId) (f : Ctx → Ctx) (s : State) : (s.updCtx n f).ctx n = f (s.ctx n) := by
  simp [State.updCtx, State.ctx]

theorem State.updCtx_ctx_ne (n m : TxId) (h : m ≠ n) (f : Ctx → Ctx) (s : State) : (s.updCtx n f).ctx m = s.ctx m := by
  have : n.val ≠ m.val := fun e => h (Fin.ext e.symm)
  simp [State.updCtx, State.ctx, this]

@[simp] theorem State.updCtx_hall (n : TxId) (f : Ctx → Ctx) (s : State) : (s.updCtx n f).txs.hall = s.txs.hall := rfl

@[simp] theorem State.updCtx_survey (n : TxId) (f : Ctx → Ctx) (s : State) : (s.updCtx n f).txs.survey = s.txs.survey := rfl

@[simp] theorem State.setPlan_plan (n : TxId) (p : Option Plan) (s : State) : (s.setPlan n p).plan n = p := by
  simp [State.setPlan, State.plan]

theorem State.setPlan_plan_ne (n m : TxId) (h : m ≠ n) (p : Option Plan) (s : State) : (s.setPlan n p).plan m = s.plan m := by
  have : n.val ≠ m.val := fun e => h (Fin.ext e.symm)
  simp [State.setPlan, State.plan, this]

@[simp] theorem State.setPlan_hold (n : TxId) (p : Option Plan) (s : State) : (s.setPlan n p).csq.hold = s.csq.hold := rfl

@[simp] theorem State.updPlan_plan (n : TxId) (f : Plan → Plan) (s : State) : (s.updPlan n f).plan n = (s.plan n).map f :=
  State.setPlan_plan n _ s

@[simp] theorem State.updProt_prot (n : TxId) (f : Prot → Prot) (s : State) : (s.updProt n f).prot n = f (s.prot n) := by
  simp [State.updProt, State.prot]

theorem State.updProt_prot_ne (n m : TxId) (h : m ≠ n) (f : Prot → Prot) (s : State) : (s.updProt n f).prot m = s.prot m := by
  have : n.val ≠ m.val := fun e => h (Fin.ext e.symm)
  simp [State.updProt, State.prot, this]

@[simp] theorem State.setRun_run (a : AntId) (r : Option AntRun) (s : State) : (s.setRun a r).run a = r := by
  simp [State.setRun, State.run]

theorem State.setRun_run_ne (a b : AntId) (h : b ≠ a) (r : Option AntRun) (s : State) : (s.setRun a r).run b = s.run b := by
  have : a.val ≠ b.val := fun e => h (Fin.ext e.symm)
  simp [State.setRun, State.run, this]

@[simp] theorem State.updRun_run (a : AntId) (f : AntRun → AntRun) (s : State) : (s.updRun a f).run a = (s.run a).map f :=
  State.setRun_run a _ s

@[simp] theorem State.updOcc_occ (n : TxId) (f : Occ → Occ) (s : State) : (s.updOcc n f).occ n = f (s.occ n) := by
  simp [State.updOcc, State.occ]

@[simp] theorem State.setTrips_trips (a : AntId) (l : List (TxId × Nat)) (s : State) : (s.setTrips a l).trips a = l := by
  simp [State.setTrips, State.trips]

@[simp] theorem State.setEntry_entry (act : ActId) (e : Option ActEntry) (s : State) : (s.setEntry act e).entry act = e := by
  cases act <;> simp [State.setEntry, State.entry]

@[simp] theorem State.setPos_pos (act : ActId) (q : Pos) (s : State) : (s.setPos act q).pos act = q := by
  cases act <;> simp [State.setPos, State.pos]

@[simp] theorem State.updPort_port (port : Port) (f : PortState → PortState) (s : State) :
    (s.updPort port f).port port = f (s.port port) := by
  cases port <;> rfl

theorem State.updPort_port_ne (port other : Port) (h : other ≠ port) (f : PortState → PortState) (s : State) :
    (s.updPort port f).port other = s.port other := by
  cases port <;> cases other <;> first | rfl | exact absurd rfl h

@[simp] theorem TxTimers.put_get (c : TxChan) (v : Chan) (t : TxTimers) : (t.put c v).get c = v := by
  cases c <;> rfl

@[simp] theorem Timers.put_get (ch : ChanId) (v : Chan) (t : Timers) : (t.put ch v).get ch = v := by
  cases ch with
  | tx n c => simp [Timers.put, Timers.get]
  | travel act => cases act <;> simp [Timers.put, Timers.get]
  | busAnswer => rfl
  | gap port => cases port <;> rfl
  | sync => rfl

@[simp] theorem State.setChan_chan (ch : ChanId) (v : Chan) (s : State) : (s.setChan ch v).chan ch = v :=
  Timers.put_get ch v s.tim

@[simp] theorem State.startChan_chan (ch : ChanId) (ms : Nat) (s : State) : (s.startChan ch ms).chan ch = ⟨true, ms, ms⟩ :=
  State.setChan_chan ch _ s

@[simp] theorem State.stopChan_chan (ch : ChanId) (s : State) : (s.stopChan ch).chan ch = .stopped :=
  State.setChan_chan ch _ s

@[simp] theorem State.withHall_hall (h : HallState) (s : State) : (s.withHall h).txs.hall = h := rfl

@[simp] theorem State.withPending_pending (l : List Instr) (s : State) : (s.withPending l).pending = l := rfl

end Sys2Proof.Machine
end

