-- ==== Sys2Proof/Laws/Still.lean ====
section
/-! SUPPORT. The part of the state that the blocks do not change in their own work (waiting commands, input levels, hall
description, clock, snapshots, hold points, and the ports but for their notice queues), and how a repeated operation keeps it. -/

namespace Sys2Proof.Machine
open Sys2Proof

/-- A port without its notice queue. -/
structure QuietPort where
  rx : Rx
  waiting : Option InFrame
  lost : Rx
  slot : Option Reply
  discards : Nat
  sending : Option OutFrame
  lastReply : Bool

/-- What a port holds besides its notice queue. -/
def PortState.still (q : PortState) : QuietPort := ⟨q.rx, q.waiting, q.lost, q.slot, q.discards, q.sending, q.lastReply⟩

/-- What no block's own work changes. -/
structure Still where
  pending : List Instr
  pins : Pins
  hds : Hds
  clk : Clock
  snaps : Vector (Option Snapshot) 16
  hold : Vector HoldPoint 16
  a : QuietPort
  p : QuietPort

/-- The part of the state. -/
def State.still (s : State) : Still :=
  ⟨s.pending, s.pins, s.hds, { s.clk with phase := 0 }, s.snaps, s.csq.hold, s.lnk.a.still, s.lnk.p.still⟩

theorem State.each_still {α : Type} (l : List α) (f : α → State → State) (h : ∀ x t, (f x t).still = t.still) (s : State) :
    (s.each l f).still = s.still := by
  unfold State.each
  induction l generalizing s with
  | nil => rfl
  | cons x l ih => simp only [List.foldl_cons]; rw [ih, h]

theorem State.eachTx_still (f : TxId → State → State) (h : ∀ x t, (f x t).still = t.still) (s : State) :
    (s.eachTx f).still = s.still := State.each_still allTx f h s

theorem foldl_still {α : Type} (l : List α) (f : State → α → State) (h : ∀ t x, (f t x).still = t.still) (s : State) :
    (l.foldl f s).still = s.still := by
  induction l generalizing s with
  | nil => rfl
  | cons x l ih => simp only [List.foldl_cons]; rw [ih, h]

end Sys2Proof.Machine
end

