-- ==== Sys2Proof/Laws/Frames.lean ====
section
/-! SUPPORT. One frame lemma for each operation of the blocks: it leaves `State.still` as it was.  The operations that write
the hall description, the clock, the input levels, the snapshots, the hold points or a port are not among them. -/

namespace Sys2Proof.Machine
open Sys2Proof

/-! ### Machine/Ops.lean -/

@[simp] theorem State.setEntry_still (act : ActId) (e : Option ActEntry) (s : State) :
    (State.setEntry act e s).still = s.still := by
  simp only [State.setEntry]; repeat' split
  all_goals first | rfl | (simp; done) | (rw [State.post_still]; rfl)

@[simp] theorem State.updEntry_still (act : ActId) (f : ActEntry → ActEntry) (s : State) :
    (State.updEntry act f s).still = s.still := by
  simp [State.updEntry]

@[simp] theorem State.setPos_still (act : ActId) (q : Pos) (s : State) :
    (State.setPos act q s).still = s.still := by
  simp only [State.setPos]; repeat' split
  all_goals first | rfl | (simp; done) | (rw [State.post_still]; rfl)

@[simp] theorem State.updCtx_still (n : TxId) (f : Ctx → Ctx) (s : State) :
    (State.updCtx n f s).still = s.still := by
  rfl

@[simp] theorem State.setPlan_still (n : TxId) (p : Option Plan) (s : State) :
    (State.setPlan n p s).still = s.still := by
  rfl

@[simp] theorem State.updPlan_still (n : TxId) (f : Plan → Plan) (s : State) :
    (State.updPlan n f s).still = s.still := by
  rfl

@[simp] theorem State.updProt_still (n : TxId) (f : Prot → Prot) (s : State) :
    (State.updProt n f s).still = s.still := by
  rfl

@[simp] theorem State.setTrips_still (a : AntId) (l : List (TxId × Nat)) (s : State) :
    (State.setTrips a l s).still = s.still := by
  rfl

@[simp] theorem State.setRun_still (a : AntId) (r : Option AntRun) (s : State) :
    (State.setRun a r s).still = s.still := by
  rfl

@[simp] theorem State.updRun_still (a : AntId) (f : AntRun → AntRun) (s : State) :
    (State.updRun a f s).still = s.still := by
  rfl

@[simp] theorem State.updOcc_still (n : TxId) (f : Occ → Occ) (s : State) :
    (State.updOcc n f s).still = s.still := by
  rfl

@[simp] theorem State.withHall_still (h : HallState) (s : State) :
    (State.withHall h s).still = s.still := by
  rfl

@[simp] theorem State.post_still (nt : Notice) (s : State) :
    (State.post nt s).still = s.still := by
  rfl

@[simp] theorem State.toHall_still (h : HallState) (c : HallCause) (s : State) :
    (State.toHall h c s).still = s.still := by
  rfl

@[simp] theorem State.setChan_still (ch : ChanId) (v : Chan) (s : State) :
    (State.setChan ch v s).still = s.still := by
  rfl

@[simp] theorem State.startChan_still (ch : ChanId) (ms : Nat) (s : State) :
    (State.startChan ch ms s).still = s.still := by
  rfl

@[simp] theorem State.stopChan_still (ch : ChanId) (s : State) :
    (State.stopChan ch s).still = s.still := by
  rfl

@[simp] theorem State.retrigger_still (ch : ChanId) (s : State) :
    (State.retrigger ch s).still = s.still := by
  simp only [State.retrigger]; repeat' split
  all_goals simp

@[simp] theorem State.elapse_still (k : Nat) (s : State) :
    (State.elapse k s).still = s.still := by
  rfl

@[simp] theorem State.idle_still (s : State) :
    (State.idle s).still = s.still := by
  rfl

@[simp] theorem State.toState_still (n : TxId) (st : CtxState) (s : State) :
    (State.toState n st s).still = s.still := by
  rfl

@[simp] theorem State.toFaulted_still (n : TxId) (f : FaultCause) (s : State) :
    (State.toFaulted n f s).still = s.still := by
  rfl

@[simp] theorem State.stopRamp_still (n : TxId) (s : State) :
    (State.stopRamp n s).still = s.still := by
  rfl

/-! ### Machine/Records.lean -/

@[simp] theorem State.newRecord_still (n : TxId) (r : OccRec) (s : State) :
    (State.newRecord n r s).still = s.still := by
  rfl

@[simp] theorem State.setStatus_still (n : TxId) (id : TargetId) (st : OccStatus) (s : State) :
    (State.setStatus n id st s).still = s.still := by
  rfl

@[simp] theorem State.bookingLeaves_still (id : Nat) (c : BookEnd) (s : State) : (s.bookingLeaves id c).still = s.still := by
  simp only [State.bookingLeaves]; split
  · rw [State.post_still]; rfl
  · rfl

@[simp] theorem State.targetBookingLeaves_still (id : TargetId) (cause : BookEnd) (s : State) :
    (State.targetBookingLeaves id cause s).still = s.still := by
  simp only [State.targetBookingLeaves]; repeat' split
  all_goals simp

@[simp] theorem State.recordLive_still (n : TxId) (id : TargetId) (s : State) :
    (State.recordLive n id s).still = s.still := by
  simp only [State.recordLive]; repeat' split
  all_goals simp

@[simp] theorem State.recordLost_still (n : TxId) (id : TargetId) (cause : Cause) (s : State) :
    (State.recordLost n id cause s).still = s.still := by
  simp only [State.recordLost]; repeat' split
  all_goals simp

@[simp] theorem State.recordDone_still (n : TxId) (id : TargetId) (why : DoneReason) (s : State) :
    (State.recordDone n id why s).still = s.still := by
  simp only [State.recordDone]; repeat' split
  all_goals simp

@[simp] theorem State.endBookings_still (n : TxId) (s : State) :
    (State.endBookings n s).still = s.still := by
  unfold State.endBookings; exact State.each_still _ _ (fun x t => by simp) _

/-! ### Machine/Matrix.lean -/

@[simp] theorem State.takeAnt_still (a : AntId) (o : Own) (s : State) :
    (State.takeAnt a o s).still = s.still := by
  rfl

@[simp] theorem State.grant_still (a : AntId) (c : Claim) (s : State) :
    (State.grant a c s).still = s.still := by
  rfl

@[simp] theorem State.offer_still (a : AntId) (s : State) :
    (State.offer a s).still = s.still := by
  simp only [State.offer]; repeat' split
  all_goals simp

@[simp] theorem State.withdrawFrom_still (a : AntId) (n : TxId) (s : State) :
    (State.withdrawFrom a n s).still = s.still := by
  simp only [State.withdrawFrom]; repeat' split
  all_goals simp

@[simp] theorem State.withdrawClaim_still (n : TxId) (s : State) :
    (State.withdrawClaim n s).still = s.still := by
  simp only [State.withdrawClaim]; repeat' split
  all_goals simp

@[simp] theorem State.offerReservation_still (n : TxId) (s : State) :
    (State.offerReservation n s).still = s.still := by
  simp only [State.offerReservation]; repeat' split
  all_goals simp

@[simp] theorem State.endOwnership_still (a : AntId) (s : State) :
    (State.endOwnership a s).still = s.still := by
  simp only [State.endOwnership]; repeat' split
  all_goals simp

@[simp] theorem State.retell_still (h : Held) (s : State) :
    (State.retell h s).still = s.still := by
  rfl

@[simp] theorem State.dropHeld_still (p : Held → Bool) (s : State) :
    (State.dropHeld p s).still = s.still := by
  unfold State.dropHeld; exact State.each_still _ _ (fun x t => by simp) _

@[simp] theorem State.endFlight_still (act : ActId) (s : State) :
    (State.endFlight act s).still = s.still := by
  unfold State.endFlight; exact State.each_still _ _ (fun x t => by simp) _

/-! ### Machine/Changeover.lean -/

@[simp] theorem State.leaveTripped_still (n : TxId) (s : State) :
    (State.leaveTripped n s).still = s.still := by
  simp only [State.leaveTripped]; repeat' split
  all_goals simp

@[simp] theorem State.endTrip_still (n : TxId) (s : State) :
    (State.endTrip n s).still = s.still := by
  simp [State.endTrip]

@[simp] theorem State.stopRecycle_still (n : TxId) (s : State) :
    (State.stopRecycle n s).still = s.still := by
  simp only [State.stopRecycle]; repeat' split
  all_goals simp

@[simp] theorem State.removePlan_still (n : TxId) (s : State) : (s.removePlan n).still = s.still :=
  show (((s.withdrawClaim n).dropHeld fun h => decide (h.asker = .plan n)).setPlan n none).still = s.still by simp

@[simp] theorem State.ownAs_still (n : TxId) (t : Setpoint) (s : State) :
    (State.ownAs n t s).still = s.still := by
  simp only [State.ownAs]; repeat' split
  all_goals simp

@[simp] theorem State.planDone_still (n : TxId) (p : Plan) (s : State) :
    (State.planDone n p s).still = s.still := by
  simp only [State.planDone]; repeat' split
  all_goals simp

@[simp] theorem State.reachHold_still (n : TxId) (p : Plan) (s : State) :
    (State.reachHold n p s).still = s.still := by
  rfl

@[simp] theorem State.settlePlan_still (n : TxId) (s : State) :
    (State.settlePlan n s).still = s.still := by
  simp only [State.settlePlan]; repeat' split
  all_goals simp

@[simp] theorem State.endPhase_still (n : TxId) (ph : Phase) (s : State) :
    (State.endPhase n ph s).still = s.still := by
  simp only [State.endPhase]; repeat' split
  all_goals simp

@[simp] theorem State.windDown_still (n : TxId) (cause : Cause) (predicted : Nat) (hp : HoldPoint) (s : State) :
    (State.windDown n cause predicted hp s).still = s.still := by
  simp [State.windDown]

@[simp] theorem State.abandon_still (n : TxId) (cause : Cause) (s : State) :
    (State.abandon n cause s).still = s.still := by
  simp only [State.abandon]; repeat' split
  all_goals simp

@[simp] theorem State.liveLost_still (n : TxId) (cause : Cause) (s : State) :
    (State.liveLost n cause s).still = s.still := by
  simp only [State.liveLost]; repeat' split
  all_goals simp

@[simp] theorem State.drawnDuration_still (s : State) : s.drawnDuration.still = s.still := rfl

@[simp] theorem State.takeDown_still (n : TxId) (cause : Cause) (s : State) :
    (State.takeDown n cause s).still = s.still := by
  simp only [State.takeDown]; repeat' split
  all_goals simp

@[simp] theorem State.interrupt_still (n : TxId) (cause : Cause) (s : State) :
    (State.interrupt n cause s).still = s.still := by
  simp only [State.interrupt]; repeat' split
  all_goals simp

@[simp] theorem State.causeReaches_still (n : TxId) (cause : Cause) (s : State) :
    (State.causeReaches n cause s).still = s.still := by
  simp only [State.causeReaches]; repeat' split
  all_goals simp

@[simp] theorem State.planActuatorFault_still (n : TxId) (act : ActId) (s : State) :
    (State.planActuatorFault n act s).still = s.still := by
  simp only [State.planActuatorFault]; repeat' split
  all_goals simp

@[simp] theorem State.planRefused_still (n : TxId) (ph : Phase) (why : Refused) (s : State) :
    (State.planRefused n ph why s).still = s.still := by
  simp only [State.planRefused]; repeat' split
  all_goals simp

@[simp] theorem State.planMoved_still (act : ActId) (p : Place) (n : TxId) (s : State) :
    (State.planMoved act p n s).still = s.still := by
  simp only [State.planMoved]; repeat' split
  all_goals simp

@[simp] theorem State.moved_still (act : ActId) (p : Place) (s : State) :
    (State.moved act p s).still = s.still := by
  unfold State.moved; exact State.each_still _ _ (fun x t => by split <;> simp) _

/-! ### Machine/HallLine.lean -/

@[simp] theorem State.nameCause_still (n : TxId) (cause : Cause) (s : State) :
    (State.nameCause n cause s).still = s.still := by
  simp only [State.nameCause]; repeat' split
  all_goals simp

@[simp] theorem State.recycleFails_still (n : TxId) (cause : Cause) (s : State) :
    (State.recycleFails n cause s).still = s.still := by
  simp [State.recycleFails]

@[simp] theorem State.answer_still (n : TxId) (who : Asker) (o : Order) (why : Refused) (s : State) :
    (State.answer n who o why s).still = s.still := by
  simp only [State.answer]; repeat' split
  all_goals simp

@[simp] theorem State.rampFails_still (n : TxId) (why : Refused) (s : State) :
    (State.rampFails n why s).still = s.still := by
  simp only [State.rampFails]; repeat' split
  all_goals simp

@[simp] theorem State.refuse_still (n : TxId) (who : Asker) (o : Order) (why : Refused) (s : State) :
    (State.refuse n who o why s).still = s.still := by
  simp only [State.refuse]; repeat' split
  all_goals simp

@[simp] theorem State.sendNow_still (n : TxId) (who : Asker) (o : Order) (s : State) :
    (State.sendNow n who o s).still = s.still := by
  simp only [State.sendNow]; repeat' split
  all_goals simp

@[simp] theorem State.slot_still (n : TxId) (who : Asker) (o : Order) (s : State) :
    (State.slot n who o s).still = s.still := by
  rfl

@[simp] theorem State.defer_still (n : TxId) (who : Asker) (o : Order) (s : State) :
    (State.defer n who o s).still = s.still := by
  simp only [State.defer]; repeat' split
  all_goals simp

@[simp] theorem State.askOrder_still (n : TxId) (who : Asker) (o : Order) (s : State) :
    (State.askOrder n who o s).still = s.still := by
  simp only [State.askOrder]; repeat' split
  all_goals simp

@[simp] theorem State.sendDeferred_still (n : TxId) (s : State) :
    (State.sendDeferred n s).still = s.still := by
  simp only [State.sendDeferred]; repeat' split
  all_goals simp

@[simp] theorem State.txFault_still (n : TxId) (f : FaultCause) (unitCause : Option Nat) (s : State) :
    (State.txFault n f unitCause s).still = s.still := by
  simp [State.txFault]

@[simp] theorem State.stopWork_still (n : TxId) (s : State) :
    (State.stopWork n s).still = s.still := by
  rfl

@[simp] theorem State.rfOffUnlessOff_still (n : TxId) (who : Asker) (s : State) :
    (State.rfOffUnlessOff n who s).still = s.still := by
  simp only [State.rfOffUnlessOff]; repeat' split
  all_goals simp

@[simp] theorem State.faultActions_still (n : TxId) (f : FaultCause) (s : State) :
    (State.faultActions n f s).still = s.still := by
  simp [State.faultActions]

@[simp] theorem State.startRamp_still (n : TxId) (k : RampKind) (s : State) :
    (State.startRamp n k s).still = s.still := by
  rfl

@[simp] theorem State.rampEnd_still (n : TxId) (s : State) :
    (State.rampEnd n s).still = s.still := by
  simp only [State.rampEnd]; repeat' split
  all_goals simp

@[simp] theorem State.rampStepped_still (n : TxId) (s : State) :
    (State.rampStepped n s).still = s.still := by
  simp only [State.rampStepped]; repeat' split
  all_goals simp

@[simp] theorem State.acceptEffect_still (n : TxId) (o : Outstanding) (s : State) :
    (State.acceptEffect n o s).still = s.still := by
  simp only [State.acceptEffect]; repeat' split
  all_goals simp

@[simp] theorem State.answered_still (n : TxId) (s : State) :
    (State.answered n s).still = s.still := by
  rfl

@[simp] theorem State.accepted_still (n : TxId) (s : State) :
    (State.accepted n s).still = s.still := by
  simp only [State.accepted]; repeat' split
  all_goals simp

@[simp] theorem State.rejectEffect_still (n : TxId) (o : Outstanding) (s : State) :
    (State.rejectEffect n o s).still = s.still := by
  simp only [State.rejectEffect]; repeat' split
  all_goals simp

@[simp] theorem State.rejected_still (n : TxId) (s : State) :
    (State.rejected n s).still = s.still := by
  simp only [State.rejected]; repeat' split
  all_goals simp

@[simp] theorem State.setTurn_still (n : TxId) (v : Turn) (s : State) :
    (State.setTurn n v s).still = s.still := by
  rfl

@[simp] theorem State.loseTurn_still (n : TxId) (s : State) :
    (State.loseTurn n s).still = s.still := by
  rfl

@[simp] theorem State.loseOrders_still (n : TxId) (s : State) :
    (State.loseOrders n s).still = s.still := by
  simp only [State.loseOrders]; repeat' split
  all_goals simp

@[simp] theorem State.lineLost_still (n : TxId) (byAccept : Bool) (s : State) :
    (State.lineLost n byAccept s).still = s.still := by
  simp [State.lineLost]

@[simp] theorem State.lineRestored_still (n : TxId) (s : State) :
    (State.lineRestored n s).still = s.still := by
  simp only [State.lineRestored]; repeat' split
  all_goals simp

/-! ### Machine/MatrixEvents.lean -/

@[simp] theorem State.reserve_still (a : AntId) (c : Claim) (s : State) :
    (State.reserve a c s).still = s.still := by
  simp only [State.reserve]; repeat' split
  all_goals simp

@[simp] theorem State.displace_still (a : AntId) (d : Claim) (s : State) :
    (State.displace a d s).still = s.still := by
  rfl

theorem State.enterQueue_still (a : AntId) (c : Claim) (s t : State) (h : s.enterQueue a c = some t) : t.still = s.still := by
  unfold State.enterQueue at h
  split at h
  · split at h
    · cases h; simp
    · split at h
      · split at h
        · cases h; simp
        · cases h
      · cases h
  · cases h
@[simp] theorem State.entered_still (a : AntId) (c : Claim) (s : State) : (s.entered a c).1.still = s.still := by
  unfold State.entered
  split
  next t h => exact State.enterQueue_still a c s t h
  next => rfl

@[simp] theorem State.judgeClaim_still (a : AntId) (c : Claim) (s : State) : (s.judgeClaim a c).1.still = s.still := by
  simp only [State.judgeClaim]
  repeat' split
  all_goals first | rfl | (simp; done) | (rename_i t h; simp [State.enterQueue_still a c s t h])

@[simp] theorem State.claim_still (a : AntId) (c : Claim) (s : State) :
    (State.claim a c s).1.still = s.still := by
  simp only [State.claim]; repeat' split
  all_goals simp

@[simp] theorem State.withdrawAll_still (a : AntId) (cause : Cause) (s : State) : (s.withdrawAll a cause).still = s.still := by
  unfold State.withdrawAll
  split
  · rw [State.each_still _ _ (fun n t => by simp)]; simp
  · rfl

@[simp] theorem State.localOwn_still (n : TxId) (s : State) :
    (State.localOwn n s).still = s.still := by
  simp only [State.localOwn]; repeat' split
  all_goals simp

@[simp] theorem State.localFound_still (was : Pos) (act : ActId) (s : State) :
    (State.localFound was act s).still = s.still := by
  simp only [State.localFound]; repeat' split
  all_goals simp

@[simp] theorem State.localReturn_still (n : TxId) (s : State) :
    (State.localReturn n s).still = s.still := by
  simp only [State.localReturn]; repeat' split
  all_goals simp

@[simp] theorem State.grounded_still (act : ActId) (p : Place) (s : State) :
    (State.grounded act p s).still = s.still := by
  simp only [State.grounded]; repeat' split
  all_goals simp

@[simp] theorem State.queryFound_still (act : ActId) (s : State) :
    (State.queryFound act s).still = s.still := by
  simp only [State.queryFound]; repeat' split
  all_goals simp

@[simp] theorem State.askMove_still (who : MoveAsker) (act : ActId) (p : Place) (s : State) :
    (State.askMove who act p s).still = s.still := by
  simp only [State.askMove]; repeat' split
  all_goals first | rfl | (simp; done) | (rw [State.post_still]; rfl)

@[simp] theorem State.askAgain_still (s : State) : s.askAgain.still = s.still := by
  unfold State.askAgain
  refine (State.each_still _ _ (fun x t => ?_) _).trans rfl
  split
  · split <;> simp
  · rfl

@[simp] theorem State.recordAt_still (act : ActId) (p : Place) (s : State) : (s.recordAt act p).still = s.still := by
  unfold State.recordAt
  simp

@[simp] theorem State.hand_still (h : Held) (s : State) : (s.hand h).still = s.still :=
  show (s.setPos h.act (.travelling h.place)).still = s.still by simp

@[simp] theorem State.zoneTakes_still (n : TxId) (s : State) :
    (State.zoneTakes n s).still = s.still := by
  simp [State.zoneTakes]

@[simp] theorem State.zoneActs_still (a : AntId) (s : State) :
    (State.zoneActs a s).still = s.still := by
  simp only [State.zoneActs]; repeat' split
  all_goals simp

@[simp] theorem State.zoneOpens_still (z : ZoneId) (s : State) :
    (State.zoneOpens z s).still = s.still := by
  unfold State.zoneOpens; exact State.each_still _ _ (fun x t => by simp) _

@[simp] theorem State.zoneCloses_still (z : ZoneId) (s : State) :
    (State.zoneCloses z s).still = s.still := by
  unfold State.zoneCloses; exact State.each_still _ _ (fun x t => by simp) _

@[simp] theorem State.ownerCause_still (a : AntId) (cause : Cause) (s : State) :
    (State.ownerCause a cause s).still = s.still := by
  simp only [State.ownerCause]; repeat' split
  all_goals simp

@[simp] theorem State.groundIfAway_still (a : AntId) (s : State) :
    (State.groundIfAway a s).still = s.still := by
  simp only [State.groundIfAway]; repeat' split
  all_goals simp

@[simp] theorem State.aimersLose_still (a : AntId) (cause : Cause) (s : State) :
    (State.aimersLose a cause s).still = s.still := by
  unfold State.aimersLose; exact State.eachTx_still _ (fun n t => by split <;> simp) _

@[simp] theorem State.takeOut_still (a : AntId) (s : State) :
    (State.takeOut a s).still = s.still := by
  simp only [State.takeOut]; repeat' split
  all_goals simp

@[simp] theorem State.dropGrounding_still (a : AntId) (s : State) :
    (State.dropGrounding a s).still = s.still := by
  simp [State.dropGrounding]

@[simp] theorem State.dropFaulted_still (act : ActId) (s : State) :
    (State.dropFaulted act s).still = s.still := by
  rfl

@[simp] theorem State.faultReaches_still (act : ActId) (n : TxId) (s : State) :
    (State.faultReaches act n s).still = s.still := by
  simp only [State.faultReaches]; repeat' split
  all_goals simp

@[simp] theorem State.awaitersFault_still (act : ActId) (s : State) : (s.awaitersFault act).still = s.still := by
  unfold State.awaitersFault
  refine State.eachTx_still _ (fun n t => ?_) _
  split <;> simp

@[simp] theorem State.antFault_still (act : ActId) (a : AntId) (s : State) :
    (State.antFault act a s).still = s.still := by
  simp only [State.antFault]; repeat' split
  all_goals simp

@[simp] theorem State.amxRecords_still (act : ActId) (carried : Option Place) (s : State) :
    (State.amxRecords act carried s).still = s.still := by
  simp only [State.amxRecords]; repeat' split
  all_goals simp

@[simp] theorem State.amxActs_still (was : Pos) (act : ActId) (s : State) :
    (State.amxActs was act s).still = s.still := by
  unfold State.amxActs
  cases act <;> simp

@[simp] theorem State.suspectDecision_still (a : AntId) (txs : List TxId) (s : State) :
    (State.suspectDecision a txs s).still = s.still := by
  simp only [State.suspectDecision]; repeat' split
  all_goals simp

/-! ### Machine/Protection.lean -/

@[simp] theorem State.drawn_still (n : TxId) (s : State) :
    (State.drawn n s).still = s.still := by
  simp only [State.drawn]; repeat' split
  all_goals first | rfl | (simp; done) | (rw [State.post_still]; rfl)

@[simp] theorem State.recomposed_still (n : TxId) (s : State) :
    (State.recomposed n s).1.still = s.still := by
  simp only [State.recomposed]; repeat' split
  all_goals simp

@[simp] theorem State.driveTo_still (n : TxId) (s : State) :
    (State.driveTo n s).still = s.still := by
  simp only [State.driveTo]; repeat' split
  all_goals simp

@[simp] theorem State.reshape_still (n : TxId) (s : State) :
    (State.reshape n s).still = s.still := by
  simp [State.reshape]

@[simp] theorem State.enterTrip_still (n : TxId) (a : AntId) (s : State) :
    (State.enterTrip n a s).still = s.still := by
  simp only [State.enterTrip]; repeat' split
  all_goals simp

@[simp] theorem State.noteTrip_still (n : TxId) (cause : TripCause) (s : State) :
    (State.noteTrip n cause s).still = s.still := by
  simp only [State.noteTrip]; repeat' split
  all_goals simp

@[simp] theorem State.tripServesPlan_still (n : TxId) (s : State) :
    (State.tripServesPlan n s).still = s.still := by
  simp only [State.tripServesPlan]; repeat' split
  all_goals simp

@[simp] theorem State.tripAtTxs_still (n : TxId) (s : State) :
    (State.tripAtTxs n s).still = s.still := by
  simp only [State.tripAtTxs]; repeat' split
  all_goals simp

@[simp] theorem State.freshWindow_still (n : TxId) (d : TxDef) (s : State) :
    (State.freshWindow n d s).still = s.still := by
  simp only [State.freshWindow]; repeat' split
  all_goals simp

@[simp] theorem State.countRecycle_still (n : TxId) (s : State) :
    (State.countRecycle n s).1.still = s.still := by
  simp only [State.countRecycle]; repeat' split
  all_goals simp

@[simp] theorem State.tripDecision_still (n : TxId) (cause : TripCause) (m : Option Meas) (s : State) :
    (State.tripDecision n cause m s).still = s.still := by
  simp only [State.tripDecision]; repeat' split
  all_goals simp

@[simp] theorem State.localTrip_still (n : TxId) (cause : TripCause) (s : State) :
    (State.localTrip n cause s).still = s.still := by
  simp [State.localTrip]

@[simp] theorem State.unitTrip_still (n : TxId) (cause : TripCause) (s : State) :
    (State.unitTrip n cause s).still = s.still := by
  simp only [State.unitTrip]; repeat' split
  all_goals simp

@[simp] theorem State.tripReport_still (n : TxId) (cause : TripCause) (s : State) :
    (State.tripReport n cause s).still = s.still := by
  simp only [State.tripReport]; split
  all_goals simp

@[simp] theorem State.foldTo_still (n : TxId) (level : Nat) (m : Meas) (recovered : Bool) (s : State) :
    (State.foldTo n level m recovered s).still = s.still := by
  simp [State.foldTo]

@[simp] theorem State.cleanWindow_still (n : TxId) (m : Meas) (s : State) :
    (State.cleanWindow n m s).still = s.still := by
  simp only [State.cleanWindow]; repeat' split
  all_goals simp

@[simp] theorem State.judge_still (n : TxId) (m : Meas) (e : Eval) (s : State) :
    (State.judge n m e s).still = s.still := by
  simp only [State.judge]; repeat' split
  all_goals simp

@[simp] theorem State.closeWindow_still (n : TxId) (s : State) :
    (State.closeWindow n s).still = s.still := by
  simp only [State.closeWindow]; repeat' split
  all_goals simp

@[simp] theorem State.meter_still (n : TxId) (forward reflected : Nat) (s : State) :
    (State.meter n forward reflected s).still = s.still := by
  simp only [State.meter]; repeat' split
  all_goals simp

@[simp] theorem State.recycleOn_still (n : TxId) (k : Comp) (s : State) :
    (State.recycleOn n k s).still = s.still := by
  simp [State.recycleOn]

@[simp] theorem State.recycleExpired_still (n : TxId) (s : State) :
    (State.recycleExpired n s).still = s.still := by
  simp only [State.recycleExpired]; repeat' split
  all_goals simp

/-! ### Machine/Sequence.lean -/

@[simp] theorem State.submitClaim_still (n : TxId) (s : State) :
    (State.submitClaim n s).still = s.still := by
  simp only [State.submitClaim]; repeat' split
  all_goals simp

@[simp] theorem State.claimIfNeeded_still (n : TxId) (s : State) :
    (State.claimIfNeeded n s).still = s.still := by
  simp only [State.claimIfNeeded]; repeat' split
  all_goals simp

@[simp] theorem State.resubmit_still (s : State) : s.resubmit.still = s.still := by
  unfold State.resubmit
  split
  · refine State.eachTx_still _ (fun n t => ?_) _
    split
    · split <;> simp
    · rfl
  · rfl

@[simp] theorem State.takeOverRamp_still (n : TxId) (s : State) :
    (State.takeOverRamp n s).still = s.still := by
  rfl

@[simp] theorem State.changeover_still (n : TxId) (c : Changeover) (s : State) :
    (State.changeover n c s).still = s.still := by
  simp only [State.changeover]; repeat' split
  all_goals simp

@[simp] theorem State.changeoverToNone_still (n : TxId) (s : State) :
    (State.changeoverToNone n s).still = s.still := by
  simp [State.changeoverToNone]

@[simp] theorem State.flagsDue_still (n : TxId) (s : State) :
    (State.flagsDue n s).still = s.still := by
  simp only [State.flagsDue]; repeat' split
  all_goals simp

@[simp] theorem State.running_still (n : TxId) (ph : Phase) (s : State) :
    (State.running n ph s).still = s.still := by
  rfl

@[simp] theorem State.planMove_still (n : TxId) (act : ActId) (p : Place) (s : State) :
    (State.planMove n act p s).still = s.still := by
  simp only [State.planMove]; repeat' split
  all_goals simp

@[simp] theorem State.beginRampdown_still (n : TxId) (s : State) :
    (State.beginRampdown n s).still = s.still := by
  simp only [State.beginRampdown]; repeat' split
  all_goals simp

@[simp] theorem State.beginRfOff_still (n : TxId) (s : State) :
    (State.beginRfOff n s).still = s.still := by
  simp only [State.beginRfOff]; repeat' split
  all_goals simp

@[simp] theorem State.beginRelease_still (n : TxId) (s : State) :
    (State.beginRelease n s).still = s.still := by
  simp only [State.beginRelease]; repeat' split
  all_goals simp

@[simp] theorem State.beginPathOut_still (n : TxId) (p : Plan) (t : Setpoint) (s : State) :
    (s.beginPathOut n p t).still = s.still := by
  unfold State.beginPathOut
  split
  · dsimp only
    refine (State.each_still _ _ (fun x v => ?_) _).trans (by simp)
    split
    · split <;> simp
    · rfl
  · simp

@[simp] theorem State.beginRampup_still (n : TxId) (t : Setpoint) (s : State) :
    (State.beginRampup n t s).still = s.still := by
  simp only [State.beginRampup]; repeat' split
  all_goals simp

@[simp] theorem State.request_still (n : TxId) (ph : Phase) (p : Plan) (s : State) :
    (State.request n ph p s).still = s.still := by
  simp only [State.request]; repeat' split
  all_goals simp

@[simp] theorem State.phaseBegins_still (n : TxId) (ph : Phase) (s : State) :
    (State.phaseBegins n ph s).still = s.still := by
  simp only [State.phaseBegins]; repeat' split
  all_goals simp

@[simp] theorem State.withdrawForRetarget_still (n : TxId) (path : Option AntId) (s : State) :
    (State.withdrawForRetarget n path s).still = s.still := by
  simp only [State.withdrawForRetarget]; repeat' split
  all_goals simp

@[simp] theorem State.retarget_still (n : TxId) (c : Changeover) (s : State) :
    (State.retarget n c s).still = s.still := by
  simp only [State.retarget]; repeat' split
  all_goals simp

@[simp] theorem State.retargetEffect_still (n : TxId) (s : State) :
    (State.retargetEffect n s).still = s.still := by
  simp only [State.retargetEffect]; repeat' split
  all_goals simp

@[simp] theorem State.matched_still (n : TxId) (t : Setpoint) (s : State) :
    (State.matched n t s).still = s.still := by
  simp [State.matched]

/-! ### Machine/Context.lean -/

@[simp] theorem State.noteState_still (n : TxId) (r : StateReport) (s : State) :
    (State.noteState n r s).still = s.still := by
  rfl

@[simp] theorem State.rebuildTo_still (n : TxId) (st : CtxState) (s : State) :
    (State.rebuildTo n st s).still = s.still := by
  simp only [State.rebuildTo]; repeat' split
  all_goals simp

@[simp] theorem State.rebuild_still (n : TxId) (r : StateReport) (s : State) :
    (State.rebuild n r s).still = s.still := by
  simp only [State.rebuild]; repeat' split
  all_goals simp

@[simp] theorem State.adoptOwn_still (n : TxId) (a : AntId) (s : State) :
    (State.adoptOwn n a s).still = s.still := by
  simp only [State.adoptOwn]; repeat' split
  all_goals simp

@[simp] theorem State.adopt_still (n : TxId) (s : State) :
    (State.adopt n s).still = s.still := by
  simp [State.adopt]

@[simp] theorem State.lockOut_still (n : TxId) (s : State) :
    (State.lockOut n s).still = s.still := by
  simp only [State.lockOut]; repeat' split
  all_goals simp

@[simp] theorem State.groundStanding_still (n : TxId) (s : State) :
    (State.groundStanding n s).still = s.still := by
  unfold State.groundStanding; exact State.each_still _ _ (fun x t => by simp) _

@[simp] theorem State.lineAdoption_still (n : TxId) (s : State) : (s.lineAdoption n).still = s.still := by
  unfold State.lineAdoption
  dsimp only
  split
  · simp
  split
  · simp
  split
  · simp
  split
  · rw [State.adopt_still]
    split
    · simp
    · split
      · exact State.each_still _ _ (fun x t => by simp) _
      · rfl
  · rfl

@[simp] theorem State.localTaken_still (n : TxId) (s : State) :
    (State.localTaken n s).still = s.still := by
  simp only [State.localTaken]; repeat' split
  all_goals simp

@[simp] theorem State.localReleased_still (n : TxId) (s : State) :
    (State.localReleased n s).still = s.still := by
  simp only [State.localReleased]; repeat' split
  all_goals simp

@[simp] theorem State.keySeen_still (n : TxId) (r : StateReport) (s : State) :
    (State.keySeen n r s).still = s.still := by
  simp only [State.keySeen]; repeat' split
  all_goals simp

@[simp] theorem State.warmed_still (n : TxId) (s : State) :
    (State.warmed n s).still = s.still := by
  simp [State.warmed]

@[simp] theorem State.explained_still (n : TxId) (r : StateReport) (s : State) :
    (State.explained n r s).still = s.still := by
  simp only [State.explained]; repeat' split
  all_goals simp

@[simp] theorem State.confirmed_still (n : TxId) (r : StateReport) (s : State) :
    (State.confirmed n r s).still = s.still := by
  simp only [State.confirmed]; repeat' split
  all_goals simp

@[simp] theorem State.localShown_still (n : TxId) (r : StateReport) (s : State) :
    (State.localShown n r s).still = s.still := by
  simp only [State.localShown]; repeat' split
  all_goals simp

@[simp] theorem State.localState_still (n : TxId) (r : StateReport) (s : State) :
    (State.localState n r s).still = s.still := by
  simp only [State.localState]; repeat' split
  all_goals simp

@[simp] theorem State.checkState_still (n : TxId) (r : StateReport) (s : State) :
    (State.checkState n r s).still = s.still := by
  simp only [State.checkState]; repeat' split
  all_goals simp

@[simp] theorem State.judgeState_still (n : TxId) (r : StateReport) (s : State) :
    (State.judgeState n r s).still = s.still := by
  simp only [State.judgeState]; repeat' split
  all_goals simp

@[simp] theorem State.rowCheck_still (n : TxId) (s : State) :
    (State.rowCheck n s).still = s.still := by
  simp only [State.rowCheck]; repeat' split
  all_goals simp

@[simp] theorem State.rebuildUnknown_still (n : TxId) (r : StateReport) (s : State) :
    (State.rebuildUnknown n r s).still = s.still := by
  simp only [State.rebuildUnknown]; repeat' split
  all_goals simp

@[simp] theorem State.emergencyOff_still (n : TxId) (r : StateReport) (s : State) :
    (State.emergencyOff n r s).still = s.still := by
  simp only [State.emergencyOff]; repeat' split
  all_goals simp

@[simp] theorem State.turnAnswered_still (n : TxId) (s : State) :
    (State.turnAnswered n s).still = s.still := by
  simp only [State.turnAnswered]; repeat' split
  all_goals simp

@[simp] theorem State.rfFoundOff_still (n : TxId) (r : StateReport) (sent : Bool) (s : State) :
    (State.rfFoundOff n r sent s).still = s.still := by
  simp only [State.rfFoundOff]; repeat' split
  all_goals simp

@[simp] theorem State.digest_still (n : TxId) (r : StateReport) (s : State) :
    (State.digest n r s).still = s.still := by
  simp only [State.digest]; repeat' split
  all_goals simp

@[simp] theorem State.tuned_still (n : TxId) (freq : Nat) (s : State) :
    (State.tuned n freq s).still = s.still := by
  simp only [State.tuned]; repeat' split
  all_goals simp

@[simp] theorem State.tuneFailed_still (n : TxId) (cause : Nat) (s : State) :
    (State.tuneFailed n cause s).still = s.still := by
  simp only [State.tuneFailed]; repeat' split
  all_goals simp

@[simp] theorem State.unitFault_still (n : TxId) (f : FaultCause) (s : State) :
    (State.unitFault n f s).still = s.still := by
  simp only [State.unitFault]; repeat' split
  all_goals simp

@[simp] theorem State.warmUpEnds_still (n : TxId) (s : State) :
    (State.warmUpEnds n s).still = s.still := by
  simp only [State.warmUpEnds]; repeat' split
  all_goals simp

@[simp] theorem State.tuneEnds_still (n : TxId) (s : State) :
    (State.tuneEnds n s).still = s.still := by
  simp only [State.tuneEnds]; repeat' split
  all_goals simp

@[simp] theorem State.rfOffUnconfirmed_still (n : TxId) (s : State) :
    (State.rfOffUnconfirmed n s).still = s.still := by
  simp only [State.rfOffUnconfirmed]; repeat' split
  all_goals simp

@[simp] theorem State.clearRebuild_still (n : TxId) (s : State) :
    (State.clearRebuild n s).still = s.still := by
  simp only [State.clearRebuild]; repeat' split
  all_goals simp

@[simp] theorem State.judgeAdoption_still (n : TxId) (s : State) :
    (State.judgeAdoption n s).still = s.still := by
  simp only [State.judgeAdoption]; repeat' split
  all_goals simp

@[simp] theorem State.clearingAnswered_still (act : ActId) (n : TxId) (s : State) :
    (State.clearingAnswered act n s).still = s.still := by
  simp only [State.clearingAnswered]; repeat' split
  all_goals simp

@[simp] theorem State.rowFound_still (n : TxId) (s : State) :
    (State.rowFound n s).still = s.still := by
  simp only [State.rowFound]; repeat' split
  all_goals simp

/-! ### Machine/Bus.lean -/

@[simp] theorem State.setTrans_still (t : Trans) (s : State) :
    (State.setTrans t s).still = s.still := by
  rfl

@[simp] theorem State.setQueue_still (q : List BusOrder) (s : State) :
    (State.setQueue q s).still = s.still := by
  rfl

@[simp] theorem State.fillQueries_still (s : State) : s.fillQueries.still = s.still := by
  unfold State.fillQueries
  refine State.each_still _ _ (fun x t => ?_) _
  split
  · split <;> simp
  · rfl

@[simp] theorem State.askQuery_still (act : ActId) (who : Requester) (s : State) :
    (State.askQuery act who s).still = s.still := by
  simp only [State.askQuery]; repeat' split
  all_goals simp

@[simp] theorem State.answerQueries_still (act : ActId) (l : List Requester) (s : State) :
    (s.answerQueries act l).still = s.still := by
  unfold State.answerQueries
  refine State.each_still _ _ (fun x t => ?_) _
  split
  · simp
  · exact State.eachTx_still _ (fun n u => by simp) _
  · rfl

@[simp] theorem State.handAt_still (act : ActId) (p : Place) (s : State) :
    (State.handAt act p s).still = s.still := by
  simp only [State.handAt]; repeat' split
  all_goals simp

@[simp] theorem State.arrive_still (act : ActId) (p : Place) (s : State) :
    (State.arrive act p s).still = s.still := by
  simp [State.arrive]

@[simp] theorem State.rowFault_still (n : TxId) (s : State) :
    (State.rowFault n s).still = s.still := by
  simp only [State.rowFault]; repeat' split
  all_goals simp

@[simp] theorem State.txsFault_still (act : ActId) (s : State) :
    (State.txsFault act s).still = s.still := by
  simp only [State.txsFault]; repeat' split
  all_goals simp

@[simp] theorem State.busFault_still (act : ActId) (cause : ActFault) (unordered : Bool) (carried : Option Place) (s : State) :
    (State.busFault act cause unordered carried s).still = s.still := by
  simp only [State.busFault]; repeat' split
  all_goals simp

@[simp] theorem State.answerAt_still (act : ActId) (p : Place) (s : State) :
    (State.answerAt act p s).still = s.still := by
  simp only [State.answerAt]; repeat' split
  all_goals simp

@[simp] theorem State.answerTravelling_still (act : ActId) (s : State) :
    (State.answerTravelling act s).still = s.still := by
  simp only [State.answerTravelling]; repeat' split
  all_goals simp

@[simp] theorem State.queryAnswer_still (act : ActId) (at_ : Option Place) (s : State) :
    (State.queryAnswer act at_ s).still = s.still := by
  simp only [State.queryAnswer]; repeat' split
  all_goals simp

@[simp] theorem State.busSurveyed_still (s : State) :
    (State.busSurveyed s).still = s.still := by
  rfl

@[simp] theorem State.allCallEnd_still (s : State) :
    (State.allCallEnd s).still = s.still := by
  simp only [State.allCallEnd]; repeat' split
  all_goals first | rfl | (simp; done) | (rw [State.post_still]; rfl)

@[simp] theorem State.nextTurn_still (act : ActId) (s : State) :
    (State.nextTurn act s).still = s.still := by
  simp only [State.nextTurn]; repeat' split
  all_goals simp

@[simp] theorem State.countBus_still (f : BusCounts → BusCounts) (s : State) :
    (State.countBus f s).still = s.still := by
  rfl

@[simp] theorem State.silentTurn_still (act : ActId) (s : State) :
    (State.silentTurn act s).still = s.still := by
  simp only [State.silentTurn]; repeat' split
  all_goals simp

@[simp] theorem State.turnAnswer_still (act : ActId) (at_ : Option Place) (s : State) :
    (State.turnAnswer act at_ s).still = s.still := by
  simp only [State.turnAnswer]; repeat' split
  all_goals simp

@[simp] theorem State.allCallAnswer_still (turn act : ActId) (at_ : Option Place) (s : State) :
    (s.allCallAnswer turn act at_).still = s.still := by
  unfold State.allCallAnswer
  split
  · rfl
  · dsimp only
    rw [State.nextTurn_still, State.turnAnswer_still, State.each_still _ _ (fun x t => by simp)]
    simp

@[simp] theorem State.beginAllCall_still (s : State) :
    (State.beginAllCall s).still = s.still := by
  simp only [State.beginAllCall]; repeat' split
  all_goals first | rfl | (simp; done) | (rw [State.post_still]; rfl)

@[simp] theorem State.sendAllQuery_still (s : State) :
    (State.sendAllQuery s).still = s.still := by
  simp only [State.sendAllQuery]; repeat' split
  all_goals first | rfl | (simp; done) | (rw [State.post_still]; rfl)

@[simp] theorem State.sendBusOrder_still (o : BusOrder) (s : State) :
    (State.sendBusOrder o s).still = s.still := by
  simp only [State.sendBusOrder]; repeat' split
  all_goals simp

@[simp] theorem State.serve_still (s : State) :
    (State.serve s).still = s.still := by
  simp only [State.serve]; repeat' split
  all_goals simp

@[simp] theorem State.answersMove_still (act : ActId) (s : State) :
    (State.answersMove act s).still = s.still := by
  simp only [State.answersMove]; repeat' split
  all_goals simp

@[simp] theorem State.movingFrom_still (act : ActId) (s : State) :
    (State.movingFrom act s).still = s.still := by
  simp only [State.movingFrom]; repeat' split
  all_goals simp

@[simp] theorem State.arrivedFrom_still (act : ActId) (p : Place) (s : State) :
    (State.arrivedFrom act p s).still = s.still := by
  simp only [State.arrivedFrom]; repeat' split
  all_goals simp

@[simp] theorem State.stuckFrom_still (act : ActId) (q : Place) (s : State) :
    (State.stuckFrom act q s).still = s.still := by
  simp only [State.stuckFrom]; repeat' split
  all_goals simp

@[simp] theorem State.strayPosition_still (act : ActId) (at_ : Option Place) (s : State) :
    (State.strayPosition act at_ s).still = s.still := by
  simp only [State.strayPosition]; repeat' split
  all_goals simp

@[simp] theorem State.positionFrom_still (act : ActId) (at_ : Option Place) (s : State) :
    (State.positionFrom act at_ s).still = s.still := by
  simp only [State.positionFrom]; repeat' split
  all_goals simp

@[simp] theorem State.answerExpired_still (s : State) :
    (State.answerExpired s).still = s.still := by
  simp only [State.answerExpired]; repeat' split
  all_goals simp

@[simp] theorem State.travelExpired_still (act : ActId) (s : State) :
    (State.travelExpired act s).still = s.still := by
  simp only [State.travelExpired]; repeat' split
  all_goals simp

/-! ### Machine/Survey.lean -/

@[simp] theorem State.beginSurvey_still (s : State) : s.beginSurvey.still = s.still := by
  unfold State.beginSurvey
  dsimp only
  rw [State.beginAllCall_still, State.each_still _ _ (fun x t => by simp)]
  rfl

@[simp] theorem State.dropSurvey_still (s : State) :
    (State.dropSurvey s).still = s.still := by
  rfl

@[simp] theorem State.stopSurvey_still (s : State) :
    (State.stopSurvey s).still = s.still := by
  simp only [State.stopSurvey]; repeat' split
  all_goals simp

@[simp] theorem State.checkOne_still (s : State) : s.checkOne.st.still = s.still := by
  unfold State.checkOne
  generalize s.definedTx = l
  generalize hk : Lockouts.mk s [] = k
  have : k.st.still = s.still := by subst hk; rfl
  rw [← this]
  clear this hk
  induction l generalizing k with
  | nil => rfl
  | cons n l ih =>
    rw [List.foldl_cons, ih]
    split <;> simp

@[simp] theorem State.strand_still (a : AntId) (s : State) :
    (State.strand a s).still = s.still := by
  simp only [State.strand]; repeat' split
  all_goals simp

theorem Lockouts.checkTwo_still (k : Lockouts) : k.checkTwo.st.still = k.st.still := by
  unfold Lockouts.checkTwo
  generalize k.st.definedTx = l
  induction l generalizing k with
  | nil => rfl
  | cons n l ih =>
    rw [List.foldl_cons, ih]
    split <;> simp
@[simp] theorem State.finishSurvey_still (q : Survey) (s : State) : (s.finishSurvey q).still = s.still := by
  unfold State.finishSurvey
  dsimp only
  rw [State.toHall_still, State.post_still, State.dropSurvey_still, State.each_still _ _ (fun x t => by simp),
    State.each_still _ _ (fun x t => by simp), State.each_still _ _ (fun x t => by simp),
    State.each_still _ _ (fun x t => by simp), State.each_still _ _ (fun x t => by simp),
    State.each_still _ _ (fun x t => by simp), Lockouts.checkTwo_still, State.checkOne_still]

@[simp] theorem State.surveyEnds_still (s : State) :
    (State.surveyEnds s).still = s.still := by
  simp only [State.surveyEnds]; repeat' split
  all_goals simp

@[simp] theorem State.haltedIfOff_still (s : State) :
    (State.haltedIfOff s).still = s.still := by
  simp only [State.haltedIfOff]; repeat' split
  all_goals simp

/-! ### Machine/Banks.lean -/

@[simp] theorem State.updStaged_still (f : StagedBank → StagedBank) (s : State) :
    (State.updStaged f s).still = s.still := by
  rfl

@[simp] theorem State.passOne_still (e : Entry) (s : State) :
    (State.passOne e s).still = s.still := by
  simp only [State.passOne]; repeat' split
  all_goals simp

@[simp] theorem State.passTwo_still (e : Entry) (rest : List Entry) (s : State) :
    (State.passTwo e rest s).still = s.still := by
  rfl

@[simp] theorem State.passThree_still (e : Entry) (rest : List Entry) (s : State) :
    (State.passThree e rest s).still = s.still := by
  simp only [State.passThree]; repeat' split
  all_goals simp

@[simp] theorem State.endGeneration_still (old : Nat) (n : TxId) (s : State) :
    (State.endGeneration old n s).still = s.still := by
  unfold State.endGeneration; exact State.each_still _ _ (fun x t => by simp) _

@[simp] theorem State.promote_still (src : Trigger) (s : State) : (s.promote src).still = s.still := by
  unfold State.promote
  dsimp only
  split
  · rw [State.eachTx_still _ (fun n t => by simp), State.post_still]; rfl
  · rw [State.post_still]; rfl

@[simp] theorem State.trigger_still (src : Trigger) (s : State) :
    (State.trigger src s).still = s.still := by
  simp only [State.trigger]; repeat' split
  all_goals first | rfl | (simp; done) | (rw [State.post_still]; rfl)

@[simp] theorem State.sweepEnds_still (s : State) :
    (State.sweepEnds s).still = s.still := by
  simp only [State.sweepEnds]; repeat' split
  all_goals simp

@[simp] theorem State.sweepBegins_still (s : State) :
    (State.sweepBegins s).still = s.still := by
  simp only [State.sweepBegins]; repeat' split
  all_goals simp

@[simp] theorem State.advanceCursor_still (s : State) :
    (State.advanceCursor s).still = s.still := by
  simp only [State.advanceCursor]; repeat' split
  all_goals simp

@[simp] theorem State.sweepStep_still (s : State) :
    (State.sweepStep s).still = s.still := by
  simp only [State.sweepStep]; repeat' split
  all_goals simp

@[simp] theorem State.restartSweep_still (s : State) :
    (State.restartSweep s).still = s.still := by
  simp only [State.restartSweep]; repeat' split
  all_goals simp

@[simp] theorem State.atTimeTest_still (s : State) :
    (State.atTimeTest s).still = s.still := by
  simp only [State.atTimeTest]; repeat' split
  all_goals simp

@[simp] theorem State.expiryTest_still (s : State) :
    (State.expiryTest s).still = s.still := by
  simp only [State.expiryTest]; repeat' split
  all_goals first | rfl | (simp; done) | (rw [State.post_still]; rfl)

@[simp] theorem State.recheckBank_still (s : State) :
    (State.recheckBank s).still = s.still := by
  simp only [State.recheckBank]; repeat' split
  all_goals first | rfl | (simp; done) | (rw [State.post_still]; rfl)

/-! ### Machine/Evaluator.lean -/

@[simp] theorem State.endLive_still (n : TxId) (s : State) :
    (State.endLive n s).1.still = s.still := by
  simp only [State.endLive]; repeat' split
  all_goals simp

@[simp] theorem State.expireBookings_still (n : TxId) (s : State) :
    (State.expireBookings n s).still = s.still := by
  unfold State.expireBookings; exact State.each_still _ _ (fun x t => by simp) _

@[simp] theorem State.noteDisabled_still (n : TxId) (s : State) :
    (State.noteDisabled n s).still = s.still := by
  simp only [State.noteDisabled]; repeat' split
  all_goals simp

@[simp] theorem State.bookkeep_still (n : TxId) (s : State) :
    (State.bookkeep n s).1.still = s.still := by
  simp [State.bookkeep]

@[simp] theorem State.miss_still (n : TxId) (c : Cand) (why : MissCause) (s : State) :
    (State.miss n c why s).still = s.still := by
  simp [State.miss]

@[simp] theorem State.link_still (n : TxId) (c : Cand) (s : State) :
    (State.link n c s).still = s.still := by
  simp [State.link]

@[simp] theorem State.pend_still (n : TxId) (c : Cand) (s : State) :
    (State.pend n c s).still = s.still := by
  simp only [State.pend]; repeat' split
  all_goals simp

@[simp] theorem State.gapNotice_still (n : TxId) (c : Cand) (ended : Option TargetId) (s : State) :
    (State.gapNotice n c ended s).still = s.still := by
  simp only [State.gapNotice]; repeat' split
  all_goals simp

@[simp] theorem State.startToward_still (n : TxId) (c : Cand) (ended : Option TargetId) (s : State) :
    (State.startToward n c ended s).still = s.still := by
  simp [State.startToward]

@[simp] theorem State.idleDarken_still (n : TxId) (s : State) :
    (State.idleDarken n s).still = s.still := by
  simp only [State.idleDarken]; repeat' split
  all_goals simp

@[simp] theorem State.uncovered_still (n : TxId) (next : Option Cand) (ended : Option TargetId) (s : State) :
    (State.uncovered n next ended s).still = s.still := by
  simp only [State.uncovered]; repeat' split
  all_goals simp

@[simp] theorem State.takeUp_still (n : TxId) (c : Cand) (ended : Option TargetId) (s : State) :
    (State.takeUp n c ended s).still = s.still := by
  simp only [State.takeUp]; repeat' split
  all_goals simp

@[simp] theorem State.serveTarget_still (n : TxId) (ended : Option TargetId) (s : State) :
    (State.serveTarget n ended s).still = s.still := by
  simp only [State.serveTarget]; repeat' split
  all_goals simp

@[simp] theorem State.decideTx_still (n : TxId) (ended : Option TargetId) (s : State) :
    (State.decideTx n ended s).still = s.still := by
  simp only [State.decideTx]; repeat' split
  all_goals simp

@[simp] theorem State.decideHalting_still (n : TxId) (s : State) :
    (State.decideHalting n s).still = s.still := by
  simp only [State.decideHalting]; repeat' split
  all_goals simp

@[simp] theorem State.retargetTo_still (n : TxId) (p : Plan) (s : State) :
    (State.retargetTo n p s).still = s.still := by
  simp only [State.retargetTo]; repeat' split
  all_goals simp

@[simp] theorem State.retargetCheck_still (n : TxId) (p : Plan) (s : State) :
    (State.retargetCheck n p s).still = s.still := by
  simp only [State.retargetCheck]; repeat' split
  all_goals simp

@[simp] theorem State.decisionStage_still (n : TxId) (ended : Option TargetId) (s : State) :
    (State.decisionStage n ended s).still = s.still := by
  simp only [State.decisionStage]; repeat' split
  all_goals simp

@[simp] theorem State.evaluateTx_still (n : TxId) (s : State) :
    (State.evaluateTx n s).still = s.still := by
  simp [State.evaluateTx]

@[simp] theorem State.evaluate_still (s : State) :
    (State.evaluate s).still = s.still := by
  unfold State.evaluate; exact State.each_still _ _ (fun x t => by simp) _

@[simp] theorem State.handSecond_still (s : State) :
    (State.handSecond s).still = s.still := by
  simp [State.handSecond]

/-! ### Machine/Station.lean -/

@[simp] theorem State.handed_still (s : State) :
    (State.handed s).still = s.still := by
  simp only [State.handed]; repeat' split
  all_goals simp

@[simp] theorem State.syncEdge_still (s : State) :
    (State.syncEdge s).still = s.still := by
  simp only [State.syncEdge]; repeat' split
  all_goals simp

/-! ### Machine/Description.lean -/

@[simp] theorem State.refused_still (r : Reason) (detail : Nat) (s : State) :
    (State.refused r detail s).st.still = s.still := by
  rfl

@[simp] theorem State.ok_still (b : Body) (s : State) :
    (State.ok b s).st.still = s.still := by
  rfl

@[simp] theorem State.tellSch_still (s : State) : s.tellSch.still = s.still :=
  show s.restartSweep.still = s.still by simp

@[simp] theorem State.actEnters_still (act : ActId) (s : State) :
    (State.actEnters act s).still = s.still := by
  simp [State.actEnters]

theorem State.withFlight_still (l : List Held) (s : State) : ({ s with amx := { s.amx with flight := l } } : State).still = s.still :=
  rfl
@[simp] theorem State.actLeaves_still (act : ActId) (s : State) : (s.actLeaves act).still = s.still := by
  unfold State.actLeaves
  split
  · dsimp only
    rw [State.askAgain_still, State.answerQueries_still, State.withFlight_still]
    simp
  · rfl

@[simp] theorem State.removeBookings_still (p : Booking → Bool) (s : State) :
    (State.removeBookings p s).still = s.still := by
  unfold State.removeBookings; exact State.each_still _ _ (fun x t => by simp) _

@[simp] theorem State.txEnters_still (n : TxId) (s : State) :
    (State.txEnters n s).still = s.still := by
  simp [State.txEnters]

@[simp] theorem State.lowerRecycle_still (n : TxId) (limit : Nat) (s : State) :
    (State.lowerRecycle n limit s).still = s.still := by
  rfl

@[simp] theorem State.holdTaps_still (n : TxId) (d : TxDef) (s : State) :
    (State.holdTaps n d s).still = s.still := by
  simp only [State.holdTaps]; repeat' split
  all_goals rfl

@[simp] theorem State.zoneUse_still (was : Bool) (z : ZoneId) (s : State) :
    (State.zoneUse was z s).still = s.still := by
  simp only [State.zoneUse]; repeat' split
  all_goals first | rfl | (simp; done) | (rw [State.post_still]; rfl)

@[simp] theorem State.beamFollows_still (a : AntId) (d : AntDef) (s : State) :
    (State.beamFollows a d s).still = s.still := by
  simp only [State.beamFollows]; repeat' split
  all_goals simp

@[simp] theorem State.antEnters_still (a : AntId) (s : State) :
    (State.antEnters a s).still = s.still := by
  rfl

@[simp] theorem State.reqReadTxDef_still (number : Nat) (s : State) :
    (State.reqReadTxDef number s).st.still = s.still := by
  simp only [State.reqReadTxDef]; repeat' split
  all_goals simp

@[simp] theorem State.reqReadAntDef_still (number : Nat) (s : State) :
    (State.reqReadAntDef number s).st.still = s.still := by
  simp only [State.reqReadAntDef]; repeat' split
  all_goals simp

/-! ### Machine/ClockRequests.lean -/

@[simp] theorem State.reqReadTime_still (s : State) :
    (State.reqReadTime s).st.still = s.still := by
  rfl

/-! ### Machine/BankRequests.lean -/

@[simp] theorem State.reqOpenStaging_still (s : State) :
    (State.reqOpenStaging s).st.still = s.still := by
  simp only [State.reqOpenStaging]; repeat' split
  all_goals simp

@[simp] theorem State.unlessOpen_still (s : State) (detail : Nat) (f : Answer) (h : f.st.still = s.still) :
    (s.unlessOpen detail f).st.still = s.still := by
  unfold State.unlessOpen
  split <;> first | exact h | rfl

@[simp] theorem State.putChecked_still (e : Entry) (s : State) :
    (State.putChecked e s).st.still = s.still := by
  simp only [State.putChecked]; repeat' split
  all_goals simp

@[simp] theorem State.reqPutEntry_still (f : EntryFields) (s : State) : (s.reqPutEntry f).st.still = s.still := by
  refine State.unlessOpen_still _ _ _ ?_
  split <;> simp

@[simp] theorem State.reqDropEntry_still (id : Nat) (s : State) : (s.reqDropEntry id).st.still = s.still := by
  refine State.unlessOpen_still _ _ _ ?_
  split
  · split <;> simp
  · rfl

@[simp] theorem State.reqSealStaging_still (f : SealFields) (s : State) : (s.reqSealStaging f).st.still = s.still := by
  refine State.unlessOpen_still _ _ _ ?_
  split
  · rfl
  · split <;> simp

@[simp] theorem State.reqAbortStaging_still (s : State) :
    (State.reqAbortStaging s).st.still = s.still := by
  simp only [State.reqAbortStaging]; repeat' split
  all_goals simp

@[simp] theorem State.reqDiscardStaging_still (s : State) :
    (State.reqDiscardStaging s).st.still = s.still := by
  simp only [State.reqDiscardStaging]; repeat' split
  all_goals simp

@[simp] theorem State.reqReadEntry_still (bank : BankSel) (id : Nat) (mode : ReadMode) (s : State) :
    (State.reqReadEntry bank id mode s).st.still = s.still := by
  simp only [State.reqReadEntry]; repeat' split
  all_goals simp

@[simp] theorem State.reqReadBanks_still (s : State) :
    (State.reqReadBanks s).st.still = s.still := by
  rfl

@[simp] theorem State.reqReadConflicts_still (s : State) :
    (State.reqReadConflicts s).st.still = s.still := by
  rfl

@[simp] theorem State.arm_still (a : Arming) (s : State) :
    (State.arm a s).still = s.still := by
  rfl

@[simp] theorem State.armSource_still (a : Arming) (s : State) :
    (State.armSource a s).st.still = s.still := by
  simp only [State.armSource]; repeat' split
  all_goals simp

@[simp] theorem State.reqArm_still (src : ArmReq) (s : State) :
    (State.reqArm src s).st.still = s.still := by
  simp only [State.reqArm]; repeat' split
  all_goals simp

@[simp] theorem State.reqDisarm_still (s : State) :
    (State.reqDisarm s).st.still = s.still := by
  rfl

@[simp] theorem State.reqFire_still (s : State) :
    (State.reqFire s).st.still = s.still := by
  simp only [State.reqFire]; repeat' split
  all_goals simp

/-! ### Machine/ScheduleRequests.lean -/

@[simp] theorem State.withTx_still (number position : Nat) (s : State) (f : TxId → Answer) (h : ∀ n, (f n).st.still = s.still) :
    (s.withTx number position f).st.still = s.still := by
  unfold State.withTx
  split
  · rfl
  · split
    · exact h _
    · rfl

@[simp] theorem State.storeSource_still (n : TxId) (src : Stored) (s : State) :
    (State.storeSource n src s).still = s.still := by
  simp only [State.storeSource]; repeat' split
  all_goals simp

@[simp] theorem State.reqSetSource_still (number : Nat) (src : Stored) (s : State) :
    (s.reqSetSource number src).st.still = s.still := by
  refine State.withTx_still _ _ _ _ fun n => ?_
  split
  · rfl
  · split
    · rfl
    · exact State.storeSource_still _ _ _

@[simp] theorem State.placeNew_still (b : Booking) (s : State) :
    (State.placeNew b s).st.still = s.still := by
  simp only [State.placeNew]; repeat' split
  all_goals first | rfl | (simp; done) | (rw [State.post_still]; rfl)

@[simp] theorem State.bookChecked_still (n : TxId) (f : BookFields) (s : State) :
    (State.bookChecked n f s).st.still = s.still := by
  simp only [State.bookChecked]; repeat' split
  all_goals simp

@[simp] theorem State.reqBook_still (f : BookFields) (s : State) :
    (State.reqBook f s).st.still = s.still := by
  simp only [State.reqBook]; repeat' split
  all_goals simp

@[simp] theorem State.cancelRecord_still (b : Booking) (s : State) :
    (State.cancelRecord b s).still = s.still := by
  simp only [State.cancelRecord]; repeat' split
  all_goals simp

@[simp] theorem State.reqCancelBooking_still (id : Nat) (s : State) :
    (State.reqCancelBooking id s).st.still = s.still := by
  simp only [State.reqCancelBooking]; repeat' split
  all_goals simp

@[simp] theorem State.reqReadBookings_still (s : State) :
    (State.reqReadBookings s).st.still = s.still := by
  rfl

@[simp] theorem State.reqReadOccurrence_still (number : Nat) (s : State) :
    (s.reqReadOccurrence number).st.still = s.still :=
  State.withTx_still _ _ _ _ fun _ => rfl

@[simp] theorem State.reqReleaseHold_still (number : Nat) (s : State) : (s.reqReleaseHold number).st.still = s.still := by
  refine State.withTx_still _ _ _ _ fun n => ?_
  split
  · split
    · exact (State.settlePlan_still _ _).trans (State.setPlan_still _ _ _)
    · rfl
  · rfl

@[simp] theorem State.reqReadPlan_still (number : Nat) (s : State) : (s.reqReadPlan number).st.still = s.still := by
  refine State.withTx_still _ _ _ _ fun n => ?_
  split <;> rfl

/-! ### Machine/HallRequests.lean -/

@[simp] theorem State.storeTrim_still (v : Nat) (n : TxId) (s : State) :
    (State.storeTrim v n s).still = s.still := by
  simp only [State.storeTrim]; repeat' split
  all_goals simp

@[simp] theorem State.reqTrim_still (target : TrimTarget) (value : Nat) (s : State) :
    (s.reqTrim target value).st.still = s.still := by
  unfold State.reqTrim
  split
  · simp
  · exact State.each_still _ _ (fun x t => by simp) _

@[simp] theorem State.reqReadTrim_still (target : TrimTarget) (s : State) :
    (State.reqReadTrim target s).st.still = s.still := by
  simp only [State.reqReadTrim]; repeat' split
  all_goals simp

@[simp] theorem State.clearByQuery_still (n : TxId) (l : List ActId) (s : State) :
    (State.clearByQuery n l s).still = s.still := by
  unfold State.clearByQuery; exact State.each_still _ _ (fun x t => by simp) _

@[simp] theorem State.clearAdoption_still (n : TxId) (s : State) :
    (State.clearAdoption n s).still = s.still := by
  simp only [State.clearAdoption]; repeat' split
  all_goals simp

@[simp] theorem State.freshRecycle_still (n : TxId) (s : State) :
    (State.freshRecycle n s).still = s.still := by
  rfl

@[simp] theorem State.clearedNow_still (n : TxId) (s : State) :
    (State.clearedNow n s).st.still = s.still := by
  simp [State.clearedNow]

@[simp] theorem State.clearFault_still (n : TxId) (s : State) :
    (State.clearFault n s).st.still = s.still := by
  simp only [State.clearFault]; repeat' split
  all_goals simp

@[simp] theorem State.reqClearFault_still (number : Nat) (s : State) : (s.reqClearFault number).st.still = s.still :=
  State.withTx_still _ _ _ _ fun n => State.clearFault_still n s

@[simp] theorem State.reqReadTx_still (number : Nat) (s : State) : (s.reqReadTx number).st.still = s.still :=
  State.withTx_still _ _ _ _ fun _ => rfl

@[simp] theorem State.reqStartHall_still (s : State) :
    (State.reqStartHall s).st.still = s.still := by
  simp only [State.reqStartHall]; repeat' split
  all_goals simp

@[simp] theorem State.haltTx_still (n : TxId) (s : State) :
    (State.haltTx n s).still = s.still := by
  simp only [State.haltTx]; repeat' split
  all_goals simp

@[simp] theorem State.haltNow_still (s : State) :
    (State.haltNow s).still = s.still := by
  unfold State.haltNow; exact State.each_still _ _ (fun x t => by simp) _

@[simp] theorem State.reqHaltHall_still (now : Bool) (s : State) :
    (State.reqHaltHall now s).st.still = s.still := by
  simp only [State.reqHaltHall]; repeat' split
  all_goals simp

@[simp] theorem State.withAnt_still (number : Nat) (s : State) (f : AntId → AntRun → Answer)
    (h : ∀ a r, (f a r).st.still = s.still) : (s.withAnt number f).st.still = s.still := by
  unfold State.withAnt
  split
  · rfl
  · split
    · split
      · exact h _ _
      · rfl
    · rfl

@[simp] theorem State.reqServiceOut_still (number : Nat) (s : State) : (s.reqServiceOut number).st.still = s.still :=
  State.withAnt_still _ _ _ fun a _ => State.takeOut_still a s

@[simp] theorem State.requery_still (a : AntId) (l : List ActId) (s : State) :
    (State.requery a l s).still = s.still := by
  unfold State.requery; exact State.each_still _ _ (fun x t => by simp) _

@[simp] theorem State.backInService_still (a : AntId) (s : State) :
    (State.backInService a s).still = s.still := by
  simp [State.backInService]

@[simp] theorem State.bringIn_still (a : AntId) (s : State) :
    (State.bringIn a s).st.still = s.still := by
  simp only [State.bringIn]; repeat' split
  all_goals simp

@[simp] theorem State.reqServiceIn_still (number : Nat) (s : State) : (s.reqServiceIn number).st.still = s.still := by
  refine State.withAnt_still _ _ _ fun a r => ?_
  split
  · rfl
  · rfl
  · exact State.bringIn_still a s
  · exact State.bringIn_still a s

@[simp] theorem State.reqClearSuspect_still (number : Nat) (s : State) : (s.reqClearSuspect number).st.still = s.still := by
  refine State.withAnt_still _ _ _ fun a r => ?_
  split
  · exact (State.setTrips_still _ _ _).trans (State.updRun_still _ _ _)
  · rfl

@[simp] theorem State.reqReadAnt_still (number : Nat) (s : State) : (s.reqReadAnt number).st.still = s.still :=
  State.withAnt_still _ _ _ fun a _ => State.setTrips_still a _ s

@[simp] theorem State.reqReadMatrix_still (s : State) :
    (State.reqReadMatrix s).st.still = s.still := by
  rfl

@[simp] theorem State.resweep_still (s : State) :
    (State.resweep s).still = s.still := by
  simp only [State.resweep]; repeat' split
  all_goals simp

@[simp] theorem State.postIfOpen_still (z : ZoneId) (s : State) :
    (State.postIfOpen z s).still = s.still := by
  simp only [State.postIfOpen]; repeat' split
  all_goals simp

@[simp] theorem State.enterHall_still (s : State) :
    (State.enterHall s).still = s.still := by
  simp only [State.enterHall]; repeat' split
  all_goals simp

/-! ### Machine/Link.lean -/

@[simp] theorem State.reqLinkTest_still (port : Port) (count : Nat) (s : State) :
    (State.reqLinkTest port count s).st.still = s.still := by
  simp only [State.reqLinkTest]; repeat' split
  all_goals simp

end Sys2Proof.Machine
end

