-- ==== Sys2Proof/Safety.lean ====
section
/-! DEFINITION. What counts as a safe run: a run that comes to no fault and no refusal. -/

namespace Sys2Proof
open Machine

/-- k steps from s end in a next state. -/
def safeFor (k : Nat) (s : State) : Prop := ∃ t, core.run k s = .next t

end Sys2Proof
end

