-- ==== Sys2Proof/Tests/Slice0.lean ====
section
/-! SUPPORT. Tests of the model on small states. Expected values come from the manual's worked examples and tables, or are
worked by hand from its rules; each test names its source. The `wit_` theorems show, for each statement with hypotheses,
states and operands that meet them. -/

namespace Sys2Proof.Tests
open Sys2Proof Machine Claims

set_option Elab.async false

/-! ## Small states -/

/-- TX5's record of section 9.10, with the defaults of R2. -/
def txA : TxDef :=
  ⟨5000, 3900, 26100, [250, 354, 500, 707, 1000], 50, 200, 90, 20, 45, 500, 90, 3, 10, 3, 5, 600, 150, 180, 250, 0⟩

/-- AN12's record of section 9.10, reached by TX1 and TX2. -/
def anA : AntDef := ⟨3200, 5900, 21850, 0, [0, 1], 1, 150, 180, 250, 8, 20, 20, 60⟩

/-- An antenna with a beam drive. -/
def anB : AntDef := { anA with beams := 3 }

/-- The fields that define `txA`. -/
def txFields : TxFields :=
  { rating := some 5000, bandLow := some 3900, bandHigh := some 26100, taps := some [250, 354, 500, 707, 1000] }

/-- The fields that define `anA`. -/
def antFields : AntFields :=
  { rating := some 3200, bandLow := some 5900, bandHigh := some 21850, zone := some 1, reach := some [1, 2] }

/-- TX1 and TX2, AN1 without and AN2 with a beam drive, zone Z1 closed; the clock FREE at day 10, second 1000; HALTED. -/
def base : State :=
  { State.reset with
    hds := { Hds.powerOn with
      tx := (Hds.powerOn.tx.set 0 (some txA)).set 1 (some txA)
      ant := (Hds.powerOn.ant.set 0 (some anA)).set 1 (some anB)
      zones := Hds.powerOn.zones.set 0 ⟨[0, 1], true⟩
      staticMin := (Hds.powerOn.staticMin.set 0 (some 59)).set 1 (some 59) }
    clk := { Clock.powerOn with state := .free, day := 10, sec := 1000 }
    amx := { Amx.powerOn with
      ant := (Amx.powerOn.ant.set 0 (some .initial)).set 1 (some .initial)
      rowPos := (Amx.powerOn.rowPos.set 0 (.atp .load)).set 1 (.atp .load)
      zone := Amx.powerOn.zone.set 0 (some false) }
    swb := { Swb.powerOn with
      row := (Swb.powerOn.row.set 0 (some .initial)).set 1 (some .initial)
      sel := (Swb.powerOn.sel.set 0 (some .initial)).set 1 (some .initial)
      beam := Swb.powerOn.beam.set 1 (some .initial) } }

/-- The hall RUNNING. -/
def running : State := base.withHall .running

/-- TX1's context changed. -/
def c1 (f : Ctx → Ctx) (s : State) : State := s.updCtx 0 f

/-- TX1 READY on 9500 kHz with RF OFF. -/
def readyTx : State := running.updCtx 0 fun c => { c with state := .ready, rf := .off, tuned := some 9500 }

/-- TX1 ON_AIR at LOAD on tap 4, drive 849. -/
def onAirTx : State :=
  (running.updCtx 0 fun c =>
    { c with state := .onAir, rf := .on, tuned := some 9500, tap := some 4, drive := 849, rfShown := true }).updProt 0
    fun p => { p with d := 849, power := some 3000 }

/-- A running channel with 1000 ms left. -/
def running1s : Chan := ⟨true, 1000, 1000⟩

/-- A setpoint on LOAD. -/
def toLoadSetp : Setpoint := ⟨9500, none, 0, 3000, 3, .schedule, true⟩

/-- A setpoint on AN1. -/
def toAntSetp : Setpoint := ⟨9500, some 0, 0, 3000, 3, .schedule, true⟩

/-- A plan all of whose phases hold one status. -/
def planAll (st : PStatus) (q : Setpoint) : Plan :=
  { target := some (.entry 1 101 10), setp := some q, needsRetune := false, needsRelease := false, needsPath := false
    needsBeam := false, phases := ⟨st, st, st, st, st, st, st, st, st, st, st, st⟩, claim := .none, planned := some 900000
    predicted := 900000, holdPoint := .none, atHold := false, pend := none, windDown := false, cause := none
    claimSec := none, claimAnt := none, holdReleased := false, deferFlags := false, awaiting := [] }

/-- A plan whose phases have ended but for one, which waits. -/
def planAt (ph : Phase) (q : Setpoint) : Plan :=
  { planAll .ended q with phases := (planAll .ended q).phases.put ph .waiting }

/-- The next state of a command, or the state itself where it stops. -/
def next (c : Instr) (s : State) : State :=
  match exec c s with
  | .next t => t
  | _ => s

/-- The result that waits in the A-port's reply slot. -/
def result (s : State) : Option Result := s.lnk.a.slot.map (·.result)

/-- An entry of 60 minutes at minute 600 on every day, on LOAD. -/
def entryA (id : Nat) : Entry := ⟨id, 0, 9500, none, 0, 3000, 600, 60, 127, 3, none, none, none⟩

/-- A booking on LOAD. -/
def bookingA (id start : Nat) : Booking := ⟨id, 0, 9500, none, 0, 3000, start, some 60, 3, true, none⟩

/-! ## Well-formedness: an ill-formed term for each check -/

theorem test_wellFormed_accepts :
    ([.powerOn, .defineTx .a 1 5 txFields, .defineAnt .a 1 12 antFields, .meter 0 9999 0, .moving 96,
      .position 57 (some (.beam 8)), .unknownKind .a 0 0] : List Instr).all wellFormed = true := by decide +kernel

theorem test_wellFormed_numbers :
    ([.defineTx .a 1 256 txFields, .defineTxRemove .a 1 256, .defineAnt .a 1 256 antFields, .defineAntRemove .a 1 256,
      .readTxDef .a 1 256, .readAntDef .a 1 256, .setTime .a 1 65536 0 none, .setTime .a 1 0 4294967296 none,
      .setTime .a 1 0 0 (some 256), .latch .a 1 (some [256]), .latch .a 1 (some (List.replicate 17 1)),
      .readSnapshot .a 1 256, .dropEntry .a 1 65536, .readEntry .a 1 .staged 65536 .exact, .setSource .a 1 256 .auto,
      .cancelBooking .a 1 256, .readOccurrence .a 1 256, .setHoldPoint .a 1 (some 256) .none, .releaseHold .a 1 256,
      .readPlan .a 1 256, .trim .a 1 (.tx 256) 0, .trim .a 1 (.group 1) 65536, .readTrim .a 1 (.group 256),
      .clearFault .a 1 256, .readTx .a 1 256, .setAntServiceOut .a 1 256, .setAntServiceIn .a 1 256,
      .clearSuspect .a 1 256, .readAnt .a 1 256, .linkTest .a 1 65536, .armChangeover .a 1 (.atTime 65536 0),
      .armChangeover .a 1 (.atTime 0 4294967296), .unknownKind .a 1 0x01] : List Instr).any wellFormed = false := by
  decide +kernel

theorem test_wellFormed_txFields :
    ([{ rating := some 65536 }, { bandLow := some 65536 }, { bandHigh := some 65536 }, { taps := some [65536] },
      { taps := some [1, 2, 3, 4, 5, 6, 7] }, { rampStep := some 65536 }, { rampInterval := some 65536 },
      { warmUp := some 65536 }, { tuneShort := some 65536 }, { tuneLong := some 65536 }, { shortSpan := some 65536 },
      { tuneTimeout := some 65536 }, { rowEst := some 256 }, { rowTimeout := some 256 }, { recycleLimit := some 256 },
      { recycleDelay := some 256 }, { recycleWindow := some 65536 }, { loadWarn := some 65536 },
      { loadFold := some 65536 }, { loadTrip := some 65536 }, { idleDarken := some 65536 }] : List TxFields).any
      wfTx = false := by decide +kernel

theorem test_wellFormed_antFields :
    ([{ rating := some 65536 }, { bandLow := some 65536 }, { bandHigh := some 65536 }, { zone := some 256 },
      { reach := some [256] }, { beams := some 256 }, { warn := some 65536 }, { fold := some 65536 },
      { trip := some 65536 }, { selEst := some 256 }, { selTimeout := some 65536 }, { beamEst := some 65536 },
      { beamTimeout := some 65536 }] : List AntFields).any wfAnt = false := by decide +kernel

theorem test_wellFormed_hallFields :
    ([{ minForward := some 65536 }, { minRemainder := some 65536 }, { group1 := some [256] }, { group2 := some [256] },
      { group3 := some [256] }, { group4 := some [256] }] : List HallFields).any wfHall = false := by decide +kernel

theorem test_wellFormed_entryFields :
    ([{ id := some 65536 }, { tx := some 256 }, { freq := some 65536 }, { path := some 256 }, { beam := some 256 },
      { power := some 65536 }, { start := some 65536 }, { duration := some 65536 }, { days := some 128 },
      { priority := some 256 }, { firstDay := some 65536 }, { lastDay := some 65536 },
      { tag := some 65536 }] : List EntryFields).any wfEntry = false := by decide +kernel

theorem test_wellFormed_sealFields :
    ([⟨65536, [83, 50, 52, 65], 0, 0, 0⟩, ⟨0, [83], 0, 0, 0⟩, ⟨0, [83, 50, 52, 256], 0, 0, 0⟩,
      ⟨0, [83, 50, 52, 65], 65536, 0, 0⟩, ⟨0, [83, 50, 52, 65], 0, 65536, 0⟩,
      ⟨0, [83, 50, 52, 65], 0, 0, 65536⟩] : List SealFields).any wfSeal = false := by decide +kernel

theorem test_wellFormed_bookFields :
    ([{ tx := some 256 }, { freq := some 65536 }, { path := some 256 }, { beam := some 256 }, { power := some 65536 },
      { start := some (.on 65536 0) }, { start := some (.on 0 4294967296) }, { duration := some 4294967296 },
      { priority := some 256 }, { tag := some 65536 }] : List BookFields).any wfBook = false := by decide +kernel

theorem test_wellFormed_reports :
    ([.state 0 ⟨.rfOn, false, none, 0, 0, false⟩, .state 0 ⟨.rfOn, false, none, 7, 0, false⟩,
      .state 0 ⟨.rfOn, false, none, 1, 1001, false⟩, .state 0 ⟨.rfOn, false, some 65536, 1, 0, false⟩,
      .meter 0 10000 0, .meter 0 0 10000, .tuned 0 65536, .moving 97, .arrived 97 .load, .arrived 57 (.beam 9),
      .stuck 97 .load, .stuck 57 (.beam 9), .position 97 none, .position 57 (some (.beam 9))] : List Instr).any
      wellFormed = false := by decide +kernel

/-! ## Worked examples of the manual -/

/-- Section 11.1: the check value of the CRC. -/
theorem test_crc : crcOf [0x31, 0x32, 0x33, 0x34, 0x35, 0x36, 0x37, 0x38, 0x39] = 0x29B1#16 := by decide +kernel

/-- R193: the first two bytes of the link-test sequence. -/
theorem test_link_bytes : linkBytes 2 0x7F#7 = [0xFE, 0x04] := by decide +kernel

/-- The table of R2: the defaults. -/
theorem test_tx_defaults : txRecord txFields = some txA := by decide +kernel

/-- The table of R4: the defaults. -/
theorem test_ant_defaults : antRecord antFields = some anA := by decide +kernel

/-- R3: RAMP-INTERVAL 1999 is stored as 1950 and 30 as 50; RAMP-STEP 5 as 10. -/
theorem test_ramp_clamps :
    (txRecord { txFields with rampInterval := some 1999, rampStep := some 5 }).map (fun d => (d.rampInterval, d.rampStep)) =
      some (1950, 10) ∧
    (txRecord { txFields with rampInterval := some 30 }).map (·.rampInterval) = some 50 := by decide +kernel

/-- Section 1.6, worked derivation: M_5 is 62 s, and 59 s with the slower beam redefined. -/
theorem test_static_minimum :
    staticMinimum txA 4 [{ anA with reach := [4] }, { anA with reach := [4], beams := 6 },
      { anA with reach := [4], beams := 4, beamEst := 40 }] = 62 ∧
    staticMinimum txA 4 [{ anA with reach := [4] }, { anA with reach := [4], beams := 6 },
      { anA with reach := [4], beams := 4 }] = 59 := by decide +kernel

/-- Section 9.10: power 3000 against 5000 and 3200 gives tap 4 and drive 849; at fold level 1, C 2523 and drive 714. -/
theorem test_composition :
    ((compose txA 3000 1000 3200 0).tap, (compose txA 3000 1000 3200 0).d) = (4, 849) ∧
    (ceiling 3000 1, (composeOn txA 4 3200 2523 false).d) = (2523, 714) := by decide +kernel

/-- Section 6.9: T 2000 takes tap 3 at drive 800, T 3000 tap 4 at 849. -/
theorem test_composition_swap :
    ((compose txA 2500 1000 2000 0).tap, (compose txA 2500 1000 2000 0).d) = (3, 800) ∧
    ((compose txA 3000 1000 5000 0).tap, (compose txA 3000 1000 5000 0).d) = (4, 849) := by decide +kernel

/-- Section 9.10: the windows' reflection coefficients and VSWR, and the ends of R164. -/
theorem test_windows :
    (gammaOf 2999 41, vswrOf 2999 41) = (116, 126) ∧ (gammaOf 2999 290, vswrOf 2999 290) = (310, 189) ∧
    (gammaOf 2523 600, vswrOf 2523 600) = (487, 289) ∧ vswrOf 3000 0 = 100 ∧ vswrOf 3000 3000 = 9999 := by
  decide +kernel

/-- R19: day 65535 wraps to day 0, and the offset grows by 2 modulo 7. -/
theorem test_day_wraps :
    let c := ({ Clock.powerOn with state := .free, day := 65535, sec := 86399, offset := 6 } : Clock).advance
    (c.day, c.sec, c.offset) = (0, 0, 1) := by decide +kernel

/-- Section 3.5: the bank order of the worked sealing. -/
theorem test_bank_order :
    (Entry.before { entryA 103 with tx := 2, start := 0 } { entryA 101 with tx := 2, start := 840 }) = true ∧
    (Entry.before { entryA 102 with tx := 2, start := 870 } { entryA 201 with tx := 6, start := 840 }) = true := by
  decide +kernel

/-! ## One command on a small state -/

/-- R10, R2: in HALTED the record is stored whole; R101's table: outside HALTED a DEFINE is refused STATE. -/
theorem test_defineTx : (next (.defineTx .a 7 3 txFields) base).txDef 2 = some txA ∧
    result (next (.defineTx .a 7 3 txFields) running) = some (.refused .state 1) := by decide +kernel

/-- R14: a removal takes the record and the row switch. -/
theorem test_defineTxRemove : (next (.defineTxRemove .a 7 2) base).txDef 1 = none ∧
    (next (.defineTxRemove .a 7 2) base).entry (.row 1) = none := by decide +kernel

/-- R6: the antenna joins the members of its zone. -/
theorem test_defineAnt : (next (.defineAnt .a 7 3 antFields) base).hds.zones[0] = ⟨[0, 1, 2], true⟩ := by decide +kernel

/-- R5: redefining AN2 with one beam takes BD2 away. -/
theorem test_defineAnt_beam : (next (.defineAnt .a 7 2 antFields) base).actDefined (.beam 1) = false := by decide +kernel

/-- R14: a removal takes selector and run-time record. -/
theorem test_defineAntRemove : (next (.defineAntRemove .a 7 1) base).run 0 = none ∧
    (next (.defineAntRemove .a 7 1) base).entry (.sel 0) = none := by decide +kernel

/-- R8: a transmitter in two groups is refused CONFLICT naming it. -/
theorem test_defineHall : result (next (.defineHall .a 7 { group1 := some [1, 2], group3 := some [2] }) base) =
    some (.refused .conflict 2) := by decide +kernel

/-- R17: number 17 is outside 0..16. -/
theorem test_readTxDef : result (next (.readTxDef .a 7 17) base) = some (.refused .range 1) := by decide +kernel

/-- R17: AN3 is not defined. -/
theorem test_readAntDef : result (next (.readAntDef .a 7 3) base) = some (.refused .noSuch 3) := by decide +kernel

/-- R23: applied at once in FREE, held in LOCKED. -/
theorem test_setTime :
    (let t := next (.setTime .a 7 812 43300 (some 3)) base; (t.clk.day, t.clk.sec, t.clk.offset)) = (812, 43300, 3) ∧
    (next (.setTime .a 7 812 43300 none) { base with clk := { base.clk with state := .locked } }).clk.pend =
      some ⟨812, 43300, 0⟩ := by decide +kernel

/-- R26: the weekday is (day + offset) mod 7. -/
theorem test_readTime : result (next (.readTime .a 7) { base with clk := { base.clk with offset := 3 } }) =
    some (.accepted (.time 10 1000 3 6 .free 0 0 0 none)) := by decide +kernel

/-- R33, R35: a latched slot is returned as it was copied and then unlatched. -/
theorem test_latch : ((next (.latch .a 7 (some [1, 1])) readyTx).snaps[0]).map (·.state) = some .ready := by decide +kernel

theorem test_readSnapshot :
    (next (.readSnapshot .a 7 1) { base with snaps := base.snaps.set 0 (some (readyTx.snapshotOf 0)) }).snaps[0] = none := by
  decide +kernel

/-- The table of section 3.2: OPEN-STAGING in EMPTY and in SEALED. -/
theorem test_openStaging : (next (.openStaging .a 7) base).sch.staged.state = .open ∧
    result (next (.openStaging .a 7) (withStaged { base.sch.staged with state := .sealed } base)) =
      some (.refused .state 0) := by decide +kernel

/-- R41: the entry of the same ID is replaced. -/
theorem test_putEntry :
    let s := withStaged { base.sch.staged with state := .open, entries := [entryA 101, entryA 102] } base
    let f : EntryFields :=
      { id := some 101, tx := some 2, freq := some 9500, path := some 0, beam := some 0, power := some 3000
        start := some 0, duration := some 30, days := some 1, priority := some 2 }
    result (next (.putEntry .a 7 f) s) = some (.accepted (.put true 2 2)) := by decide +kernel

/-- R42. -/
theorem test_dropEntry :
    let s := withStaged { base.sch.staged with state := .open, entries := [entryA 101, entryA 102] } base
    (next (.dropEntry .a 7 101) s).sch.staged.entries = [entryA 102] := by decide +kernel

/-- R46: NEXT from 0 gives the smallest ID. -/
theorem test_readEntry :
    let s := withStaged { base.sch.staged with state := .open, entries := [entryA 102, entryA 101] } base
    result (next (.readEntry .a 7 .staged 0 .next) s) = some (.accepted (.entry (entryA 101) 2 none)) := by decide +kernel

/-- R43: a count that differs is refused CONFLICT with the count held. -/
theorem test_sealStaging :
    let s := withStaged { base.sch.staged with state := .open, entries := [entryA 101, entryA 102] } base
    result (next (.sealStaging .a 7 ⟨24, [83, 50, 52, 65], 0, 900, 3⟩) s) = some (.refused .conflict 2) := by decide +kernel

/-- R44: the reply carries the cursor. -/
theorem test_abortStaging :
    let s := withStaged { base.sch.staged with state := .validating, pass := 2, position := 5 } base
    result (next (.abortStaging .a 7) s) = some (.accepted (.cursor 2 5)) := by decide +kernel

/-- R45: BUSY in VALIDATING. -/
theorem test_discardStaging :
    result (next (.discardStaging .a 7) (withStaged { base.sch.staged with state := .validating } base)) =
      some (.refused .busy 0) := by decide +kernel

/-- R53: a time not later than now is refused, a later one arms. -/
theorem test_armChangeover : (next (.armChangeover .a 7 (.atTime 10 1000)) base).sch.arming = .disarmed ∧
    (next (.armChangeover .a 7 (.atTime 10 1001)) base).sch.arming = .atTime 10 1001 := by decide +kernel

/-- R54. -/
theorem test_fireChangeover : result (next (.fireChangeover .a 7) base) = some (.refused .state 0) ∧
    result (next (.fireChangeover .a 7) { base with sch := { base.sch with arming := .command } }) =
      some (.accepted (.missed .empty)) := by decide +kernel

/-- R77. -/
theorem test_setSource : ((next (.setSource .a 7 1 .manual) base).ctx 0).source = .manual := by decide +kernel

/-- R73: an AUTO transmitter is refused STATE at check 5; a MANUAL one gets booking 1. -/
theorem test_book :
    let f : BookFields :=
      { tx := some 1, freq := some 9500, path := some 0, beam := some 0, power := some 3000
        start := some .now, duration := some 60, priority := some 3, wait := some true }
    result (next (.book .a 7 f) base) = some (.refused .state 5) ∧
    result (next (.book .a 7 f) (c1 (fun c => { c with source := .manual }) base)) =
      some (.accepted (.booked 1 865000)) := by decide +kernel

/-- R75. -/
theorem test_cancelBooking :
    (next (.cancelBooking .a 7 2) { base with sch := { base.sch with bookings := [bookingA 2 900000] } }).sch.bookings = [] := by
  decide +kernel

/-- R117: ALL writes every defined transmitter. -/
theorem test_setHoldPoint : (next (.setHoldPoint .a 7 none .beforeRf) base).csq.hold[1] = .beforeRf ∧
    (next (.setHoldPoint .a 7 none .beforeRf) base).csq.hold[2] = .none := by decide +kernel

/-- R119: without a plan, STATE. -/
theorem test_releaseHold : result (next (.releaseHold .a 7 1) base) = some (.refused .state 0) := by decide +kernel

/-- R99: a value below 500 is clamped. -/
theorem test_trim : result (next (.trim .a 7 (.tx 2) 499) base) = some (.accepted (.trims [(1, 500)] [3])) := by
  decide +kernel

/-- R98: the three checks. -/
theorem test_clearFault : result (next (.clearFault .a 7 1) base) = some (.refused .state 1) ∧
    ((next (.clearFault .p 7 1) (base.updCtx 0 fun c =>
      { c with
        state := .faulted, rf := .off, cause := some .tune
        last := some ⟨.tuned, false, some 9500, 1, 0, true⟩ })).ctx 0).state = .ready := by decide +kernel

/-- R101: a survey turn for each defined transmitter. -/
theorem test_startHall : ((next (.startHall .a 7) base).txs.survey).map (·.turns[1]) = some (some .pending) ∧
    ((next (.startHall .a 7) base).txs.survey).map (·.turns[2]) = some none := by decide +kernel

/-- R102: HALT-HALL from RUNNING with RF on leaves HALTING. -/
theorem test_haltHall : (next (.haltHall .p 7 false) onAirTx).txs.hall = .halting := by decide +kernel

/-- R140, R144. -/
theorem test_service : ((next (.setAntServiceOut .p 7 1) base).run 0).map (·.service) = some .outHost ∧
    result (next (.clearSuspect .a 7 1) base) = some (.refused .state 0) := by decide +kernel

/-- R193 in the port's terms. -/
theorem test_linkTest : result (next (.linkTest .a 7 2) base) = some (.accepted (.linkTest [0xFE, 0x04] 0 0)) := by
  decide +kernel

/-- R190: RESTART is not for the panel. -/
theorem test_restart_panel :
    ((next (.restart .p 7) base).lnk.p.slot).map (·.result) = some (.refused .notPermitted 0) := by decide +kernel

/-- R189: the code is the detail of UNKNOWN-KIND. -/
theorem test_unknownKind : result (next (.unknownKind .a 7 0x77) base) = some (.refused .unknownKind 0x77) := by
  decide +kernel

/-- R187: 0x5A begins a frame. -/
theorem test_portByte : (next (.portByte .a 0x5A) base).lnk.a.rx.state = .length ∧
    (next (.portByte .a 0x5B) base).lnk.a.rx.state = .hunt := by decide +kernel

/-- Section 11.5, worked exchange: the reply goes first after a notice. -/
theorem test_frameTransmit :
    let s := base.updPort .a fun q => { q with
      slot := some ⟨0x11, 0xB3, base.header .a, .accepted .empty⟩, queue := [.notice 10 0 (.zoneClosed 0)] }
    (next (.frameTransmit .a) s).lnk.a.slot = none ∧ (next (.frameTransmit .a) s).lnk.a.queue.length = 1 := by decide +kernel

/-- R22: in FREE the oscillator advances the second; R24: the third missing pulse. -/
theorem test_oscillatorSecond : (next .oscillatorSecond base).clk.sec = 1001 := by decide +kernel

/-- R22: a pulse 400 ms after a second locks the clock without a second advance. -/
theorem test_secondPulse : (next (.secondPulse 400) base).clk.state = .locked ∧
    (next (.secondPulse 400) base).clk.sec = 1000 := by decide +kernel

/-- R22: the third missing pulse makes HOLDOVER. -/
theorem test_pulseWindowClose :
    (next .pulseWindowClose { base with clk := { base.clk with state := .locked, tail := true, missing := 2 } }).clk.state =
      .holdover := by decide +kernel

/-- R47, R48: an entry of an undefined transmitter gives TX-UNDEFINED. -/
theorem test_sweepStep :
    let s := withStaged { base.sch.staged with
      state := .validating, entries := [{ entryA 101 with tx := 4 }, entryA 102], header := some ⟨24, [83, 50, 52, 65], 0, 900⟩ } base
    (next .sweepStep s).sch.staged.conflicts = [⟨.txUndefined, 101, 0⟩] := by decide +kernel

/-- R104: the emergency takes RF off a transmitter on air. -/
theorem test_emergencyAsserted : ((next .emergencyAsserted onAirTx).ctx 0).outstanding.map (·.order) = some .rfOff ∧
    (next .emergencyAsserted onAirTx).txs.hall = .emergency := by decide +kernel

/-- R138: the zone becomes OPEN. -/
theorem test_gateLineOff : (next (.gateLineOff 0) base).amx.zone[0] = some true := by decide +kernel

/-- R86: a STATE report with RF_ON rebuilds ON_AIR with tap and drive. -/
theorem test_state : ((next (.state 0 ⟨.rfOn, false, some 9500, 4, 849, false⟩) base).ctx 0).state = .onAir ∧
    ((next (.state 0 ⟨.rfOn, false, some 9500, 4, 849, false⟩) base).ctx 0).drive = 849 := by decide +kernel

/-- R97: the key at LOCAL. -/
theorem test_state_local : ((next (.state 0 ⟨.dark, true, none, 1, 0, true⟩) base).ctx 0).source = .localKey := by
  decide +kernel

/-- Section 9.10: the second window folds, and DRIVE 714 is sent. -/
theorem test_meter :
    let s := (onAirTx.updProt 0 fun p => { p with path := some 0, count := 3, fwdSum := 8996, reflSum := 870 }).setRun 0
      (some { AntRun.initial with owner := some ⟨0, .schedule, 3, 900⟩ })
    let t := next (.meter 0 3000 290) { s with amx := { s.amx with
      rowPos := s.amx.rowPos.set 0 (.atp .matrix), selPos := s.amx.selPos.set 0 (.atp (.tx 0)) } }
    (t.prot 0).fold = 1 ∧ (t.ctx 0).outstanding.map (·.order) = some (.drive 714) := by decide +kernel

/-- R94: the cause of a FAULT report. -/
theorem test_fault : ((next (.fault 0 .cooling) onAirTx).ctx 0).cause = some .cooling ∧
    ((next (.fault 0 .cooling) onAirTx).ctx 0).outstanding.map (·.order) = some .rfOff := by decide +kernel

/-- R95, R170: a trip waits for its recycle. -/
theorem test_trip : ((next (.trip 0 .arc) onAirTx).ctx 0).state = .tripped ∧
    ((next (.trip 0 .arc) onAirTx).prot 0).recycleCount = 1 := by decide +kernel

/-- R90. -/
theorem test_tuned :
    let s := c1 (fun c => { c with state := .tuning, tuneFreq := some 11800, tuned := none }) readyTx
    ((next (.tuned 0 11800) s).ctx 0).state = .ready ∧ ((next (.tuned 0 9500) s).ctx 0).state = .faulted := by decide +kernel

/-- R84. -/
theorem test_lineSilenceExpiry :
    let s := onAirTx.setChan (.tx 0 .silence) ⟨true, 0, 3000⟩
    ((next (.lineSilenceExpiry 0) s).ctx 0).lineUp = false ∧ ((next (.lineSilenceExpiry 0) s).ctx 0).rf = .unsure := by
  decide +kernel

/-- R91: the second step of a ramp of 50 per interval is 100. -/
theorem test_rampExpiry :
    let s := (c1 (fun c => { c with state := .rampingUp, drive := 50, ramp := some ⟨.up, 0, 1, true⟩ }) onAirTx).setChan
      (.tx 0 .ramp) ⟨true, 0, 200⟩
    ((next (.rampExpiry 0) s).ctx 0).outstanding.map (·.order) = some (.drive 100) := by decide +kernel

/-- R116: RAMPUP sends RF-ON on the tap composed (tap 4 for 3000 on LOAD). -/
theorem test_phaseBegin :
    ((next (.phaseBegin 0 .rampup) (readyTx.setPlan 0 (some (planAt .rampup toLoadSetp)))).ctx 0).outstanding.map (·.order) =
      some (.rfOn 4) := by decide +kernel

/-- R130: the head of the queue becomes owner. -/
theorem test_antennaOffer :
    let s := running.setRun 0 (some ⟨.inService, none, [⟨1, 3, .schedule, true, 2000⟩], []⟩)
    ((next (.antennaOffer 0) s).owner 0).map (·.tx) = some 1 := by decide +kernel

/-- R137: a held move with its interlock goes to SWB, and its actuator is TRAVELLING. -/
theorem test_moveHandover :
    let s := { readyTx with amx := { readyTx.amx with held := [⟨.row 0, .matrix, .amx, 0, []⟩] } }
    (next .moveHandover s).pos (.row 0) = .travelling .matrix ∧
    ((next .moveHandover s).swb.queue.map (·.act)) = [.row 0] := by decide +kernel

/-- R149: the order is sent and the answer channel runs 1000 ms. -/
theorem test_busOrderSend :
    let s := { running with swb := { running.swb with queue := [⟨.row 0, none, .swb⟩] } }
    (next .busOrderSend s).chan .busAnswer = ⟨true, 1000, 1000⟩ := by decide +kernel

/-- R151: an arrival out of UNKNOWN is recorded. -/
theorem test_arrived : (next (.arrived 1 .matrix) base).pos (.row 0) = .atp .matrix := by decide +kernel

/-- R152: an unordered move is STUCK. -/
theorem test_moving :
    let s := base.setEntry (.row 0) (some { ActEntry.initial with status := .atp .load })
    ((next (.moving 1) s).entry (.row 0)).map (·.status) = some (.fault .stuck) := by decide +kernel

/-- R153: no answer is SILENT. -/
theorem test_busAnswerExpiry :
    let s := ({ base with swb := { base.swb with trans := .query (.row 0) } } : State).setChan .busAnswer running1s
    ((next .busAnswerExpiry s).entry (.row 0)).map (·.status) = some (.fault .silent) := by decide +kernel

/-- R154: an all-call begins with the first actuator. -/
theorem test_allQuerySend :
    (next .allQuerySend { base with swb := { base.swb with allCallWaiting := true } }).swb.trans = .allCall (.row 0) := by
  decide +kernel

/-- R105: at power-on with the line asserted the hall is in EMERGENCY. -/
theorem test_powerOn : (next .powerOn { base with pins := { base.pins with emergency := true } }).txs.hall = .emergency ∧
    (next .powerOn base).hds = Hds.powerOn := by decide +kernel

/-- The table gives no bits, so no word spells a command. -/
theorem test_no_word : decodeTableWord 8 0x5A = none := by decide

/-- The queue: the front command runs, the rest waits. -/
theorem test_step : (match step { base with pending := [.openStaging .a 1, .restart .a 2] } with
    | .next t => (t.sch.staged.state, t.pending.length)
    | _ => (.empty, 0)) = (.open, 1) := by decide +kernel

/-! ## Witnesses: states and operands that meet the hypotheses of each statement -/

/-- A waiting frame on the A-port. -/
def waitingA : State := base.updPort .a fun q => { q with waiting := some ⟨7, .readTime⟩ }

/-- A reply in the A-port's reply slot. -/
def replyA : State := base.updPort .a fun q => { q with slot := some ⟨7, 0x89, base.header .a, .accepted .empty⟩ }

/-- The A-port's receiver in one state. -/
def rxA (x : Rx) : State := base.updPort .a fun q => { q with rx := x }

/-- An ordinary queued notice. -/
def ordinaryA : QEntry := .notice 10 0 (.zoneClosed 0)

/-- The A-port's notice queue. -/
def queueA (q : List QEntry) : State := base.updPort .a fun x => { x with queue := q }

/-- The hall EMERGENCY line asserted. -/
def emergencyOn (s : State) : State := { s with pins := { s.pins with emergency := true } }

/-- The clock changed. -/
def clk (f : Clock → Clock) (s : State) : State := { s with clk := f s.clk }

/-- The STAGED bank OPEN with entries. -/
def staged (st : StagedState) (l : List Entry) : State := withStaged { base.sch.staged with state := st, entries := l } base

theorem free_base (port : Port) : portFree port base := by cases port <;> exact ⟨rfl, rfl⟩

theorem wit_StepRunsTheFrontCommand :
    ({ base with pending := [.readTime .a 1] } : State).pending = .readTime .a 1 :: [] ∧ base.pending = [] := ⟨rfl, rfl⟩

theorem wit_PortAuthorityFollowsTheTable :
    frameOf (.restart .p 7) = some (.p, 7, .restart) ∧ portFree .p base ∧ (∀ code, Request.restart ≠ .unknownKind code) ∧
    ¬ maySend .p base .restart ∧ maySend .p base .readTime ∧ maySend .a base .restart ∧ ¬ maySend .p base (.latch none) ∧
    maySend .p { base with hds := { base.hds with hall := { base.hds.hall with panelTelemetry := true } } } (.latch none) :=
  ⟨rfl, free_base .p, fun _ h => (by cases h), fun h => Port.noConfusion h, trivial, rfl,
    not_or.mpr ⟨Port.noConfusion, Bool.noConfusion⟩, Or.inr rfl⟩

theorem wit_FramesWaitAreTakenAndTested :
    frameOf (.readTime .a 7) = some (.a, 7, .readTime) ∧ (waitingA.port .a).waiting.isSome = true ∧
    (replyA.port .a).waiting = none ∧ (replyA.port .a).slot.isSome = true ∧
    (waitingA.port .a).slot = none ∧ (waitingA.port .a).waiting = some ⟨7, .readTime⟩ ∧ portFree .a base :=
  ⟨rfl, rfl, rfl, rfl, rfl, rfl, free_base .a⟩

theorem wit_FrameBytesAreReceived :
    (base.port .p).rx = .hunting ∧ (base.port .p).waiting = none ∧ (List.replicate 1024 (0 : Byte)).length ≤ 1024 :=
  ⟨rfl, rfl, Nat.le_of_eq List.length_replicate⟩

theorem wit_ReceiverFollowsTheTable :
    let rx (x : Rx) : Rx := ((rxA x).port .a).rx
    (base.port .a).waiting = none ∧ (rx .hunting).state = .hunt ∧ (0x5B : Byte) ≠ 0x5A ∧
    (rx ⟨.length, none, 0, 0, 0, []⟩).state = .length ∧ (rx ⟨.length, none, 0, 0, 0, []⟩).first = none ∧
    (rx ⟨.length, some 4, 0, 0, 0, []⟩).first = some 4 ∧ 1024 < (4 : Byte).toNat * 256 + (1 : Byte).toNat ∧
    (4 : Byte).toNat * 256 + (0 : Byte).toNat ≤ 1024 ∧ (rx ⟨.tag, none, 1, 0, 0, []⟩).state = .tag ∧
    (rx ⟨.kind, none, 1, 7, 0, []⟩).state = .kind ∧ (rx ⟨.body, none, 1, 7, 9, []⟩).state = .body ∧
    (rx ⟨.check, none, 0, 7, 9, []⟩).state = .check ∧ (rx ⟨.check, some 0, 0, 7, 9, []⟩).first = some 0 ∧
    (0 : Byte) ++ (0 : Byte) ≠ crcOf (rx ⟨.check, some 0, 0, 7, 9, []⟩).covered ∧
    (((rxA ⟨.tag, none, 1, 0, 0, []⟩).setChan (.gap .a) running1s).chan (.gap .a)).running = true ∧
    (base.chan (.gap .a)).running = false := by decide +kernel

theorem wit_NoticesQueueAndGoOut :
    (replyA.port .a).slot = some ⟨7, 0x89, base.header .a, .accepted .empty⟩ ∧ (replyA.port .a).queue = [] ∧
    ((queueA [ordinaryA]).port .a).slot = none ∧ ((queueA [ordinaryA]).port .a).queue = ordinaryA :: [] ∧
    (replyA.port .a).lastReply = false ∧
    ((replyA.updPort .a fun q => { q with lastReply := true, queue := [ordinaryA] }).port .a).lastReply = true ∧
    (base.port .a).slot = none ∧ (base.port .a).queue = [] ∧
    (((queueA (List.replicate 62 ordinaryA)).port .a).queue.filter QEntry.ordinary).length < 63 ∧
    63 ≤ (((queueA (List.replicate 63 ordinaryA)).port .a).queue.filter QEntry.ordinary).length ∧
    (∀ e ∈ ((queueA (List.replicate 63 ordinaryA)).port .a).queue, e.ordinary = true) ∧
    ((queueA (List.replicate 63 ordinaryA ++ .overflow 10 0 1 :: [])).port .a).queue =
      List.replicate 63 ordinaryA ++ .overflow 10 0 1 :: [] ∧
    (∀ e ∈ List.replicate 63 ordinaryA ++ [], e.ordinary = true) := by decide +kernel

theorem wit_EveryStepKeepsQueuesWithinTheirPlaces :
    let full := List.replicate 63 ordinaryA ++ [QEntry.overflow 10 0 1]
    queueLegal (queueA full).lnk.a.queue ∧ queueLegal (queueA full).lnk.p.queue ∧
    ∃ t, step (queueA full) = .next t := by
  refine ⟨?_, ?_, _, rfl⟩ <;> unfold queueLegal <;> decide +kernel

theorem wit_FramesWaitAreTakenAndTested_link : portFree .a base ∧ (1 ≤ 256 ∧ 256 ≤ 256) ∧ ((0 = 0) ∨ 256 < 0) ∧ (257 = 0 ∨ 256 < 257) := by
  refine ⟨free_base .a, ?_, ?_, ?_⟩ <;> decide

theorem wit_HallDescriptionChangesOnlyWhenHalted :
    (Instr.oscillatorSecond ≠ .powerOn) ∧ running.txs.hall ≠ .halted ∧
    exec .oscillatorSecond running = .next (next .oscillatorSecond running) :=
  ⟨by decide, by decide +kernel, rfl⟩

theorem wit_DefineTxStoresOrRemoves :
    portFree .a base ∧ base.txs.hall = .halted ∧ itemOf 16 16 = some 15 ∧ itemOf 16 1 = some 0 ∧
    txRecord txFields = some txA ∧ txFieldFault txA = none ∧ base.txDefined 0 = true ∧ base.txDefined 15 = false ∧
    (base.antDefined 1 = true ∧ (base.setPos (.sel 1) (.travelling (.tx 0))).pos (.sel 1) = .travelling (.tx 0)) ∧
    (base.antDefined 0 = true ∧ base.owned 0 ≠ some 0 ∧ base.pos (.sel 0) ≠ .atp (.tx 0)) := by
  refine ⟨free_base .a, ?_⟩; decide +kernel

theorem wit_DefineAntStoresOrRemoves :
    let standsAt2 := base.setPos (.sel 0) (.atp (.tx 1))
    let travels := base.setPos (.beam 0) (.travelling (.beam 1))
    let ownedBy1 := base.setRun 0 (some { AntRun.initial with owner := some ⟨0, .schedule, 3, 900⟩ })
    portFree .a base ∧ base.txs.hall = .halted ∧ itemOf 40 1 = some 0 ∧ itemOf 40 40 = some 39 ∧
    antFieldFault antFields = none ∧ antRecord antFields = some anA ∧
    antRecord { antFields with reach := some [1] } = some { anA with reach := [0] } ∧
    antFieldFault { antFields with reach := some [1] } = none ∧
    (1 : TxId) ∉ ({ anA with reach := [0] } : AntDef).reach ∧ standsAt2.pos (.sel 0) = .atp (.tx 1) ∧
    anA.beams = 1 ∧ travels.pos (.beam 0) = .travelling (.beam 1) ∧ base.pos (.sel 0) = .unknown ∧
    base.antDefined 39 = false ∧ base.antDefined 0 = true ∧ ownedBy1.owner 0 = some ⟨0, .schedule, 3, 900⟩ ∧
    base.owner 0 = none := by
  refine ⟨free_base .a, ?_⟩; decide +kernel

theorem wit_DefineHallStoresTheRecord :
    portFree .a base ∧ base.txs.hall = .halted ∧ hallFieldFault { minRemainder := some 60000 } = some 2 ∧
    hallFieldFault { group1 := some [1], group2 := some [1] } = none ∧
    sharedMember { group1 := some [1], group2 := some [1] } = some 1 ∧
    hallFieldFault {} = none ∧ sharedMember {} = none ∧ base.sch.staged.state = .empty ∧
    (staged .sealed [entryA 101]).sch.staged.state = .sealed ∧ (staged .sealed [entryA 101]).sch.staged.entries ≠ [] := by
  refine ⟨free_base .a, ?_⟩; decide +kernel

theorem wit_RequestsReadTheStateBack_description :
    portFree .p base ∧ itemOf 16 1 = some 0 ∧ base.txDef 0 = some txA ∧ itemOf 16 16 = some 15 ∧ base.txDef 15 = none ∧
    16 < 17 ∧ itemOf 40 2 = some 1 ∧ base.antDef 1 = some anB ∧ itemOf 40 40 = some 39 ∧ base.antDef 39 = none := by
  refine ⟨free_base .p, ?_⟩; decide +kernel

theorem wit_EveryStepKeepsTheClockLegal :
    clockLegal { base.clk with state := .locked, missing := 2, pend := some ⟨65535, 86399, 6⟩ } ∧
    ∃ t, step (clk (fun c => { c with state := .locked, missing := 2, pend := some ⟨65535, 86399, 6⟩ }) base) = .next t := by
  refine ⟨?_, _, rfl⟩
  unfold clockLegal
  refine ⟨by decide, by decide, by decide, by decide, by decide, by decide, ?_, ?_, ?_, ?_, ?_⟩
  · intro h; cases h
  · intro _; decide
  · intro _; rfl
  · intro _; rfl
  · intro v h; cases h; decide

theorem wit_SecondsFollowOscillatorAndPulse :
    let locked := clk (fun c => { c with state := .locked }) base
    let tailed := clk (fun c => { c with state := .locked, tail := true, phase := 50 }) base
    (base.clk.state = .locked → base.clk.tail = false) ∧ base.clk.tail = false ∧ base.clk.phase + 999 < 1000 ∧
    (clk (fun c => { c with state := .unset }) base).clk.state = .unset ∧ base.clk.state = .free ∧
    500 ≤ base.clk.phase + 500 ∧ ¬ 500 ≤ base.clk.phase + 499 ∧
    locked.clk.state = .locked ∧ locked.clk.tail = false ∧ locked.clk.phase + 949 < 950 ∧
    (950 ≤ locked.clk.phase + 950 ∧ locked.clk.phase + 950 < 1000) ∧ tailed.clk.tail = true ∧ tailed.clk.phase + 0 ≤ 50 ∧
    base.clk.state ≠ .locked ∧ tailed.clk.phase ≤ 50 ∧ tailed.clk.missing < 2 ∧
    (clk (fun c => { c with missing := 2 }) tailed).clk.missing = 2 ∧
    (clk (fun c => { c with missing := 2 }) tailed).clk.pend = none ∧
    (clk (fun c => { c with missing := 2, pend := some ⟨812, 43300, 3⟩ }) tailed).clk.pend = some ⟨812, 43300, 3⟩ := by
  decide +kernel

theorem wit_TimeIsSetAndRead :
    let locked := clk (fun c => { c with state := .locked }) base
    portFree .a base ∧ portFree .a locked ∧ 65535 < 65536 ∧ (65535 ≤ 65535 ∧ 86399 < 86400) ∧
    (some 7 = some 7 ∧ 6 < 7) ∧ (∀ o, some 6 = some o → o ≤ 6) ∧ locked.clk.state = .locked ∧ base.clk.state ≠ .locked ∧
    clockLegal State.reset.clk ∧ State.reset.clk.state = .unset ∧ portFree .p State.reset := by
  refine ⟨free_base .a, ⟨rfl, rfl⟩, by decide, by decide, by decide, ?_, by decide +kernel, by decide +kernel, ?_, rfl,
    ⟨rfl, rfl⟩⟩
  · intro o h; cases h; decide
  · unfold clockLegal
    refine ⟨by decide, by decide, by decide, by decide, by decide, by decide, fun _ => ⟨rfl, rfl, rfl⟩, ?_, ?_, ?_, ?_⟩
    · intro h; cases h
    · intro h; cases h
    · intro h; cases h
    · intro v h; cases h

theorem wit_TimersCountAndSyncIsQualified :
    base.pending = [] ∧ ((base.setChan (.tx 0 .tune) running1s).chan (.tx 0 .tune)).running = true ∧
    (base.setChan (.tx 0 .tune) running1s).gateOpen (.tx 0 .tune) = true ∧ (base.chan (.tx 0 .tune)).running = false := by
  decide +kernel

theorem wit_TimersCountAndSyncIsQualified_sync :
    let on : State := ({ base with pins := { base.pins with sync := true } } : State).setChan .sync ⟨true, 0, 10⟩
    let armed : State := { on with sch := { on.sch with arming := .syncLine } }
    base.pins.sync = false ∧ on.pins.sync = true ∧ (base.chan .sync).running = false ∧ (on.chan .sync).running = true ∧
    on.sch.arming ≠ .syncLine ∧ armed.sch.arming = .syncLine ∧ armed.sch.staged.state ≠ .sealed ∧
    (withStaged { armed.sch.staged with state := .sealed } armed).sch.staged.state = .sealed := by decide +kernel

theorem wit_SnapshotsLatchAndUnlatch :
    let held : State := { base with snaps := base.snaps.set 0 (some (base.snapshotOf 0)) }
    portFree .a base ∧ portFree .a held ∧ (Port.a = .a ∨ base.hds.hall.panelTelemetry = true) ∧
    ([0, 1] : List TxId) ≠ [] ∧ ([0, 1] : List TxId).length ≤ 16 ∧ (∀ n ∈ ([0, 1] : List TxId), base.txDefined n = true) ∧
    (([] : List Nat) = [] ∨ 16 < ([] : List Nat).length) ∧ (∃ k ∈ [17], k = 0 ∨ 16 < k) ∧
    (∃ n ∈ ([0, 15] : List TxId), base.txDefined n = false) ∧ (0 = 0 ∨ 16 < 0) ∧ itemOf 16 1 = some 0 ∧
    itemOf 16 16 = some 15 ∧ base.txDefined 15 = false ∧ held.txDefined 0 = true ∧
    held.snaps[0] = some (base.snapshotOf 0) ∧ base.snaps[0] = none := by
  refine ⟨free_base .a, ⟨rfl, rfl⟩, .inl rfl, ?_⟩; decide +kernel

theorem wit_StagingFollowsItsState :
    let f : EntryFields :=
      { id := some 101, tx := some 1, freq := some 9500, path := some 0, beam := some 0, power := some 3000
        start := some 600, duration := some 60, days := some 127, priority := some 3 }
    portFree .a (staged .open [entryA 101]) ∧ base.sch.staged.state = .empty ∧
    (staged .rejected [entryA 101]).sch.staged.state = .rejected ∧ (staged .validating []).sch.staged.state = .validating ∧
    (staged .sealed []).sch.staged.state = .sealed ∧ (staged .open []).sch.staged.state = .open ∧
    base.sch.staged.state ≠ .open ∧ (0 = 0 ∨ 65535 < 0) ∧ (1 ≤ 65535 ∧ 65535 ≤ 65535) ∧
    (∀ x ∈ (staged .open [entryA 101]).sch.staged.entries, x.id ≠ 65535) ∧
    (∃ x ∈ (staged .open [entryA 101]).sch.staged.entries, x.id = 101) ∧
    entryMissing {} = some 1 ∧ entryMissing { f with start := some 1440 } = none ∧
    entryFieldFault { f with start := some 1440 } = some 7 ∧ entryMissing f = none ∧ entryFieldFault f = none ∧
    entryRecord f = some (entryA 101) ∧ ¬ (∃ x ∈ (staged .open []).sch.staged.entries, x.id = 101) ∧
    (staged .open [entryA 101]).sch.staged.entries.Pairwise (fun x y => x.before y = true) := by
  refine ⟨⟨rfl, rfl⟩, ?_⟩; decide +kernel

theorem wit_StagingFollowsItsState_full :
    1024 ≤ (staged .open (List.replicate 1024 (entryA 102))).sch.staged.entries.length ∧
    (staged .open (List.replicate 1023 (entryA 102))).sch.staged.entries.length < 1024 :=
  ⟨Nat.le_of_eq List.length_replicate.symm, Nat.lt_of_le_of_lt (Nat.le_of_eq List.length_replicate) (Nat.lt_succ_self 1023)⟩

theorem wit_EntriesAreCheckedAndOverlapsFound_overlap :
    ({ season := 24, label := [83, 50, 52, 65], first := 0, last := 65534 } : Header).last < 65535 ∧
    ({ entryA 101 with start := 1439 } : Entry).start < 1440 ∧ 0 < ({ entryA 101 with duration := 1440 } : Entry).duration ∧
    ({ entryA 101 with duration := 1440 } : Entry).duration ≤ 1440 ∧
    (entryA 101).overlaps ⟨24, [83, 50, 52, 65], 0, 65534⟩ (entryA 102) = true ∧
    (entryA 101).overlaps ⟨24, [83, 50, 52, 65], 0, 65534⟩ { entryA 102 with start := 660 } = false := by decide +kernel

theorem wit_SealingSweepsTheBank :
    let two := staged .open [entryA 101, entryA 102]
    let v := withStaged { two.sch.staged with state := .validating, position := 1 } two
    let w := withStaged { two.sch.staged with state := .validating, pass := 3, position := 2 } two
    portFree .a two ∧ two.sch.staged.state = .open ∧ sealFieldFault ⟨24, [83, 50, 52, 65], 0, 65535, 2⟩ = none ∧
    (2 = two.sch.staged.entries.length) ∧ (3 ≠ two.sch.staged.entries.length) ∧ two.sch.staged.entries ≠ [] ∧
    (staged .open []).sch.staged.entries = [] ∧ (staged .open []).sch.arming ≠ .onSeal ∧
    two.sch.staged.state ≠ .validating ∧ v.sch.staged.state = .validating ∧ v.sch.staged.pass = 1 ∧ 1 ≤ v.sch.staged.position ∧
    v.sch.staged.entries.drop (v.sch.staged.position - 1) = entryA 101 :: [entryA 102] ∧
    v.sch.staged.position < v.sch.staged.entries.length ∧ w.sch.staged.pass = 3 ∧
    w.sch.staged.entries.drop (w.sch.staged.position - 1) = [entryA 102] ∧ w.sch.arming ≠ .onSeal := by
  refine ⟨⟨rfl, rfl⟩, ?_⟩; decide +kernel

theorem wit_ChangeoverIsArmedAndFired :
    let armed : State := { base with sch := { base.sch with arming := .command } }
    portFree .a base ∧ portFree .a armed ∧ 65535 < 65536 ∧ (65535 ≤ 65535 ∧ 86399 < 86400 ∧ 86399 ≤ 86399) ∧
    State.reset.clk.state = .unset ∧ base.clk.state ≠ .unset ∧
    base.clk.day * 86400 + base.clk.sec < 10 * 86400 + 1001 ∧ 10 * 86400 + 1000 ≤ base.clk.day * 86400 + base.clk.sec ∧
    base.sch.staged.state ≠ .sealed ∧ (staged .sealed []).sch.staged.state = .sealed ∧ base.sch.arming ≠ .command ∧
    armed.sch.arming = .command ∧
    (withStaged { armed.sch.staged with state := .sealed } armed).sch.staged.state = .sealed := by
  refine ⟨free_base .a, ⟨rfl, rfl⟩, ?_⟩; decide +kernel

theorem wit_EntriesAreCheckedAndOverlapsFound :
    let bank : ActiveBank := ⟨[(entryA 101, false)], ⟨24, [83, 50, 52, 65], 0, 900⟩, 1, true, false⟩
    let due : State := { base with sch := { base.sch with active := some bank, recheckDue := true } }
    base.sch.recheckDue = false ∧ due.sch.recheckDue = true ∧ due.sch.active = some bank ∧ bank.recheck = true := by
  decide +kernel

/-- The fields of a booking on LOAD. -/
def bookFields : BookFields :=
  { tx := some 1, freq := some 9500, path := some 0, beam := some 0, power := some 3000, start := some .now
    duration := some 60, priority := some 3, wait := some true }

/-- TX1 with source MANUAL. -/
def manual : State := c1 (fun c => { c with source := .manual }) base

theorem wit_BookingChecksStandInOrder :
    let withList (l : List Booking) : State := { manual with sch := { manual.sch with bookings := l } }
    portFree .a base ∧ portFree .a manual ∧ bookMissing {} = some 1 ∧
    bookMissing { bookFields with duration := some 59 } = none ∧ bookFieldFault { bookFields with duration := some 59 } = some 7 ∧
    bookMissing bookFields = none ∧ bookFieldFault bookFields = none ∧ bookFields.tx = some (num (0 : TxId)) ∧
    State.reset.clk.state = .unset ∧ base.clk.state ≠ .unset ∧ State.reset.txDef 0 = none ∧ base.txDef 0 = some txA ∧
    (base.bookingFor 0 0 { bookFields with path := some 40 }).path = some 39 ∧ base.antDef 39 = none ∧
    (base.ctx 0).source ≠ .manual ∧ (manual.ctx 0).source = .manual ∧
    manual.pathFault 0 txA 3000 none 0 = some .txBand ∧ manual.pathFault 0 txA 9500 none 0 = none ∧
    later manual.now (manual.bookingFor 0 0 { bookFields with start := some (.on 10 999) }).start = true ∧
    later manual.now (manual.bookingFor 0 0 bookFields).start = false ∧
    (manual.bookingFor 0 0 bookFields).overlaps (bookingA 1 manual.now) = true ∧
    (manual.bookingFor 0 0 bookFields).overlaps (bookingA 1 (manual.now + 60)) = false ∧
    (withList [bookingA 1 (manual.now + 60)]).sch.bookings = [bookingA 1 (manual.now + 60)] ∧
    (∀ k, 1 ≤ k → k ≤ 1 → ∃ c ∈ [bookingA 1 0], c.id = k) := by
  refine ⟨free_base .a, ⟨rfl, rfl⟩, ?_⟩
  and_intros
  all_goals decide +kernel

theorem wit_BookingChecksStandInOrder_full :
    ∀ k, 1 ≤ k → k ≤ 32 → ∃ c ∈ (List.range 32).map (fun i => bookingA (i + 1) 0), c.id = k := by
  intro k h1 h2
  refine ⟨bookingA k 0, List.mem_map.mpr ⟨k - 1, List.mem_range.mpr (by omega), ?_⟩, rfl⟩
  congr 1; omega

theorem wit_BookingsEndAndSourcesChange :
    let s : State := { manual with sch := { manual.sch with bookings := [bookingA 32 900000] } }
    let stored := c1 (fun c => { c with stored := .manual }) manual
    portFree .a base ∧ portFree .a s ∧ (0 = 0 ∨ 32 < 0) ∧ (1 ≤ 32 ∧ 32 ≤ 32) ∧ (∀ b ∈ base.sch.bookings, b.id ≠ 32) ∧
    s.sch.bookings.find? (fun x => decide (x.id = 32)) = some (bookingA 32 900000) ∧ itemOf 16 1 = some 0 ∧
    itemOf 16 16 = some 15 ∧ base.txDefined 15 = false ∧ base.txDefined 0 = true ∧
    (base.setPlan 0 (some (planAll .ended toLoadSetp))).plan 0 ≠ none ∧ base.plan 0 = none ∧ (base.ctx 0).stored = .auto ∧
    (c1 (fun c => { c with source := .localKey }) base).txs.ctx[0].source = .localKey ∧
    (base.ctx 0).source ≠ .localKey ∧ (stored.ctx 0).stored = .manual ∧ (stored.ctx 0).source = .manual := by
  refine ⟨free_base .a, ⟨rfl, rfl⟩, ?_⟩; decide +kernel

theorem wit_RequestsReadTheStateBack :
    let two := staged .open [entryA 101, entryA 102]
    portFree .p two ∧ (101 ≤ 65535 ∧ 0 < 101) ∧ (103 ≠ 0 ∨ ReadMode.exact = .next) ∧
    (∀ x ∈ two.sch.staged.entries, if ReadMode.exact = .exact then x.id ≠ 103 else x.id ≤ 103) ∧
    two.sch.staged.entries.find? (fun x => decide (x.id = 101)) = some (entryA 101) ∧
    (∃ x ∈ two.sch.staged.entries, 101 < x.id) ∧ itemOf 16 16 = some 15 ∧ base.txDefined 15 = false ∧
    itemOf 16 1 = some 0 ∧ base.txDefined 0 = true := by
  refine ⟨⟨rfl, rfl⟩, ?_⟩; decide +kernel

/-- A RUNNING hall with a MANUAL TX1, DARK, and a booking that covers now. -/
def booked : State :=
  let s := (c1 (fun c => { c with source := .manual, stored := .manual, state := .standby, rf := .off }) running)
  { s with sch := { s.sch with bookings := [{ bookingA 1 s.now with duration := some 3600 }] } }

/-- The candidate of that booking. -/
def bookedCand : Option Cand := booked.covering 0

theorem wit_CoveringTargetIsDecided :
    base.unjudged 2 = true ∧ booked.txs.hall = .running ∧ booked.unjudged 0 = false ∧ booked.plan 0 = none ∧
    booked.covering 0 = bookedCand ∧ bookedCand.map (·.id) = some (.booking 1 865000) ∧
    booked.recorded 0 (.booking 1 865000) = false ∧
    bookedCand.map (booked.invalidBooking 0) = some false ∧
    bookedCand.map ({ booked with hds := { booked.hds with tx := booked.hds.tx.set 0 (some { txA with bandLow := 9600 }) } :
      State }.invalidBooking 0) = some true ∧
    bookedCand.map (fun c => booked.matching 0 c.setp) = some false ∧ bookedCand.map booked.tooLate = some false ∧
    bookedCand.map (clk (fun c => { c with sec := 4500 }) booked).tooLate = some true ∧
    bookedCand.map (fun c => (c1 (fun x => { x with state := .onAir, rf := .on, tuned := some 9500, tap := some 4 })
      booked).matching 0 c.setp) = some true := by decide +kernel

theorem wit_PlannedDurationAddsItsTerms : base.txDef 0 = some txA ∧ 0 < txA.rampStep := by decide +kernel

/-- A context with a deferred order and none outstanding. -/
def deferred (o : Order) (s : State) : State := c1 (fun c => { c with outstanding := none, deferred := some ⟨o, .csq⟩ }) s

theorem mayRadiate_ready : mayRadiate 0 readyTx := ⟨.inl (by decide +kernel), rfl, .inl (by decide +kernel)⟩

theorem mayRadiate_onAir : mayRadiate 0 onAirTx := ⟨.inl (by decide +kernel), rfl, .inl (by decide +kernel)⟩

theorem not_mayRadiate_base : ¬ mayRadiate 0 base := fun h => by
  rcases h.1 with h | h <;> exact absurd h (by decide +kernel)

theorem wit_DeferredOrderIsSent :
    (base.ctx 0).deferred = none ∧ ((deferred .rfOff base).ctx 0).outstanding = none ∧
    ((deferred .rfOff base).ctx 0).deferred = some ⟨.rfOff, .csq⟩ ∧ ((deferred (.rfOn 4) readyTx).ctx 0).source ≠ .localKey ∧
    ((deferred (.rfOn 4) readyTx).ctx 0).state = .ready ∧ mayRadiate 0 (deferred (.rfOn 4) readyTx) ∧
    ¬ mayRadiate 0 (deferred (.rfOn 4) base) ∧ ((deferred (.drive 900) onAirTx).ctx 0).state = .onAir ∧
    ((deferred (.drive 900) onAirTx).ctx 0).rf = .on ∧ mayRadiate 0 (deferred (.drive 900) onAirTx) ∧
    ((deferred (.drive 900) base).ctx 0).drive < 900 ∧ ¬ mayRadiate 0 (deferred (.drive 900) base) ∧
    ((deferred (.tune 11800) readyTx).ctx 0).state = .ready ∧ ((deferred (.tune 11800) readyTx).ctx 0).rf = .off ∧
    ((deferred .warm (c1 (fun c => { c with state := .dark }) running)).ctx 0).state = .dark ∧
    ((deferred .darken readyTx).ctx 0).declined = false := by
  and_intros
  all_goals first
    | decide +kernel
    | exact .inl (by decide +kernel)
    | intro h; rcases h.1 with h | h <;> exact absurd h (by decide +kernel)

/-- TX1 with one order outstanding and none deferred. -/
def asked (o : Order) (f : Ctx → Ctx) : State :=
  c1 (fun c => f { c with outstanding := some ⟨o, 0, .csq, .ready, 0⟩, deferred := none }) readyTx

theorem wit_AcceptAndRejectAnswerTheOrder :
    let ramping (c : Ctx) : Ctx := { c with state := .rampingUp, rf := .on, ramp := some ⟨.up, 0, 0, true⟩ }
    readyTx.txDef 0 = some txA ∧ (readyTx.ctx 0).lineUp = true ∧ (readyTx.ctx 0).outstanding = none ∧
    ((asked .warm fun c => { c with state := .dark }).ctx 0).state = .dark ∧
    ((asked (.tune 11800) id).ctx 0).outstanding = some ⟨.tune 11800, 0, .csq, .ready, 0⟩ ∧
    ((asked (.tune 11800) id).ctx 0).state = .ready ∧ ((asked (.tune 11800) id).ctx 0).source ≠ .localKey ∧
    ((asked (.rfOn 4) ramping).ctx 0).ramp = some ⟨.up, 0, 0, true⟩ ∧ ((asked (.rfOn 4) ramping).ctx 0).state = .rampingUp ∧
    ((asked (.drive 0) ramping).ctx 0).outstanding.map (·.order) = some (.drive ((asked (.drive 0) ramping).prot 0).d) ∧
    ((asked .rfOff id).ctx 0).state ≠ .unknown ∧ ((asked .darken id).ctx 0).deferred = none ∧
    ((asked .statusAsk id).ctx 0).outstanding.map (·.order) = some .statusAsk ∧
    ((asked .warm id).ctx 0).state ≠ .tripped := by decide +kernel

theorem wit_UnknownContextIsRebuiltAndKeyObeyed :
    base.txDef 0 = some txA ∧ (base.ctx 0).lineUp = true ∧ (base.ctx 0).state = .unknown ∧ (base.ctx 0).lostUnknown = false ∧
    (⟨.rfOn, false, some 9500, 4, 849, false⟩ : StateReport).keyLocal = false ∧ (base.ctx 0).source ≠ .localKey ∧
    base.txs.hall ≠ .emergency ∧ base.actFaulted (.row 0) = false := by decide +kernel

theorem served_ready : served 0 readyTx := ⟨by decide +kernel, by decide +kernel⟩

theorem wit_StateReportIsCheckedAgainstTheContext :
    let confirming := (c1 (fun c => { c with sentSince := { c.sentSince with rfOff := true } }) onAirTx).setChan (.tx 0 .rfOff) running1s
    served 0 readyTx ∧ readyTx.txs.hall ≠ .emergency ∧ (readyTx.ctx 0).source ≠ .localKey ∧ (readyTx.ctx 0).state = .ready ∧
    ¬ explainedBy (readyTx.ctx 0) .warming ∧
    explainedBy ((c1 (fun c => { c with sentSince := { c.sentSince with darken := true } }) readyTx).ctx 0) .dark ∧
    explainedBy (onAirTx.ctx 0) .rfOn ∧ explainedBy (confirming.ctx 0) .tuned ∧ ¬ rfOnOn (confirming.ctx 0) ∧
    (confirming.chan (.tx 0 .rfOff)).running = true ∧
    explainedBy ((c1 (fun c => { c with state := .warming }) readyTx).ctx 0) .standby := by
  refine ⟨served_ready, by decide +kernel, by decide +kernel, by decide +kernel, ?_, ?_, ?_, ?_, ?_, by decide +kernel, ?_⟩
  · rintro (h | ⟨h, _⟩ | ⟨h, _⟩ | ⟨h, _⟩) <;> cases h
  · exact .inr (.inr (.inr ⟨rfl, rfl⟩))
  · exact .inl rfl
  · exact .inr ⟨.inl rfl, rfl⟩
  · rintro (⟨o, k, h, _⟩ | ⟨o, k, h, _⟩) <;> exact absurd h (by simp [c1, onAirTx, running, base, State.updCtx, State.setChan,
      State.ctx, State.updProt, State.withHall, State.reset, Txs.powerOn, Ctx.powerOn])
  · exact .inr (.inr rfl)

theorem wit_UnknownContextIsRebuiltAndKeyObeyed_key :
    served 0 readyTx ∧ (⟨.tuned, true, some 9500, 1, 0, true⟩ : StateReport).keyLocal = true ∧
    (readyTx.ctx 0).source ≠ .localKey ∧ ((c1 (fun c => { c with source := .localKey }) readyTx).ctx 0).source = .localKey :=
  ⟨served_ready, rfl, by decide +kernel, by decide +kernel⟩

theorem wit_UnitReportsAndTimedEndsMoveTheContext :
    let tuning := c1 (fun c => { c with state := .tuning, tuneFreq := some 11800 }) readyTx
    let faulted := c1 (fun c => { c with state := .faulted, cause := some .tune }) readyTx
    served 0 readyTx ∧ (tuning.ctx 0).state = .tuning ∧ (tuning.ctx 0).tuneFreq = some 11800 ∧ (11800 = 11800) ∧
    (9500 ≠ 11800) ∧ (faulted.ctx 0).state = .faulted ∧ (faulted.ctx 0).cause = some .tune ∧
    (readyTx.ctx 0).state ≠ .tuning ∧ (readyTx.ctx 0).state ≠ .faulted ∧ (readyTx.ctx 0).state ≠ .unknown ∧
    (base.ctx 0).state = .unknown := by
  refine ⟨served_ready, ?_⟩; decide +kernel

theorem wit_UnitReportsAndTimedEndsMoveTheContext_ends :
    let warming := (c1 (fun c => { c with state := .warming, last := some ⟨.standby, false, none, 1, 0, true⟩ }) readyTx).setChan
      (.tx 0 .warmUp) running1s
    (base.chan (.tx 0 .warmUp)).running = false ∧ (warming.chan (.tx 0 .warmUp)).running = true ∧
    (warming.ctx 0).state = .warming ∧ (warming.ctx 0).last = some ⟨.standby, false, none, 1, 0, true⟩ ∧
    ((readyTx.setChan (.tx 0 .tune) running1s).chan (.tx 0 .tune)).running = true ∧
    ((c1 (fun c => { c with state := .tuning }) readyTx).ctx 0).state = .tuning ∧
    ((readyTx.setChan (.tx 0 .rfOff) running1s).chan (.tx 0 .rfOff)).running = true ∧ (readyTx.ctx 0).state ≠ .unknown := by
  decide +kernel

theorem wit_LinesAreLostAndRestored :
    let lost := c1 (fun c => { c with lineUp := false, owed := true }) base
    ((base.setChan (.tx 0 .accept) running1s).chan (.tx 0 .accept)).running = true ∧
    ((base.setChan (.tx 0 .silence) running1s).chan (.tx 0 .silence)).running = true ∧
    (base.chan (.tx 0 .accept)).running = false ∧ (base.chan (.tx 0 .silence)).running = false ∧
    otherReport 0 (.accept 0) ∧ lost.txDefined 0 = true ∧ (lost.ctx 0).lineUp = false ∧ (lost.ctx 0).outstanding = none ∧
    (lost.ctx 0).deferred = none ∧ (lost.ctx 0).source ≠ .localKey ∧ (lost.ctx 0).owed = true ∧ base.txDefined 15 = false ∧
    otherReport 15 (.meter 15 0 0) := by
  and_intros
  all_goals first
    | decide +kernel
    | exact .inl rfl
    | exact .inr (.inr (.inl ⟨0, 0, rfl⟩))

theorem wit_TrimsAndFaultClearing :
    let grouped : State := { base with hds := { base.hds with hall := { base.hds.hall with
      groups := base.hds.hall.groups.set 3 [0, 15] } } }
    let f (r : Option StateReport) (rf : Rf) (k : FaultCause) : State :=
      c1 (fun c => { c with state := .faulted, last := r, rf := rf, cause := some k }) base
    portFree .p base ∧ portFree .p grouped ∧ itemOf 16 17 = none ∧ itemOf 4 4 = some 3 ∧
    (grouped.hds.hall.groups[3]).filter (fun n => (grouped.txDef n).isSome) = [0] ∧
    (base.hds.hall.groups[3]).filter (fun n => (base.txDef n).isSome) = [] ∧ itemOf 16 1 = some 0 ∧ itemOf 16 16 = some 15 ∧
    base.txDefined 15 = false ∧ base.txDefined 0 = true ∧ (base.ctx 0).state ≠ .faulted ∧
    ((f (some ⟨.fault, false, none, 1, 0, true⟩) .off .unit).ctx 0).last = some ⟨.fault, false, none, 1, 0, true⟩ ∧
    ((f none .unsure .unit).ctx 0).rf ≠ .off ∧
    ((f (some ⟨.tuned, false, some 9500, 1, 0, true⟩) .off .recycleLimit).ctx 0).cause = some .recycleLimit ∧
    ((f (some ⟨.tuned, false, some 9500, 1, 0, true⟩) .off .rowSwitch).ctx 0).cause = some .rowSwitch ∧
    ((f (some ⟨.tuned, false, some 9500, 1, 0, true⟩) .off .rowSwitch).ctx 0).rf = .off := by
  refine ⟨free_base .p, ⟨rfl, rfl⟩, ?_⟩; decide +kernel

theorem wit_HallStartsHaltsAndGoesOff :
    portFree .a base ∧ running.txs.hall ≠ .halted ∧ base.txs.hall = .halted ∧ State.reset.clk.state = .unset ∧
    base.clk.state ≠ .unset ∧ (∀ n, (clk (fun c => { c with state := .free }) State.reset).txDefined n = false) ∧
    (∃ n, base.txDefined n = true) ∧ (emergencyOn base).pins.emergency = true ∧ base.pins.emergency = false ∧
    running.txs.hall = .running ∧ (base.withHall .surveying).txs.hall = .surveying ∧
    (base.withHall .halting).txs.hall = .halting ∧
    quiet ((base.updCtx 0 fun c => { c with rf := .off }).updCtx 1 fun c => { c with rf := .off }) ∧ ¬ quiet base := by
  refine ⟨free_base .a, ?_⟩
  and_intros
  all_goals first
    | decide +kernel
    | rfl
    | skip
  intro h; exact absurd (h.1 0 (by decide +kernel)) (by decide +kernel)

theorem wit_HallStartsHaltsAndGoesOff_emergency :
    (emergencyOn base).pins.emergency = true ∧ onAirTx.pins.emergency = false ∧ onAirTx.txDefined 0 = true ∧
    (onAirTx.ctx 0).rf ≠ .off ∧ (onAirTx.ctx 0).lineUp = true ∧
    ((c1 (fun c => { c with lineUp := false }) onAirTx).ctx 0).lineUp = false := by decide +kernel

theorem wit_HoldPointsAreSetAndReleased :
    let held (h : HoldPoint) : State :=
      readyTx.setPlan 0 (some { planAt .rampup toLoadSetp with holdPoint := h, atHold := true })
    portFree .a base ∧ portFree .p base ∧ portFree .a (held .beforeRf) ∧ itemOf 16 17 = none ∧ itemOf 16 1 = some 0 ∧
    itemOf 16 16 = some 15 ∧ base.txDefined 15 = false ∧ base.txDefined 0 = true ∧ base.plan 0 = none ∧
    ((held .beforeRf).plan 0).map (fun p => (p.atHold, p.phases.rampup, p.holdPoint)) = some (true, .waiting, .beforeRf) ∧
    ((held .afterTune).plan 0).map (·.holdPoint) = some .afterTune ∧ (planAt .rampup toLoadSetp).atHold = false := by
  refine ⟨free_base .a, free_base .p, ⟨rfl, rfl⟩, ?_⟩; decide +kernel

/-- TX1 with a plan in which one phase waits and the others have ended. -/
def planned (ph : Phase) (q : Setpoint) (s : State) : State := s.setPlan 0 (some (planAt ph q))

theorem phaseReady_planAt (ph : Phase) (q : Setpoint) (h : ph ≠ .done) : phaseReady (planAt ph q) ph := by
  refine ⟨?_, ?_, ?_, rfl, rfl⟩
  · cases ph <;> rfl
  · intro x hx; cases ph <;> simp [waitsFor] at hx <;> rcases hx with h | h | h | h | h | h | h | h | h | h <;>
      subst_vars <;> first | exact .inl rfl | simp_all
  · intro h; exact absurd h.1 (by cases ph <;> simp [planAt, planAll])

/-- Where the conditions of each phase of `PhasesMakeTheirRequests` are met. -/
theorem wit_PhasesMakeTheirRequests :
    let dark := planned .warm toLoadSetp (c1 (fun c => { c with state := .dark }) readyTx)
    let out := planned .toLoad toLoadSetp (readyTx.setPos (.row 0) (.atp .matrix))
    let owner := planned .release toLoadSetp (readyTx.setRun 0 (some { AntRun.initial with owner := some ⟨0, .schedule, 3, 900⟩ }))
    (∀ ph : Phase, ph ≠ .done → phaseReady (planAt ph toLoadSetp) ph) ∧
    phaseReady (planAt .claim toAntSetp) .claim ∧ ¬ phaseReady (planAll .ended toLoadSetp) .warm ∧ served 0 dark ∧
    served 0 onAirTx ∧ mayRadiate 0 readyTx ∧ base.plan 0 = none ∧
    (dark.ctx 0).source ≠ .localKey ∧ (dark.ctx 0).state = .dark ∧ (dark.ctx 0).outstanding = none ∧
    (onAirTx.ctx 0).rf = .on ∧ (onAirTx.ctx 0).state = .onAir ∧ onAirTx.rfOffInHand 0 = false ∧ (onAirTx.ctx 0).ramp = none ∧
    (c1 (fun c => { c with outstanding := some ⟨.rfOff, 0, .csq, .ready, 0⟩ }) onAirTx).rfOffInHand 0 = true ∧
    (onAirTx.ctx 0).outstanding = none ∧ (onAirTx.ctx 0).source ≠ .localKey ∧
    out.pos (.row 0) ≠ .atp .load ∧ out.pos (.row 0) ≠ .travelling .load ∧ out.actFaulted (.row 0) = false ∧
    (readyTx.setPos (.row 0) (.travelling .load)).pos (.row 0) = .travelling .load ∧
    owner.owned 0 = some 0 ∧ owner.pos (.sel 0) ≠ .atp .ground ∧ owner.actFaulted (.sel 0) = false ∧
    (planAt .tune toLoadSetp).setp = some toLoadSetp ∧ (readyTx.ctx 0).rf = .off ∧ (readyTx.ctx 0).state = .ready ∧
    toAntSetp.path = some 0 ∧ readyTx.run 0 = some AntRun.initial ∧ readyTx.antDef 0 = some anA ∧ (0 : TxId) ∈ anA.reach ∧
    readyTx.amx.zone[anA.zone] ≠ some true ∧ readyTx.owned 0 = none ∧ readyTx.reservation 0 = none ∧
    readyTx.pos (.row 0) ≠ .atp .matrix ∧ readyTx.txDef 0 = some txA ∧ (readyTx.ctx 0).lineUp = true ∧
    (compose txA 3000 (readyTx.ctx 0).trim (readyTx.pathRating txA none) 0).limit = false := by
  refine ⟨fun ph h => phaseReady_planAt ph _ h, phaseReady_planAt .claim _ (by decide), fun h => (nomatch h.1),
    ⟨by decide +kernel, by decide +kernel⟩, ⟨by decide +kernel, by decide +kernel⟩, mayRadiate_ready, ?_⟩
  decide +kernel

/-- A pending retarget to a setpoint, or to a wind-down. -/
def retargeted (q : Option Setpoint) : Plan :=
  { planAll .waiting toLoadSetp with pend := some ⟨some (.entry 1 102 10), q, some 900100, 59⟩ }

theorem wit_RetargetTakesEffect :
    base.plan 0 = none ∧ ((onAirTx.setPlan 0 (some (retargeted (some toLoadSetp)))).plan 0) = some (retargeted (some toLoadSetp)) ∧
    (retargeted (some toLoadSetp)).pend = some ⟨some (.entry 1 102 10), some toLoadSetp, some 900100, 59⟩ ∧
    (retargeted none).pend = some ⟨some (.entry 1 102 10), none, some 900100, 59⟩ ∧
    ¬ ((retargeted none).phases.warm = .running ∨ (retargeted none).phases.rampdown = .running ∨
      (retargeted none).phases.rfOff = .running ∨ (retargeted none).phases.tune = .running ∨ (retargeted none).awaiting ≠ []) ∧
    (planAll .running toLoadSetp).phases.warm = .running ∧ (planAll .waiting toLoadSetp).pend = none ∧
    (onAirTx.ctx 0).state ≠ .tuning ∧ (onAirTx.ctx 0).rf = .on ∧ toLoadSetp.path = none := by decide +kernel

theorem wit_AntennaServiceChanges :
    let svc (v : Service) : State := base.setRun 0 (some { AntRun.initial with service := v })
    let faulty : State := (svc .outActuator).setEntry (.sel 0) (some { ActEntry.initial with status := .fault .stuck })
    portFree .a base ∧ portFree .a faulty ∧ itemOf 40 0 = none ∧ itemOf 40 41 = none ∧ itemOf 40 1 = some 0 ∧
    itemOf 40 40 = some 39 ∧ base.antDefined 39 = false ∧ base.antDefined 0 = true ∧ base.run 0 = some AntRun.initial ∧
    AntRun.initial.service = .inService ∧ AntRun.initial.owner = none ∧ base.pos (.sel 0) ≠ .atp .ground ∧
    base.actFaulted (.sel 0) = false ∧ base.actFaulted (.beam 0) = false ∧
    ((svc .outHost).run 0).map (·.service) = some .outHost ∧ ((svc .suspect).run 0).map (·.service) = some .suspect ∧
    faulty.actFaulted (.sel 0) = true ∧ (faulty.run 0).map (·.service) = some .outActuator := by
  refine ⟨free_base .a, ⟨rfl, rfl⟩, ?_⟩; decide +kernel

theorem wit_RequestsReadTheStateBack_matrix :
    portFree .p base ∧ itemOf 40 0 = none ∧ itemOf 40 40 = some 39 ∧ base.antDefined 39 = false ∧ itemOf 40 2 = some 1 ∧
    base.antDefined 1 = true ∧ base.run 1 = some AntRun.initial ∧ base.swb.queue.length < 32 ∧
    32 ≤ ({ base.swb with queue := List.replicate 32 ⟨.row 0, none, .swb⟩ } : Swb).queue.length := by
  refine ⟨free_base .p, ?_⟩; decide +kernel

theorem wit_GateLinesOpenAndCloseZones :
    let owning : State := ((onAirTx.setRun 0 (some { AntRun.initial with owner := some ⟨0, .schedule, 3, 900⟩ })).setPos (.sel 0)
      (.atp (.tx 0))).setPos (.row 0) (.atp .matrix)
    let lost : State := c1 (fun c => { c with lineUp := false }) owning
    let queued : State := base.setRun 0 (some ⟨.inService, none, [⟨1, 3, .schedule, true, 2000⟩], []⟩)
    let opened : State := { queued with amx := { queued.amx with zone := queued.amx.zone.set 0 (some true) } }
    base.amx.zone[(1 : ZoneId)] ≠ some false ∧ base.amx.zone[(0 : ZoneId)] ≠ some true ∧
    owning.amx.zone[(0 : ZoneId)] = some false ∧ (0 : AntId) ∈ (owning.hds.zones[(0 : ZoneId)]).members ∧
    owning.owner 0 = some ⟨0, .schedule, 3, 900⟩ ∧ owning.txDefined 0 = true ∧ owning.owned 0 = some 0 ∧
    owning.pos (.row 0) ≠ .atp .load ∧ owning.pos (.sel 0) = .atp (.tx 0) ∧ (owning.ctx 0).rf ≠ .off ∧
    (owning.ctx 0).lineUp = true ∧ (lost.ctx 0).lineUp = false ∧ opened.amx.zone[(0 : ZoneId)] = some true ∧
    (0 : AntId) ∈ (opened.hds.zones[(0 : ZoneId)]).members ∧ opened.antDef 0 = some { anA with zone := 0 } ∧
    opened.run 0 = some ⟨.inService, none, [⟨1, 3, .schedule, true, 2000⟩], []⟩ ∧ opened.owned 1 = none ∧
    (∀ b : AntId, b ≠ 0 → ∀ q ∈ opened.run b, ∀ x ∈ q.queue, x.tx ≠ 1) := by decide +kernel

/-- The interlock of a row holds with its RF off. -/
theorem interlock_row (s : State) (n : TxId) (q : Place) (h : (s.ctx n).rf = .off) : interlockHolds s (.row n) q := h

/-- A move of TX1's row to MATRIX. -/
def rowMove : Held := ⟨.row 0, .matrix, .amx, 0, []⟩

theorem handable_rowMove : handable readyTx rowMove :=
  ⟨.inr (.inl (by decide +kernel)), by decide +kernel,
    fun _ h => (nomatch (show readyTx.pos (.row 0) = .atp .load by decide +kernel).symm.trans h),
    interlock_row readyTx 0 .matrix (by decide +kernel)⟩

theorem not_handable_onAir : ¬ handable onAirTx rowMove := fun h =>
  nomatch (show (onAirTx.ctx 0).rf = .on by decide +kernel).symm.trans (h.2.2.2 : (onAirTx.ctx 0).rf = .off)

theorem wit_GrantsAndHandOversInOrder :
    let queued : State := running.setRun 0 (some ⟨.inService, none, [⟨1, 3, .schedule, true, 2000⟩], []⟩)
    let holding : State := { readyTx with amx := { readyTx.amx with held := [rowMove] } }
    queued.run 0 = some ⟨.inService, none, [⟨1, 3, .schedule, true, 2000⟩], []⟩ ∧ queued.zoneOpenAt 0 = false ∧
    queued.owned 1 = none ∧ (queued.setPlan 1 (some (planAt .claim toAntSetp))).plan 1 = some (planAt .claim toAntSetp) ∧
    base.run 39 = none ∧ base.run 0 = some AntRun.initial ∧ AntRun.initial.queue = [] ∧ holding.amx.reask = [] ∧
    holding.amx.held = [] ++ rowMove :: [] ∧ handable readyTx rowMove ∧ ¬ handable onAirTx rowMove := by
  refine ⟨?_, ?_, ?_, ?_, ?_, ?_, ?_, ?_, ?_, handable_rowMove, not_handable_onAir⟩ <;> decide +kernel

theorem wit_NoMoveWithoutItsInterlock :
    let holding : State := { readyTx with amx := { readyTx.amx with held := [rowMove] } }
    exec .moveHandover holding = .next (next .moveHandover holding) ∧
    (⟨.row 0, some .matrix, .amx⟩ : BusOrder) ∈ (next .moveHandover holding).swb.queue := by
  refine ⟨rfl, ?_⟩; decide +kernel

/-- A query of TX1's row waiting on the bus. -/
def asking : State := { running with swb := { running.swb with queue := [⟨.row 0, none, .swb⟩] } }

/-- A MOVE of TX1's row waiting on the bus after the all-call survey. -/
def moving : State := { running with swb := { running.swb with queue := [⟨.row 0, some .matrix, .amx⟩], surveyed := true } }

theorem eligible_asking : eligibleOrder asking ⟨.row 0, none, .swb⟩ :=
  ⟨.initial, by decide +kernel, fun _ h => (nomatch h), .inl rfl, fun h => absurd rfl h⟩

theorem eligible_moving : eligibleOrder moving ⟨.row 0, some .matrix, .amx⟩ :=
  ⟨.initial, by decide +kernel, fun _ h => (nomatch h), .inl rfl, fun _ => rfl⟩

theorem wit_BusSendsInQueueOrder :
    let call : State := { base with swb := { base.swb with allCallWaiting := true } }
    let bare : State := { State.reset with swb := { State.reset.swb with allCallWaiting := true } }
    asking.swb.trans = .none ∧ asking.swb.allCallWaiting = false ∧ asking.swb.queue = [] ++ ⟨.row 0, none, .swb⟩ :: [] ∧
    eligibleOrder asking ⟨.row 0, none, .swb⟩ ∧ asking.entry (.row 0) = some .initial ∧
    moving.swb.queue = [] ++ ⟨.row 0, some .matrix, .amx⟩ :: [] ∧ eligibleOrder moving ⟨.row 0, some .matrix, .amx⟩ ∧
    moving.entry (.row 0) = some .initial ∧ call.swb.allCallWaiting = true ∧ call.swb.trans = .none ∧
    allAct.filter (fun x => (call.entry x).isSome) = [.row 0, .row 1, .sel 0, .sel 1, .beam 1] ∧
    bare.swb.allCallWaiting = true ∧ bare.swb.trans = .none ∧ (∀ act ∈ allAct, bare.entry act = none) := by
  refine ⟨rfl, rfl, rfl, eligible_asking, ?_, rfl, eligible_moving, ?_, rfl, rfl, ?_, rfl, rfl, ?_⟩ <;> decide +kernel

theorem wit_BusReportsAndTimersFollowTheStatus :
    let at_ (v : ActStatus) : State := base.setEntry (.row 0) (some { ActEntry.initial with status := v })
    let during (v : Trans) : State := { base with swb := { base.swb with trans := v } }
    let retrying : State := base.setEntry (.row 0) (some { ActEntry.initial with requesters := [.swb] })
    (∀ act ∈ allAct, addrOf act = 90 → base.entry act = none) ∧ base.entry (.row 0) = some .initial ∧
    ActEntry.initial.status = .unknown ∧ fitsSender base (.row 0) .load ∧ ¬ fitsSender base (.row 0) .ground ∧
    fitsSender base (.beam 1) (.beam 2) ∧ ¬ fitsSender base (.beam 1) (.beam 3) ∧
    ((at_ (.atp .load)).entry (.row 0)).map (·.status) = some (.atp .load) ∧
    ((at_ (.travelling .load)).entry (.row 0)).map (·.status) = some (.travelling .load) ∧
    ((at_ (.fault .stuck)).entry (.row 0)).map (·.status) = some (.fault .stuck) ∧ (base.swb.trans = .none) ∧
    (during (.query (.row 0))).swb.trans = .query (.row 0) ∧ (during (.allCall (.row 0))).swb.trans = .allCall (.row 0) ∧
    Requester.swb ∉ ActEntry.initial.requesters ∧ ((retrying.entry (.row 0)).map (·.requesters)) = some [.swb] ∧
    noMoveWaits base (.row 0) := by
  refine ⟨?_, ?_, rfl, .inl rfl, ?_, ?_, ?_, ?_⟩
  any_goals and_intros
  any_goals first
    | decide +kernel
    | exact fun o h => nomatch h
  · rintro (h | h) <;> cases h
  · exact ⟨2, anB, rfl, by decide +kernel, by decide⟩
  · rintro ⟨i, d, hi, hd, hl⟩
    cases hi
    have : some d = some anB := hd.symm.trans (by decide +kernel)
    cases this
    exact absurd hl (by decide)

theorem wit_BusReportsAndTimersFollowTheStatus_timers :
    let run_ (v : Trans) : State := ({ base with swb := { base.swb with trans := v } } : State).setChan .busAnswer running1s
    let travels : State := (base.setEntry (.row 0) (some { ActEntry.initial with status := .travelling .load })).setChan
      (.travel (.row 0)) running1s
    let watched : State := (base.setEntry (.row 0) (some { ActEntry.initial with watch := true })).setChan (.travel (.row 0)) running1s
    (base.chan .busAnswer).running = false ∧ (base.chan (.travel (.row 0))).running = false ∧
    base.entry (.row 0) = some .initial ∧ ((run_ (.query (.row 0))).chan .busAnswer).running = true ∧
    (run_ (.query (.row 0))).swb.trans = .query (.row 0) ∧ (run_ (.move (.row 0) .load)).swb.trans = .move (.row 0) .load ∧
    (run_ (.allCall (.row 0))).swb.trans = .allCall (.row 0) ∧ ((run_ (.allCall (.row 0))).chan .busAnswer).running = true ∧
    (travels.chan (.travel (.row 0))).running = true ∧ (travels.entry (.row 0)).map (·.status) = some (.travelling .load) ∧
    (watched.chan (.travel (.row 0))).running = true ∧ (watched.entry (.row 0)).map (·.watch) = some true := by decide +kernel

theorem wit_RfpArithmetic :
    txA.taps.getLast? = some 1000 ∧ (∀ x ∈ txA.taps, 1000 ≤ txA.rating * x) ∧ 4 ≤ txA.taps.length ∧ (100 ≤ 100) ∧ 99 < 100 := by
  decide +kernel

/-- TX1 ON_AIR with three reports of a window taken. -/
def window (f : Prot → Prot) : State := onAirTx.updProt 0 fun p => f { p with count := 3, fwdSum := 9000, reflSum := 30, mask := false }

theorem wit_MeterWindowsAreJudged :
    let s := window id
    let th := s.thresholds 0
    served 0 s ∧ (s.ctx 0).state = .onAir ∧ (s.ctx 0).rf = .on ∧ (readyTx.ctx 0).rf = .off ∧ (s.prot 0).count = 3 ∧
    (onAirTx.prot 0).count ≠ 3 ∧ (s.prot 0).mask = false ∧ ((window fun p => { p with mask := true }).prot 0).mask = true ∧
    ((s.prot 0).fwdSum + 3000) / 4 = 3000 ∧ s.hds.hall.minForward ≤ 3000 ∧ (0 < s.hds.hall.minForward ∨ 0 = 0) ∧
    vswrOf 3000 (30 / 4) < th.warn ∧ th.warn ≤ vswrOf 3000 150 ∧ vswrOf 3000 150 < th.fold ∧ th.fold ≤ vswrOf 3000 300 ∧
    vswrOf 3000 300 < th.trip ∧ th.trip ≤ vswrOf 3000 750 ∧ (s.prot 0).fold < 4 ∧
    4 ≤ ((window fun p => { p with fold := 4 }).prot 0).fold ∧ (s.prot 0).run < 7 ∧
    7 ≤ ((window fun p => { p with run := 7 }).prot 0).run ∧ s.pathConfirmed 0 = true ∧
    ((window id).setPos (.row 0) .unknown).pathConfirmed 0 = false ∧ (s.ctx 0).source ≠ .localKey ∧
    ((c1 (fun c => { c with source := .localKey }) s).ctx 0).source = .localKey := by
  refine ⟨⟨by decide +kernel, by decide +kernel⟩, ?_⟩; decide +kernel

theorem wit_TripsTakeTheRfOffAndRecycleReturnsIt :
    let late : State := (onAirTx.updProt 0 fun p => { p with windowStart := some 0, recycleCount := 3 })
    onAirTx.txDef 0 = some txA ∧ (onAirTx.ctx 0).lineUp = true ∧ (onAirTx.ctx 0).state = .onAir ∧ (onAirTx.ctx 0).rf = .on ∧
    onAirTx.plan 0 = none ∧ onAirTx.rfOffInHand 0 = false ∧ (onAirTx.ctx 0).outstanding = none ∧
    (onAirTx.prot 0).windowStart = none ∧ (onAirTx.ctx 0).source ≠ .localKey ∧ (readyTx.ctx 0).state = .ready ∧
    ((c1 (fun c => { c with source := .localKey }) onAirTx).ctx 0).source = .localKey ∧
    (late.prot 0).windowStart = some 0 ∧ (late.clk.elapsed + 4294967296 - 0 % 4294967296) % 4294967296 < txA.recycleWindow ∧
    txA.recycleLimit ≤ (late.prot 0).recycleCount ∧ (0 < txA.recycleLimit) ∧
    ((onAirTx.setPlan 0 (some (planAll .ended toLoadSetp))).plan 0).map (·.phases.rampup) = some .ended := by decide +kernel

/-- TX1 TRIPPED at LOAD under a live occurrence, its recycle delay running. -/
def tripped : State :=
  (((c1 (fun c => { c with state := .tripped, rf := .off }) onAirTx).updOcc 0 fun _ =>
    ⟨some ⟨.entry 1 101 10, 864900, some 866000, .live, none, none⟩, none⟩).setChan (.tx 0 .recycle) running1s).updProt 0
    fun p => { p with waiting := true }

theorem wit_TripsTakeTheRfOffAndRecycleReturnsIt_recycle :
    let idle : State := tripped.updOcc 0 fun _ => ⟨none, none⟩
    (base.chan (.tx 0 .recycle)).running = false ∧ (tripped.chan (.tx 0 .recycle)).running = true ∧
    (tripped.ctx 0).state = .tripped ∧ ((c1 (fun c => { c with state := .ready }) tripped).ctx 0).state ≠ .tripped ∧
    tripped.plan 0 = none ∧ idle.liveRec 0 = none ∧ tripped.txDef 0 = some txA ∧ (tripped.ctx 0).lineUp = true ∧
    (tripped.ctx 0).source ≠ .localKey ∧ (tripped.ctx 0).outstanding = none ∧
    (tripped.liveRec 0).map (fun r => hasEnded r.finish tripped.now) = some false ∧ mayRadiate 0 tripped ∧
    tripped.pos (.row 0) = .atp .load ∧ (tripped.prot 0).power = some 3000 ∧
    (compose txA 3000 (tripped.ctx 0).trim (tripped.pathRating txA (tripped.prot 0).path) (tripped.prot 0).fold).limit = false := by
  and_intros
  all_goals first
    | decide +kernel
    | exact .inl (by decide +kernel)

/-- TX1 with a ramp and its channel running. -/
def ramped (r : Ramp) : State := (c1 (fun c => { c with ramp := some r }) onAirTx).setChan (.tx 0 .ramp) ⟨true, 0, 200⟩

theorem wit_RampStepsSendTheDrive :
    let up := ramped ⟨.up, 0, 1, true⟩
    let ended := c1 (fun c => { c with drive := 0 }) (ramped ⟨.down, 849, 17, true⟩)
    (base.chan (.tx 0 .ramp)).running = false ∧ (up.chan (.tx 0 .ramp)).running = true ∧ (up.ctx 0).outstanding = none ∧
    up.plan 0 = none ∧ (up.ctx 0).ramp = some ⟨.up, 0, 1, true⟩ ∧ up.txDef 0 = some txA ∧ (ended.ctx 0).drive = 0 ∧
    (ended.ctx 0).ramp = some ⟨.down, 849, 17, true⟩ ∧ (up.ctx 0).lineUp = true ∧ (up.ctx 0).source ≠ .localKey ∧
    (up.ctx 0).rf = .on ∧ (up.ctx 0).state = .onAir ∧ min (up.prot 0).d ((1 + 1) * txA.rampStep) ≤ (up.ctx 0).drive ∧
    mayRadiate 0 onAirTx := by
  refine ⟨?_, ?_, ?_, ?_, ?_, ?_, ⟨?_, ?_, ?_, ?_, ?_, ?_, ?_, mayRadiate_onAir⟩⟩ <;> decide +kernel

/-- A hall SURVEYING with a survey. -/
def surveying (q : Survey) : State :=
  let s := onAirTx.withHall .surveying
  { s with txs := { s.txs with survey := some q } }

/-- A survey with every turn over and both flags set. -/
def surveyDone : Survey := ⟨((Vector.replicate 16 none).set 0 (some .answered)).set 1 (some .lost), true, true, ⟨0, 0, 0⟩, 0, Vector.replicate 40 none⟩

theorem wit_SurveyEndsWithChecksAndAdoption :
    let two : State := ((surveying surveyDone).setPos (.sel 0) (.atp (.tx 0))).setPos (.sel 1) (.atp (.tx 0))
    base.txs.hall ≠ .surveying ∧ (surveying surveyDone).txs.hall = .surveying ∧ (surveying surveyDone).txs.survey = some surveyDone ∧
    (∀ n : TxId, surveyDone.turns[n] ≠ some .pending) ∧ surveyDone.bus = true ∧ surveyDone.recheckDone = true ∧
    ({ surveyDone with bus := false } : Survey).bus = false ∧ (surveying surveyDone).txDefined 0 = true ∧
    2 ≤ (two.standing 0).length ∧ (two.ctx 0).rf ≠ .off ∧ (two.ctx 0).lineUp = true ∧
    ((c1 (fun c => { c with lineUp := false }) two).ctx 0).lineUp = false ∧
    (((surveying surveyDone).setPos (.row 0) (.atp .matrix)).pos (.row 0) = .atp .matrix) ∧
    ((surveying surveyDone).standing 0 = []) ∧ ((surveying surveyDone).ctx 0).rf = .on ∧
    ((surveying surveyDone).ctx 0).state = .onAir ∧ (surveying surveyDone).pos (.row 0) = .atp .load := by decide +kernel

theorem wit_RestartKeepsAndReturns :
    portFree .a base ∧ (base.sch.staged.state = .validating → base.sch.staged.entries ≠ []) ∧
    portFree .a (staged .validating [entryA 101]) ∧ (staged .validating [entryA 101]).sch.staged.state = .validating ∧
    (staged .validating [entryA 101]).sch.staged.entries ≠ [] ∧ base.antDefined 0 = true ∧ base.antDefined 39 = false ∧
    base.txDefined 0 = true ∧ (emergencyOn base).pins.emergency = true ∧ base.pins.emergency = false ∧ base.clk.state ≠ .unset ∧
    State.reset.clk.state = .unset := by
  refine ⟨free_base .a, ?_, ⟨rfl, rfl⟩, ?_⟩ <;> decide +kernel

/-! ## Witnesses of the clauses that name more of a state -/

/-- ANa's run-time record, with its selector at a position. -/
def selAt (a : AntId) (p : Place) (f : AntRun → AntRun) (s : State) : State := (s.setRun a (some (f .initial))).setPos (.sel a) (.atp p)

/-- TX1 ON_AIR at MATRIX with AN1 at it. -/
def onAnt : State := (selAt 0 (.tx 0) id onAirTx).setPos (.row 0) (.atp .matrix)

/-- An ownership of TX1. -/
def ownA : Own := ⟨0, .schedule, 3, 900⟩

/-- A claim of TX2. -/
def claimB (priority : Nat) (wait : Bool) : Claim := ⟨1, priority, .schedule, wait, 2000⟩

theorem wit_ReceiverFollowsTheTable_waiting :
    let s := (base.updPort .a fun q => { q with waiting := some ⟨1, .readTime⟩ }).startChan (.gap .a) 20
    (s.port .a).waiting.isSome = true ∧ (s.chan (.gap .a)).running = true := by decide +kernel

theorem wit_DefineTxStoresOrRemoves_refused :
    portFree .a running ∧ running.txs.hall ≠ .halted ∧ portFree .a base ∧ base.txs.hall = .halted ∧
    txRecord { txFields with warmUp := some 601 } = some { txA with warmUp := 601 } ∧
    txFieldFault { txA with warmUp := 601 } = some 8 := by
  refine ⟨⟨rfl, rfl⟩, ?_, free_base .a, ?_⟩ <;> decide +kernel

theorem wit_DefineAntStoresOrRemoves_refused :
    portFree .a running ∧ running.txs.hall ≠ .halted ∧ portFree .a base ∧ base.txs.hall = .halted ∧
    antMissing { antFields with beams := some 10 } = none ∧ antFieldFault { antFields with beams := some 10 } = some 7 := by
  refine ⟨⟨rfl, rfl⟩, ?_, free_base .a, ?_⟩ <;> decide +kernel

theorem wit_SecondsFollowOscillatorAndPulse_again :
    let s := clk (fun c => { c with state := .locked, phase := 20, seen := some 60 }) base
    s.clk.state = .locked ∧ s.clk.tail = false ∧ s.clk.phase + 40 < 1000 ∧ s.clk.seen = some 60 ∧ s.clk.phase + 40 ≤ 60 ∧
    ¬ s.clk.phase + 41 ≤ 60 := by decide +kernel

theorem wit_SealingSweepsTheBank_passes :
    let s (p k : Nat) : State := withStaged { base.sch.staged with
      state := .validating, entries := [entryA 101, entryA 102], header := some ⟨24, [83, 50, 52, 65], 0, 900⟩, pass := p,
      position := k } base
    (s 2 1).sch.staged.entries.drop ((s 2 1).sch.staged.position - 1) = [entryA 101, entryA 102] ∧
    (s 3 2).sch.staged.entries.drop ((s 3 2).sch.staged.position - 1) = [entryA 102] ∧
    (s 2 2).hds.staticMin[(entryA 102).tx] = some 59 ∧ (∀ f ∈ (s 2 1).sch.staged.entries, f.start < 1440) ∧
    (entryA 101).duration ≤ 1440 := by decide +kernel

theorem wit_SealingSweepsTheBank_tight :
    tightPair ⟨24, [83, 50, 52, 65], 0, 900⟩ 0 59 [entryA 101, { entryA 102 with start := 660 }] (entryA 101) 102 := by
  refine ⟨{ entryA 102 with start := 660 }, by decide, rfl, 0, 0, by decide +kernel, by decide +kernel, by decide +kernel,
    by decide +kernel, ?_⟩
  intro g hg y _ hy
  simp [Entry.startOn, Entry.endOn, entryA] at hg hy ⊢
  rcases hg with rfl | rfl <;> simp at hy ⊢
  omega

theorem wit_ChangeoverIsArmedAndFired_second :
    let armed (sec : Nat) : State := { base with sch := { base.sch with arming := .atTime 10 sec } }
    let live : ActiveBank := ⟨[], ⟨24, [83, 50, 52, 65], 0, 9⟩, 1, false, false⟩
    base.clk.state ≠ .unset ∧ base.clk.state ≠ .locked ∧ (armed 1001).sch.arming = .atTime 10 1001 ∧
    (nextTime (armed 1001).clk).2.1 = 1001 ∧ (nextTime (armed 1002).clk).2.1 < 1002 ∧
    (staged .sealed []).sch.staged.state = .sealed ∧ live.expired = false ∧ live.header.last < (nextTime base.clk).1 := by
  decide +kernel

theorem wit_CoveringTargetIsDecided_deferred : (booked.ctx 0).deferred = none := by decide +kernel

/-- An occurrence record LIVE on TX1. -/
def liveRecord : OccRec := ⟨.entry 1 101 10, 864900, some 866000, .live, none, none⟩

/-- A bank with one entry of TX1 that starts at a minute of day. -/
def withEntry (start : Nat) (disabled : Bool) (s : State) : State :=
  { s with sch := { s.sch with
    active := some ⟨[({ entryA 101 with start := start }, disabled)], ⟨24, [83, 50, 52, 65], 0, 900⟩, 1, false, false⟩ } }

/-- TX1 in STANDBY, DARKEN asked after 10 minutes. -/
def idleTx : State :=
  let s := c1 (fun c => { c with state := .standby, rf := .off }) running
  { s with hds := { s.hds with tx := s.hds.tx.set 0 (some { txA with idleDarken := 10 }) } }

theorem wit_EvaluatorKeepsItsBooksAndServesTheNext :
    let live : State := onAirTx.updOcc 0 fun _ => ⟨some liveRecord, none⟩
    let late : State := clk (fun c => { c with sec := 2000 }) live
    let soon : State := withEntry 17 false idleTx
    live.liveRec 0 = some liveRecord ∧ covers liveRecord.start liveRecord.finish live.now = true ∧
    covers liveRecord.start liveRecord.finish late.now = false ∧ late.liveRec 0 = some liveRecord ∧
    (withEntry 16 true idleTx).ctx 0 = idleTx.ctx 0 ∧
    (((withEntry 16 true idleTx).entryOccs 0 true).find? fun x =>
      covers x.start x.finish (withEntry 16 true idleTx).now && !(withEntry 16 true idleTx).recorded 0 x.id).isSome = true ∧
    soon.unjudged 0 = false ∧ soon.covering 0 = none ∧ (soon.nextTarget 0).map (·.id) = some (.entry 1 101 10) ∧
    (soon.nextTarget 0).map (fun x => decide (ringSub x.start soon.now ≤ soon.plannedFor 0 x.setp)) = some true ∧
    (soon.nextTarget 0).map (·.setp.path) = some none ∧ soon.plan 0 = none ∧ soon.txs.hall = .running ∧
    onAirTx.covering 0 = none ∧ onAirTx.nextTarget 0 = none ∧ onAirTx.liveRec 0 = none ∧ (onAirTx.ctx 0).rf ≠ .off ∧
    idleTx.covering 0 = none ∧ idleTx.nextTarget 0 = none ∧ idleTx.candidates 0 = [] ∧ (idleTx.ctx 0).outstanding = none ∧
    (idleTx.ctx 0).deferred = none ∧ (idleTx.ctx 0).declined = false ∧
    (onAirTx.withHall .halting).txs.hall = .halting := by decide +kernel

theorem wit_EvaluatorKeepsItsBooksAndServesTheNext_retarget :
    let s : State := onAirTx.setPlan 0 (some (planAll .waiting toLoadSetp))
    let ended : State := (s.updOcc 0 fun _ => ⟨some { liveRecord with status := .pending, finish := some 864950 }, none⟩)
    let due : State := (s.updOcc 0 fun _ => ⟨some { liveRecord with status := .pending }, none⟩)
    s.plan 0 = some (planAll .waiting toLoadSetp) ∧ due.targetDue 0 (planAll .waiting toLoadSetp) = true ∧
    ended.targetEnded 0 (planAll .waiting toLoadSetp) = true ∧ s.targetDue 0 (planAll .waiting toLoadSetp) = false ∧
    s.targetEnded 0 (planAll .waiting toLoadSetp) = false ∧ (s.wanted 0).map (·.id) ≠ (planAll .waiting toLoadSetp).concerned ∧
    s.amx.reask = [] ∧ s.amx.held = [] ∧ (planAll .waiting toLoadSetp).phases.rampup = .waiting := by decide +kernel

theorem wit_DeferredOrderIsSent_drive :
    ((asked (.drive 849) fun c => { c with drive := 849 }).ctx 0).outstanding.map (·.order) =
      some (.drive ((asked (.drive 849) fun c => { c with drive := 849 }).ctx 0).drive) := by decide +kernel

theorem wit_StateReportIsCheckedAgainstTheContext_trip :
    served 0 readyTx ∧ ((c1 (fun c => { c with state := .warming, warmWait := .nextReport }) readyTx).ctx 0).state = .warming ∧
    ((c1 (fun c => { c with state := .warming, warmWait := .nextReport }) readyTx).ctx 0).warmWait = .nextReport ∧
    ((c1 (fun c => { c with state := .tripped }) readyTx).ctx 0).state = .tripped ∧
    explainedBy ((c1 (fun c => { c with state := .tripped }) readyTx).ctx 0) .tripped :=
  ⟨served_ready, by decide +kernel, by decide +kernel, by decide +kernel, .inr (.inl rfl)⟩

theorem wit_CausesAbandonPlansAndTakeTheRfDown :
    let p := planAll .waiting toLoadSetp
    let w := { p with windDown := true, awaiting := [(ActId.row 0, Place.load)] }
    (onAirTx.setPlan 0 (some p)).plan 0 = some p ∧ p.windDown = false ∧ (onAirTx.ctx 0).lineUp = true ∧
    (onAirTx.ctx 0).source ≠ .localKey ∧ (onAirTx.ctx 0).state ≠ .faulted ∧ onAirTx.txs.hall ≠ .emergency ∧
    (onAirTx.ctx 0).rf ≠ .off ∧ (onAirTx.setPlan 0 (some w)).plan 0 = some w ∧ (.row 0, .load) ∈ w.awaiting ∧
    (∀ q : Place, (ActId.row 1, q) ∉ w.awaiting) ∧
    ((onAirTx.updOcc 0 fun _ => ⟨some liveRecord, none⟩).liveRec 0) = some liveRecord ∧ onAirTx.plan 0 = none := by
  refine ⟨?_, ?_, ?_, ?_, ?_, ?_, ?_, ?_, ?_, fun q h => ?_, ?_⟩
  case refine_10 => simp at h
  all_goals decide +kernel

theorem wit_PhasesMakeTheirRequests_pathOut :
    let p := { planAt .pathOut toAntSetp with needsPath := true }
    readyTx.pos (.sel 0) ≠ .atp (.tx 0) ∧ readyTx.actFaulted (.sel 0) = false ∧ p.setp = some toAntSetp ∧
    toAntSetp.path = some 0 ∧ (readyTx.setPlan 0 (some p)).plan 0 = some p ∧ p.needsBeam = false := by decide +kernel

theorem wit_AntennaServiceChanges_beam :
    let s := (base.setRun 1 (some { AntRun.initial with service := .outActuator })).setEntry (.beam 1)
      (some { ActEntry.initial with status := .fault .stuck })
    portFree .p s ∧ itemOf 40 2 = some 1 ∧ s.beamDefined 1 = true ∧ s.actFaulted (.beam 1) = true ∧
    s.actFaulted (.sel 1) = false := by
  refine ⟨⟨rfl, rfl⟩, ?_⟩; decide +kernel

theorem wit_GrantsAndHandOversInOrder_rest : ∀ x ∈ ([] : List Claim), x.tx ≠ (claimB 3 true).tx := by decide

theorem wit_ClaimsAreAnsweredByTheirRank :
    let owned (priority : Nat) (q : List Claim) : State :=
      running.setRun 0 (some ⟨.inService, some { ownA with priority := priority }, q, []⟩)
    let four : List Claim := [⟨2, 4, .schedule, true, 9⟩, ⟨3, 4, .schedule, true, 9⟩, ⟨4, 3, .schedule, true, 9⟩, ⟨5, 2, .schedule, true, 9⟩]
    running.antDef 0 = some anA ∧ (claimB 3 true).tx ∈ anA.reach ∧ ({ claimB 3 true with tx := 2 } : Claim).tx ∉ anA.reach ∧
    (running.run 0).map (·.service) = some .inService ∧ running.owned 1 = none ∧ running.reservation 1 = none ∧
    ((owned 3 []).owner 0).map (·.tx) = some 0 ∧ (owned 3 []).owned 1 = none ∧ (owned 3 []).windingDown 0 = false ∧
    (claimB 7 false).priority = 7 ∧ (owned 3 []).plan 0 = none ∧ ((owned 3 four).run 0).map (·.queue.length) = some 4 ∧
    (owned 3 four).reservation 1 = none ∧ four.getLast? = some ⟨5, 2, .schedule, true, 9⟩ ∧
    above (claimB 3 true) ⟨5, 2, .schedule, true, 9⟩ ∧ ¬ above (claimB 1 true) ⟨5, 2, .schedule, true, 9⟩ ∧
    (readyTx.setPlan 0 (some (planAt .claim toAntSetp))).plan 0 = some (planAt .claim toAntSetp) ∧
    (running.setRun 0 (some ⟨.inService, none, four, []⟩)).reservation 3 = some 0 ∧
    phaseReady (planAt .claim toAntSetp) .claim := by
  refine ⟨?_, ?_, ?_, ?_, ?_, ?_, ?_, ⟨?_, ?_, ?_, ?_, ?_, ?_, ?_, .inl ?_, ?_, ?_, ?_, phaseReady_planAt .claim _ (by decide)⟩⟩
  case refine_16 => rintro (h | ⟨h, _⟩) <;> exact absurd h (by decide)
  all_goals decide +kernel

theorem wit_EveryStepKeepsTheDescriptionInRange : hdsLegal State.reset.hds := by
  refine ⟨fun n d h => ?_, fun a d h => ?_, by decide, by decide, by decide, by decide +kernel, by decide +kernel⟩
  · simp [State.reset, Hds.powerOn] at h
  · simp [State.reset, Hds.powerOn] at h

theorem wit_EveryStepKeepsProtectionWithinItsLimits : protLegal base ∧ base.txDef 0 = some txA := by
  refine ⟨fun n => ⟨?_, ?_, fun d _ => ?_⟩, by decide +kernel⟩
  · revert n; decide +kernel
  · revert n; decide +kernel
  · have h : ∀ n, (base.prot n).recycleCount = 0 := by decide +kernel
    rw [h n]; exact Nat.zero_le _

theorem wit_EveryStepKeepsBanksAndBookingsLawful :
    schLegal { (staged .open [entryA 101, entryA 102]).sch with bookings := [bookingA 1 900000, bookingA 3 900000] } := by
  refine ⟨⟨?_, ?_, ?_⟩, fun b h => ?_, ?_, ?_, ?_⟩
  case refine_4 => simp [staged, withStaged, base, State.reset, Sch.powerOn] at h
  all_goals decide +kernel

theorem wit_EveryStepKeepsQueuesAndOwnershipsLawful : claimsLegal State.reset := by
  refine ⟨fun a r h => ?_, fun a b o q h => ?_⟩
  · simp [State.run, State.reset, Amx.powerOn] at h
  · simp [State.owner, State.run, State.reset, Amx.powerOn] at h

theorem wit_EveryStepKeepsQueuesWithinTheirPlaces_bus : State.reset.swb.queue.length ≤ 32 := by decide

theorem wit_LostLinesAreAdoptedAndLockoutsCleared :
    let down (s : State) : State := c1 (fun c => { c with state := .unknown, rf := .unsure, lineUp := false, lostUnknown := true }) s
    let shutZone (s : State) : State := { s with amx := { s.amx with zone := s.amx.zone.set 0 (some true) } }
    ((down onAirTx).ctx 0).lineUp = false ∧ ((down onAirTx).ctx 0).lostUnknown = true ∧ (down onAirTx).txs.hall = .running ∧
    ((down onAirTx).ctx 0).outstanding = none ∧ ((down onAirTx).chan (.tx 0 .rfOff)).running = false ∧
    (down onAirTx).actFaulted (.row 0) = false ∧ (down onAirTx).pos (.row 0) = .atp .load ∧ (down onAirTx).standing 0 = [] ∧
    (down onAnt).pos (.row 0) = .atp .matrix ∧ (down onAnt).standing 0 = [0] ∧ (down onAnt).zoneOpenAt 0 = false ∧
    (down onAnt).inService 0 = true ∧ (down onAnt).owner 0 = none ∧ (down onAnt).owned 0 = none ∧
    (shutZone (down onAnt)).zoneOpenAt 0 = true ∧
    2 ≤ ((selAt 1 (.tx 0) id (down onAnt)).standing 0).length := by decide +kernel

theorem wit_LostLinesAreAdoptedAndLockoutsCleared_clear :
    let s (l : List ActId) : State := c1 (fun c => { c with
      state := .faulted, rf := .off, cause := some .adoption, clearing := l, last := some ⟨.tuned, false, some 9500, 1, 0, true⟩ })
      ((selAt 1 .ground id onAnt).setPos (.row 0) (.atp .matrix))
    portFree .a (s []) ∧ itemOf 16 1 = some 0 ∧ (s []).txDefined 0 = true ∧ ((s []).ctx 0).clearing = [] ∧
    ((s [.row 0]).ctx 0).clearing = [.row 0] ∧ (s [.row 0]).standing 0 = [0] ∧
    (∀ a : AntId, a = 0 ∨ a = 1 → (s [.row 0]).pos (.sel a) ≠ .unknown ∧ (s [.row 0]).actFaulted (.sel a) = false) ∧
    (s [.row 0]).owner 0 = none ∧ (s [.row 0]).owned 0 = none := by
  refine ⟨⟨rfl, rfl⟩, ?_⟩; decide +kernel

theorem wit_TripsOfTwoMakeAnAntennaSuspect :
    let s : State := onAnt.setTrips 0 [(1, 0)]
    let l := c1 (fun c => { c with source := .localKey }) onAnt
    ((0 : TxId), s.clk.elapsed) ∈ (((0 : TxId), s.clk.elapsed) :: s.trips 0).take 4 ∧
    (∃ x ∈ (((0 : TxId), s.clk.elapsed) :: s.trips 0).take 4, x.1 ≠ 0) ∧ (s.run 0).map (·.service) = some .inService ∧
    (l.ctx 0).source = .localKey ∧ (l.ctx 0).state ≠ .unknown ∧ l.pos (.row 0) = .atp .matrix ∧
    (l.standing 0).head? = some 0 ∧ l.txDefined 0 = true ∧ (l.ctx 0).lineUp = true := by decide +kernel

theorem wit_TripsTakeTheRfOffAndRecycleReturnsIt_claim : onAirTx.reservation 0 = none := by decide +kernel

theorem wit_SurveyEndsWithChecksAndAdoption_checks :
    let s := surveying surveyDone
    let m : State := (selAt 0 (.tx 0) (fun r => { r with owner := some ownA }) s).setPos (.row 0) (.atp .matrix)
    (((m.run 0).bind (·.owner)).map fun o => (o.tx, o.kind)) = some (0, .schedule) ∧ m.standing 0 = [0] ∧
    m.pos (.row 0) = .atp .matrix ∧ (m.ctx 0).source ≠ .localKey ∧ m.zoneOpenAt 0 = false ∧ m.inService 0 = true ∧
    (selAt 0 (.tx 0) id s).owner 0 = none ∧ s.owned 0 = none ∧ s.reservation 0 = none ∧
    ((s.setPos (.row 0) .unknown).pos (.row 0) = .unknown) ∧ (s.ctx 0).lineUp = true ∧
    (selAt 0 (.tx 0) id s).antDefined 0 = true ∧ (selAt 0 (.tx 0) id s).pos (.row 0) ≠ .atp .matrix ∧
    (selAt 0 (.tx 0) id s).actFaulted (.sel 0) = false ∧ (selAt 0 (.tx 4) id s).txDefined 4 = false := by decide +kernel

theorem wit_RequestsReadTheStateBack_active :
    let s := withEntry 600 true base
    (s.sch.active.map fun b => b.entries.map (·.1.id)) = some [101] ∧ 0 < 101 ∧ 101 ≤ 65535 ∧
    (s.sch.active.map fun b => b.entries.any fun x => decide (x.1.id = 101) && x.2) = some true := by decide +kernel

/-! ## A late pulse, a plan's end, and the states behind the wider clauses -/

/-- R22, by hand: OSCILLATOR_SECOND, then a pulse 1100 ms on: two windows have closed without one, and the pulse is stray. -/
theorem test_secondPulse_after_missed_windows :
    let s := next (.secondPulse 1100) (next .oscillatorSecond (clk (fun c => { c with state := .locked }) base))
    (s.clk.state, s.clk.missing, s.clk.stray) = (.locked, 2, 1) := by decide +kernel

/-- R24, R21, by hand: the set is applied 50 ms into the second, so a pulse 500 ms after that advances the second. -/
theorem test_secondPulse_after_the_set :
    let s := clk (fun c => { c with state := .locked, tail := true, missing := 2, pend := some ⟨812, 43300, 3⟩ }) base
    (next (.secondPulse 550) s).clk.sec = 43301 ∧ (next (.secondPulse 549) s).clk.sec = 43300 := by decide +kernel

/-- R90: the TUNED that follows a tune expiry gives the frequency, a second one does not. -/
theorem test_tuned_late :
    let s := next (.tuneExpiry 0) ((c1 (fun c => { c with state := .tuning, tuned := none }) readyTx).setChan (.tx 0 .tune) running1s)
    ((next (.tuned 0 11800) s).ctx 0).tuned = some 11800 ∧
    ((next (.tuned 0 9500) (next (.tuned 0 11800) s)).ctx 0).tuned = some 11800 := by decide +kernel

theorem wit_SecondsFollowOscillatorAndPulse_late :
    let s (m : Nat) (v : Option TimeSet) := (clk (fun c => { c with state := .locked, tail := true, missing := m, pend := v }) base).clk
    let v : TimeSet := ⟨812, 43300, 3⟩
    (s 1 none).state = .locked ∧ (s 1 none).tail = true ∧ (s 1 none).seen = none ∧ (s 1 none).phase ≤ 50 ∧
    50 < (s 1 none).phase + 51 ∧ (s 1 none).phase + 949 < 950 ∧ (s 1 none).missing < 2 ∧ (s 2 (some v)).phase + 1049 < 1050 ∧
    550 ≤ (s 2 (some v)).phase + 550 ∧ (s 2 (some v)).missing = 2 ∧ (s 2 (some v)).pend = some v := by decide +kernel

theorem wit_BookingsEndAndSourcesChange_list :
    let l : List Booking := [bookingA 1 900000, bookingA 2 910000, { bookingA 3 900000 with tx := 1 }]
    let s : State := { (c1 (fun c => { c with stored := .manual }) manual).updOcc 0 fun _ =>
      ⟨some { liveRecord with id := .booking 1 900000 }, none⟩ with sch := { ((c1 (fun c => { c with stored := .manual })
        manual).updOcc 0 fun _ => ⟨some { liveRecord with id := .booking 1 900000 }, none⟩).sch with bookings := l } }
    portFree .a s ∧ (s.sch.bookings.map (·.id)).Nodup ∧ s.plan 0 = none ∧ (s.ctx 0).source = .manual ∧
    l.map s.bookingLive = [true, false, false] ∧ (l.map (·.tx)) = [0, 0, 1] := by
  refine ⟨⟨rfl, rfl⟩, ?_⟩; decide +kernel

/-- TX1 at the last DRIVE of the ramp of a plan's RAMPUP, its record PENDING. -/
def arriving : State :=
  ((c1 (fun c => { c with state := .rampingUp, ramp := some ⟨.up, 0, 17, true⟩
                          outstanding := some ⟨.drive 849, 0, .rfp, .rampingUp, 800⟩ }) onAirTx).updOcc 0 fun _ =>
    ⟨some { liveRecord with status := .pending }, none⟩).setPlan 0
    (some { planAll .ended toLoadSetp with phases := (planAll .ended toLoadSetp).phases.put .rampup .running })

theorem wit_AcceptAndRejectAnswerTheOrder_done :
    (arriving.ctx 0).outstanding.map (·.order) = some (.drive (arriving.prot 0).d) ∧ (arriving.ctx 0).deferred = none ∧
    ((arriving.ctx 0).ramp).map (·.kind) = some .up ∧ (arriving.plan 0).map (·.phases.rampup) = some .running ∧
    (arriving.plan 0).map (fun p => (p.pend, p.deferFlags, p.target)) = some (none, false, some (.entry 1 101 10)) ∧
    (∀ ph ∈ [Phase.warm, .rampdown, .rfOff, .toLoad, .release, .tune, .claim, .pathOut, .toMatrix, .hold],
      (arriving.plan 0).map (·.phases.get ph) = some .ended) ∧
    arriving.recordOf 0 (.entry 1 101 10) = some { liveRecord with status := .pending } := by decide +kernel

/-- R116: DONE makes the record LIVE and removes the plan. -/
theorem test_accept_done : (next (.accept 0) arriving).plan 0 = none ∧
    ((next (.accept 0) arriving).recordOf 0 (.entry 1 101 10)).map (·.status) = some .live := by decide +kernel

theorem wit_UnitReportsAndTimedEndsMoveTheContext_late :
    let s (b : Bool) := c1 (fun c => { c with state := .faulted, cause := some .tune, tuneLate := b }) readyTx
    served 0 (s true) ∧ ((s true).ctx 0).state = .faulted ∧ ((s true).ctx 0).tuneLate = true ∧ ((s false).ctx 0).tuneLate = false ∧
    (base.ctx 0).state = .unknown := by
  refine ⟨⟨by decide +kernel, by decide +kernel⟩, ?_⟩; decide +kernel

theorem wit_DefineTxStoresOrRemoves_banks :
    portFree .a (staged .sealed [entryA 101]) ∧ (staged .sealed [entryA 101]).txs.hall = .halted ∧
    (staged .sealed [entryA 101]).sch.staged.state = .sealed ∧ (staged .sealed [entryA 101]).sch.staged.entries ≠ [] ∧
    (staged .rejected [entryA 101]).sch.staged.state = .rejected ∧ base.txDef 0 = some txA ∧
    txA.taps ≠ ({ txA with taps := [500, 1000] } : TxDef).taps := by
  refine ⟨⟨rfl, rfl⟩, ?_⟩; decide +kernel

/-- R13: a redefinition leaves the TAPS list in use until the next RF-ON. -/
theorem test_defineTx_taps :
    ((next (.defineTx .a 1 1 { txFields with taps := some [500, 1000] }) base).prot 0).taps = some txA.taps := by decide +kernel

theorem wit_RetargetTakesEffect_claim :
    ({ planAll .waiting toAntSetp with claimAnt := some 0, claimSec := some 7 } : Plan).claimAnt = toAntSetp.path ∧
    ({ planAll .waiting toAntSetp with claimAnt := some 1, claimSec := some 7 } : Plan).claimAnt ≠ toAntSetp.path := by decide

theorem wit_GateLinesOpenAndCloseZones_record :
    let s : State := (onAnt.setRun 0 (some { AntRun.initial with owner := some ownA })).updOcc 0 fun _ => ⟨some liveRecord, none⟩
    s.owner 0 = some ownA ∧ s.owned 0 = some 0 ∧ s.pos (.row 0) = .atp .matrix ∧ s.pos (.sel 0) = .atp (.tx 0) ∧
    (s.ctx 0).deferred = none ∧ s.plan 0 = none ∧ (s.liveRec 0).map (·.id) = some liveRecord.id ∧
    s.recordOf 0 liveRecord.id = some liveRecord := by decide +kernel

/-- An actuator's entry with a status. -/
def entryAt (act : ActId) (v : ActStatus) (s : State) : State := s.setEntry act (some { ActEntry.initial with status := v })

theorem wit_BusReportsAndTimersFollowTheStatus_dependants :
    let s : State := entryAt (.sel 0) (.atp (.tx 0)) (onAnt.setRun 0 (some { AntRun.initial with owner := some ownA }))
    let r : State := entryAt (.row 0) (.atp .load) (onAirTx.setPlan 0 (some (planAll .waiting toLoadSetp)))
    s.run 0 = some { AntRun.initial with owner := some ownA } ∧ (next (.moving (addrOf (.sel 0))) s).pos (.sel 0) ≠ .atp .ground ∧
    served 0 r ∧ (r.ctx 0).state ≠ .unknown ∧ (r.ctx 0).state ≠ .faulted ∧ (r.ctx 0).rf ≠ .off ∧ (r.ctx 0).cause ≠ some .adoption ∧
    r.plan 0 = some (planAll .waiting toLoadSetp) ∧ (base.ctx 0).state = .unknown := by
  refine ⟨?_, ?_, ⟨?_, ?_⟩, ?_⟩ <;> decide +kernel

theorem wit_BusReportsAndTimersFollowTheStatus_arrival :
    let owned (q : List Claim) : State := entryAt (.sel 0) (.travelling .ground)
      (running.setRun 0 (some { AntRun.initial with owner := some ownA, queue := q }))
    let elsewhere : State := (owned []).setRun 1 (some { AntRun.initial with queue := [⟨0, 3, .schedule, true, 9⟩] })
    let querying : State := entryAt (.sel 0) .unknown (running.setRun 0 (some { AntRun.initial with
      service := .outActuator, query := [.sel 0] }))
    fitsSender (owned []) (.sel 0) .ground ∧ noMoveWaits (owned []) (.sel 0) ∧ (owned []).amx.reask = [] ∧
    (owned []).amx.flight = [] ∧ (owned []).run 0 = some { AntRun.initial with owner := some ownA } ∧
    (∀ b : AntId, b ≠ 0 → (owned [claimB 3 true]).owner b = none) ∧ (claimB 3 true).tx ≠ ownA.tx ∧
    (owned [claimB 3 true]).zoneOpenAt 0 = false ∧ (owned [claimB 3 true]).owned (claimB 3 true).tx = none ∧
    elsewhere.owner 1 = none ∧ elsewhere.zoneOpenAt 1 = false ∧ elsewhere.reservation ownA.tx = some 1 ∧
    (querying.run 0).map (fun r => (r.service, r.query)) = some (.outActuator, [.sel 0]) := by
  refine ⟨.inl rfl, fun o h => (nomatch h), ?_⟩; decide +kernel

/-- TX1 on air under a plan whose RAMPUP runs. -/
def rampingPlan : State :=
  (c1 (fun c => { c with state := .rampingUp }) onAirTx).setPlan 0
    (some { planAll .ended toLoadSetp with phases := (planAll .ended toLoadSetp).phases.put .rampup .running })

theorem wit_TripsTakeTheRfOffAndRecycleReturnsIt_rampup :
    (rampingPlan.ctx 0).state = .rampingUp ∧ (rampingPlan.ctx 0).rf = .on ∧ (rampingPlan.ctx 0).source ≠ .localKey ∧
    (rampingPlan.plan 0).map (fun p => (p.phases.rampup, p.phase)) = some (.running, .rampup) ∧
    rampingPlan.rfOffInHand 0 = false ∧ (rampingPlan.ctx 0).outstanding = none ∧ rampingPlan.chargedAnt 0 = none := by
  decide +kernel

theorem wit_TripsTakeTheRfOffAndRecycleReturnsIt_failing :
    let lost : State := tripped.setPos (.row 0) .unknown
    let halted : State := tripped.withHall .surveying
    let late : State := clk (fun c => { c with sec := 2100 }) tripped
    let weak : State := ({ tripped with hds := { tripped.hds with ant := tripped.hds.ant.set 0 (some { anA with rating := 100 }) } } :
      State).updProt 0 fun p => { p with path := some 0 }
    let plan : State := ((c1 (fun c => { c with state := .tripped, rf := .off }) rampingPlan).updOcc 0 fun _ =>
      ⟨some { liveRecord with status := .pending }, none⟩).setChan (.tx 0 .recycle) running1s
    ¬ recyclePathHolds 0 lost ∧ recyclePathHolds 0 tripped ∧ hallUp tripped ∧ ¬ hallUp halted ∧
    (late.liveRec 0).map (fun r => hasEnded r.finish late.now) = some true ∧
    (lost.liveRec 0).map (fun r => hasEnded r.finish lost.now) = some false ∧ (lost.ctx 0).state = .tripped ∧
    (lost.chan (.tx 0 .recycle)).running = true ∧ lost.plan 0 = none ∧ (weak.prot 0).power = some 3000 ∧
    (compose txA 3000 (weak.ctx 0).trim (weak.pathRating txA (weak.prot 0).path) (weak.prot 0).fold).limit = true ∧
    (plan.ctx 0).state = .tripped ∧ (plan.plan 0).map (fun p => (p.windDown, p.phases.rampup)) = some (false, .running) ∧
    (plan.recordOf 0 (.entry 1 101 10)).map (·.inService) = some true := by
  refine ⟨?_, .inl (by decide +kernel), .inl (by decide +kernel), ?_, ?_⟩
  · rintro (h | ⟨a, h, _⟩)
    · exact absurd h (by decide +kernel)
    · exact absurd (h.symm.trans (show _ = none by decide +kernel)) (by simp)
  · rintro (h | h) <;> exact absurd h (by decide +kernel)
  · decide +kernel

theorem wit_LostLinesAreAdoptedAndLockoutsCleared_queried :
    let s (a : AntId) : State := c1 (fun c => { c with
      state := .faulted, rf := .off, cause := some .adoption, clearing := [.row 0], queried := [.row 0, .sel 0, .sel a]
      last := some ⟨.tuned, false, some 9500, 1, 0, true⟩ }) onAnt
    (ActId.row 0) ∈ ((s 1).ctx 0).clearing ∧ (∀ x ∈ ((s 1).ctx 0).clearing, x = .row 0) ∧ (s 1).pos (.sel 1) = .unknown ∧
    (s 39).antDefined 39 = false ∧ (s 39).pos (.sel 0) ≠ .unknown ∧ (s 39).actFaulted (.sel 0) = false := by decide +kernel

theorem wit_HandedSecondsAreWorkedInOrder :
    let c (f : Clock → Clock) : Clock := (clk (fun x => f { x with state := .locked }) base).clk
    let v : TimeSet := ⟨812, 43300, 3⟩
    base.clk.state ≠ .unset ∧ base.clk.state = .free ∧ base.clk.tail = false ∧ 500 ≤ base.clk.phase + 500 ∧
    base.clk.phase + 999 < 1000 ∧ (c id).tail = false ∧ (c id).seen = none ∧ 950 ≤ (c id).phase + 950 ∧ (c id).pend = none ∧
    (c fun x => { x with pend := some v }).pend = some v ∧ (c fun x => { x with tail := true }).tail = true ∧
    (c fun x => { x with tail := true }).phase + 50 ≤ 50 ∧ portFree .a base ∧ (∀ o, some 6 = some o → o ≤ 6) := by
  refine ⟨?_, ?_, ?_, ?_, ?_, ?_, ?_, ?_, ?_, ?_, ?_, ?_, free_base .a, fun o h => by cases h; decide⟩ <;> decide +kernel

/-- TX1's plan in CLAIM for AN1, its claim in RETRY. -/
def retrying : Plan :=
  { planAll .ended toAntSetp with
    phases := (planAll .ended toAntSetp).phases.put .claim .running, claim := .retry, claimAnt := some 0, claimSec := some 7 }

theorem wit_HandedSecondsAreWorkedInOrder_retry :
    let s (r : AntRun) : State := (running.setRun 0 (some r)).setPlan 0 (some retrying)
    let four : List Claim := [⟨2, 4, .schedule, true, 9⟩, ⟨3, 4, .schedule, true, 9⟩, ⟨4, 3, .schedule, true, 9⟩, ⟨5, 4, .schedule, true, 9⟩]
    let claim : Claim := ⟨0, 3, .schedule, true, 7⟩
    let owned : AntRun := { AntRun.initial with owner := some ⟨1, .schedule, 5, 900⟩ }
    (s .initial).plan 0 = some retrying ∧ retrying.setp = some toAntSetp ∧ toAntSetp.path = some 0 ∧
    retrying.phases.claim = .running ∧ ((s .initial).claim 0 claim).2 = .granted ∧ ((s owned).claim 0 claim).2 = .reserved ∧
    ((s { owned with queue := four }).claim 0 { claim with priority := 1 }).2 = .busy ∧
    ((s { AntRun.initial with service := .suspect }).claim 0 claim).2 = .unusable := by decide +kernel

/-- R92: a trip report with the RF-off flag set does not confirm the RF-OFF it brings. -/
theorem test_state_trippedWithFlag :
    let t := next (.state 0 ⟨.tripped, false, some 9500, 1, 0, true⟩) onAirTx
    (t.ctx 0).rf = .unsure ∧ (t.ctx 0).outstanding.map (·.order) = some .rfOff ∧ t.chan (.tx 0 .rfOff) = ⟨true, 5000, 5000⟩ ∧
    (t.ctx 0).state = .tripped := by decide +kernel

/-- R171: of a plan's target, only a cancelled record and an ended interval fail the recycle. -/
theorem test_recycleTarget :
    let s (v : OccStatus) : State := rampingPlan.updOcc 0 fun _ => ⟨some { liveRecord with status := v }, none⟩
    (s (.done .changeover)).recycleTarget 0 = true ∧ (s (.done .cancelled)).recycleTarget 0 = false ∧
    (clk (fun c => { c with sec := 2100 }) (s .pending)).recycleTarget 0 = false := by decide +kernel

/-- R185: RSn in FAULT with a position recorded is no bar to a clearing. -/
theorem test_judgeAdoption_rowFault :
    let s : State := entryAt (.row 0) (.fault .timeout) (c1 (fun c => { c with
      state := .faulted, rf := .off, cause := some .adoption, clearing := [], queried := [.row 0]
      last := some ⟨.tuned, false, some 9500, 1, 0, true⟩ }) onAirTx)
    s.actFaulted (.row 0) = true ∧ ((s.judgeAdoption 0).ctx 0).state = .ready := by decide +kernel

/-- R185: a check that locks out again leaves the clearing that awaits its queries. -/
theorem test_lockOut_keepsClearing :
    let s (k : FaultCause) : State := c1 (fun c => { c with state := .faulted, rf := .off, cause := some k, clearing := [.row 0] }) onAirTx
    ((((s .adoption).lockOut 0).ctx 0).clearing = [ActId.row 0]) ∧ (((s .rowSwitch).lockOut 0).ctx 0).clearing = [] := by
  decide +kernel

theorem wit_StateReportIsCheckedAgainstTheContext_tripped :
    served 0 onAirTx ∧ (onAirTx.ctx 0).source ≠ .localKey ∧ (onAirTx.ctx 0).state = .onAir ∧ (onAirTx.ctx 0).tripSeen = false ∧
    (onAirTx.ctx 0).outstanding = none ∧ (onAirTx.ctx 0).deferred = none ∧
    (⟨.tripped, false, some 9500, 1, 0, true⟩ : StateReport).keyLocal = false :=
  ⟨⟨by decide +kernel, by decide +kernel⟩, by decide +kernel⟩

theorem wit_TripsTakeTheRfOffAndRecycleReturnsIt_promoted :
    let s (v : OccStatus) : State := ((((c1 (fun c => { c with state := .tripped, rf := .off }) rampingPlan).updOcc 0 fun _ =>
      ⟨some { liveRecord with status := v }, none⟩).setChan (.tx 0 .recycle) running1s).updProt 0 fun p => { p with waiting := true })
    let t := s (.done .changeover)
    (t.ctx 0).state = .tripped ∧ (t.chan (.tx 0 .recycle)).running = true ∧ t.txDef 0 = some txA ∧ (t.ctx 0).lineUp = true ∧
    (t.ctx 0).source ≠ .localKey ∧ (t.ctx 0).outstanding = none ∧
    (t.plan 0).map (fun p => (p.windDown, p.phases.rampup, p.target)) = some (false, .running, some (.entry 1 101 10)) ∧
    (t.recordOf 0 (.entry 1 101 10)).map (fun r => (r.status, hasEnded r.finish t.now)) = some (.done .changeover, false) ∧
    mayRadiate 0 t ∧ recyclePathHolds 0 t ∧ (t.prot 0).power = some 3000 ∧
    (compose txA 3000 (t.ctx 0).trim (t.pathRating txA (t.prot 0).path) (t.prot 0).fold).limit = false ∧
    ((s (.done .cancelled)).recordOf 0 (.entry 1 101 10)).map (·.status) = some (.done .cancelled) := by
  and_intros
  all_goals first
    | decide +kernel
    | exact .inl (by decide +kernel)

theorem wit_SurveyEndsWithChecksAndAdoption_clearing :
    let s : State := (((surveying surveyDone).setPos (.sel 0) (.atp (.tx 0))).setPos (.sel 1) (.atp (.tx 0))).updCtx 0 fun c =>
      { c with state := .faulted, rf := .off, cause := some .adoption, clearing := [.row 0] }
    2 ≤ (s.standing 0).length ∧ s.txDefined 0 = true ∧ (s.ctx 0).state = .faulted ∧ (s.ctx 0).cause = some .adoption ∧
    (s.ctx 0).clearing = [.row 0] ∧ s.txs.hall = .surveying ∧ s.txs.survey = some surveyDone := by decide +kernel

theorem wit_LostLinesAreAdoptedAndLockoutsCleared_rowFault :
    let s : State := entryAt (.row 0) (.fault .timeout) (c1 (fun c => { c with
      state := .faulted, rf := .off, cause := some .adoption, clearing := [.row 0], queried := [.row 0]
      last := some ⟨.tuned, false, some 9500, 1, 0, true⟩ }) onAirTx)
    (s.ctx 0).state = .faulted ∧ (s.ctx 0).cause = some .adoption ∧ ActId.row 0 ∈ (s.ctx 0).clearing ∧
    (∀ x ∈ (s.ctx 0).clearing, x = .row 0) ∧ s.actFaulted (.row 0) = true ∧ s.pos (.row 0) = .atp .load ∧
    (s.standing 0).length ≤ 1 ∧ s.txDefined 0 = true := by decide +kernel

/-- R97: the report that returns the key is not checked: the context keeps the state it was last set to. -/
theorem test_state_keyReturns :
    let s : State := c1 (fun c => { c with source := .localKey }) onAirTx
    let t := next (.state 0 ⟨.dark, false, none, 1, 0, true⟩) s
    (t.ctx 0).state = .onAir ∧ (t.ctx 0).source = .auto ∧ (t.ctx 0).rf = .off := by decide +kernel

theorem wit_UnknownContextIsRebuiltAndKeyObeyed_returned :
    let s (v : CtxState) (k : Option FaultCause) : State :=
      c1 (fun c => { c with source := .localKey, state := v, cause := k }) onAirTx
    (served 0 (s .onAir none) ∧ ((s .onAir none).ctx 0).source = .localKey ∧ ((s .onAir none).ctx 0).state ≠ .unknown ∧
    ((s .onAir none).ctx 0).state ≠ .tripped ∧ ((s .onAir none).chan (.tx 0 .rfOff)).running = false) ∧
    served 0 (s .faulted (some .mismatch)) ∧ ((s .faulted (some .mismatch)).ctx 0).state = .faulted ∧
    (⟨.fault, false, none, 1, 0, true⟩ : StateReport).keyLocal = false :=
  ⟨⟨⟨by decide +kernel, by decide +kernel⟩, by decide +kernel⟩, ⟨by decide +kernel, by decide +kernel⟩, by decide +kernel⟩

/-- R152: a STUCK at GROUND from a faulted selector ends the ownership that the fault had blocked. -/
theorem test_stuck_faulted :
    let s : State := entryAt (.sel 0) (.fault .stuck) (running.setRun 0 (some { AntRun.initial with owner := some ownA }))
    let t := next (.stuck (addrOf (.sel 0)) .ground) s
    t.pos (.sel 0) = .atp .ground ∧ t.owner 0 = none ∧ (t.entry (.sel 0)).map (·.status) = some (.fault .stuck) := by
  decide +kernel

theorem wit_BusReportsAndTimersFollowTheStatus_faulted :
    let s : State := entryAt (.sel 0) (.fault .stuck) (running.setRun 0 (some { AntRun.initial with owner := some ownA }))
    (s.entry (.sel 0)).map (·.status) = some (.fault .stuck) ∧ fitsSender s (.sel 0) .ground ∧ noMoveWaits s (.sel 0) ∧
    s.run 0 = some { AntRun.initial with owner := some ownA } ∧ s.amx.reask = [] ∧ s.amx.flight = [] ∧ s.swb.trans = .none :=
  ⟨by decide +kernel, .inl rfl, fun o h => (nomatch h), by decide +kernel⟩

/-- R153: a context FAULTED with cause ADOPTION takes ROW_SWITCH from its row's fault, its clearing ended. -/
theorem test_rowFault_adoption :
    let s : State := entryAt (.row 0) (.atp .load) (c1 (fun c => { c with
      state := .faulted, rf := .off, cause := some .adoption, clearing := [.row 0, .sel 0], queried := [.row 0, .sel 0]
      last := some ⟨.tuned, false, some 9500, 1, 0, true⟩ }) onAirTx)
    let t := next (.moving (addrOf (.row 0))) s
    (t.ctx 0).state = .faulted ∧ (t.ctx 0).cause = some .rowSwitch ∧ (t.ctx 0).clearing = [] := by decide +kernel

theorem wit_BusReportsAndTimersFollowTheStatus_adoption :
    let s : State := entryAt (.row 0) (.atp .load) (c1 (fun c => { c with
      state := .faulted, rf := .off, cause := some .adoption, clearing := [.row 0]
      last := some ⟨.tuned, false, some 9500, 1, 0, true⟩ }) onAirTx)
    (s.entry (.row 0)).map (·.status) = some (.atp .load) ∧ (s.ctx 0).state ≠ .unknown ∧ (s.ctx 0).last ≠ none ∧
    ((base.ctx 0).last = none ∧ ActId.row 0 ∉ (base.ctx 0).clearing) := by decide +kernel

/-- Two selectors recorded AT TX1's row as the survey ends, AN1 owned by TX1 under LOCAL since `before`. -/
def twoAtRow (before : Option (TxId × Nat)) : State :=
  let q : Survey := { surveyDone with owners := surveyDone.owners.set 0 before }
  let s : State := c1 (fun c => { c with source := .localKey }) (surveying q)
  ((((s.setRun 0 (some { AntRun.initial with owner := some ⟨0, .localKey, 7, 900⟩ })).setPos (.row 0) (.atp .matrix)).setPos
    (.sel 0) (.atp (.tx 0))).setPos (.sel 1) (.atp (.tx 0)))

theorem wit_SurveyEndsWithChecksAndAdoption_owned :
    let s := twoAtRow none
    s.txs.hall = .surveying ∧ s.antDefined 0 = true ∧ s.pos (.sel 0) = .atp (.tx 0) ∧ s.txDefined 0 = true ∧
    2 ≤ (s.standing 0).length ∧ (s.run 0).map (fun r => (r.owner, r.queue)) = some (some ⟨0, .localKey, 7, 900⟩, []) ∧
    s.txs.survey.map (·.owners[0]) = some none ∧
    (twoAtRow (some (0, 900))).txs.survey.map (·.owners[0]) = some (some (0, 900)) := by decide +kernel

/-- R178: of two selectors at one row neither antenna is owned through it, but for an ownership from before the survey. -/
theorem test_surveyEnd_twoSelectors :
    (next .surveyEnd (twoAtRow none)).owner 0 = none ∧
    ((next .surveyEnd (twoAtRow (some (0, 900)))).owner 0).map (·.tx) = some 0 := by decide +kernel

/-- R133, R178: the grounding of one of two selectors at a LOCAL transmitter's row gives it no ownership of the other antenna. -/
theorem test_recordAt_otherSelector :
    let s : State := ((twoAtRow none).setRun 0 (some .initial)).setRun 1 (some .initial)
    (s.recordAt (.sel 0) .ground).owner 1 = none ∧ ((s.setPos (.sel 0) .unknown).recordAt (.sel 0) (.tx 0)).owner 0 = none ∧
    (((s.setPos (.sel 1) (.atp .ground)).setPos (.sel 0) .unknown).recordAt (.sel 0) (.tx 0)).owner 0 =
      some ⟨0, .localKey, 7, s.now⟩ := by decide +kernel

end Sys2Proof.Tests
end

section
/-! PROOFS. The hall description (chapter 1): which commands change it, that it stays within its ranges, and that no command
stops the controller or takes from its queue. -/

namespace Sys2Proof.Machine
open Sys2Proof Sys2Proof.Claims

/-! ## A request command is a frame that arrives -/

/-- Every request command brings its frame to its port (R188). -/
theorem exec_of_frameOf {c : Instr} {port : Port} {tag : Byte} {r : Request} (h : frameOf c = some (port, tag, r)) (s : State) :
    exec c s = .next (s.frameArrives port ⟨tag, r⟩) := by
  cases c <;> cases h <;> rfl

/-! ## The queue of waiting commands and the hall description -/

/-- The waiting commands and the hall description: what only a power-on and the DEFINE requests write. -/
def State.queueAndHds (s : State) : List Instr × Hds := (s.pending, s.hds)

theorem State.queueAndHds_of_still {s t : State} (h : t.still = s.still) : t.queueAndHds = s.queueAndHds :=
  Prod.ext (congrArg Still.pending h) (congrArg Still.hds h)

/-! ### Clock -/

@[simp] theorem State.updClk_queueAndHds (f : Clock → Clock) (s : State) : (s.updClk f).queueAndHds = s.queueAndHds := rfl

@[simp] theorem State.elapse_queueAndHds (k : Nat) (s : State) : (s.elapse k).queueAndHds = s.queueAndHds := rfl

@[simp] theorem State.post_queueAndHds (nt : Notice) (s : State) : (s.post nt).queueAndHds = s.queueAndHds := rfl

@[simp] theorem State.handed_queueAndHds (s : State) : s.handed.queueAndHds = s.queueAndHds :=
  queueAndHds_of_still s.handed_still

@[simp] theorem State.toClock_queueAndHds (st : ClkState) (cause : ClkCause) (s : State) :
    (s.toClock st cause).queueAndHds = s.queueAndHds := by
  unfold State.toClock; split <;> rfl

@[simp] theorem State.applySet_queueAndHds (v : TimeSet) (s : State) : (s.applySet v).queueAndHds = s.queueAndHds := by
  simp [State.applySet]

@[simp] theorem State.oscillatorTick_queueAndHds (s : State) : s.oscillatorTick.queueAndHds = s.queueAndHds := by
  simp [State.oscillatorTick]

@[simp] theorem State.missedPulse_queueAndHds (s : State) : s.missedPulse.queueAndHds = s.queueAndHds := by
  unfold State.missedPulse
  dsimp only
  split
  · split <;> simp
  · simp

@[simp] theorem State.windowCloses_queueAndHds (s : State) : s.windowCloses.queueAndHds = s.queueAndHds := by
  unfold State.windowCloses
  split
  · dsimp only
    split <;> simp
  · rfl

@[simp] theorem State.passing_queueAndHds (k left : Nat) (s : State) : (s.passing k left).queueAndHds = s.queueAndHds := by
  induction k generalizing left s with
  | zero => rfl
  | succ k ih =>
    unfold State.passing
    split
    · split <;> simp [ih]
    · split <;> simp [ih]

@[simp] theorem State.onTimePulse_queueAndHds (s : State) : s.onTimePulse.queueAndHds = s.queueAndHds := by
  unfold State.onTimePulse
  dsimp only
  split
  · simp
  · split <;> simp

@[simp] theorem State.lockedPulse_queueAndHds (s : State) : s.lockedPulse.queueAndHds = s.queueAndHds := by
  unfold State.lockedPulse; split <;> simp [State.strayPulse]

@[simp] theorem State.lockingPulse_queueAndHds (s : State) : s.lockingPulse.queueAndHds = s.queueAndHds := by
  unfold State.lockingPulse
  dsimp only
  split <;> simp

@[simp] theorem State.pulse_queueAndHds (after : Nat) (s : State) : (s.pulse after).queueAndHds = s.queueAndHds := by
  unfold State.pulse
  dsimp only
  split <;> simp [State.pass]

@[simp] theorem State.oscillatorSecond_queueAndHds (s : State) : s.oscillatorSecond.queueAndHds = s.queueAndHds := by
  unfold State.oscillatorSecond; split <;> simp

@[simp] theorem State.reqSetTime_queueAndHds (day sec : Nat) (offset : Option Nat) (s : State) :
    (s.reqSetTime day sec offset).st.queueAndHds = s.queueAndHds := by
  unfold State.reqSetTime
  split
  · rfl
  · unfold State.takeTime State.ok
    dsimp only
    split <;> simp

/-! ### Repeated operations, snapshots, hold points and the input levels -/

theorem State.each_queueAndHds {α : Type} (l : List α) (f : α → State → State)
    (h : ∀ x t, (f x t).queueAndHds = t.queueAndHds) (s : State) : (s.each l f).queueAndHds = s.queueAndHds := by
  unfold State.each
  induction l generalizing s with
  | nil => rfl
  | cons x l ih => rw [List.foldl_cons, ih, h]

@[simp] theorem State.latchSlot_queueAndHds (n : TxId) (s : State) : (s.latchSlot n).queueAndHds = s.queueAndHds := by
  unfold State.latchSlot; split <;> rfl

@[simp] theorem State.latchAll_queueAndHds (l : List TxId) (s : State) : (s.latchAll l).st.queueAndHds = s.queueAndHds :=
  State.each_queueAndHds l _ State.latchSlot_queueAndHds s

@[simp] theorem State.reqLatch_queueAndHds (which : Option (List Nat)) (s : State) :
    (s.reqLatch which).st.queueAndHds = s.queueAndHds := by
  unfold State.reqLatch
  split
  · simp
  · split
    · split <;> simp [State.refused]
    · rfl

@[simp] theorem State.reqReadSnapshot_queueAndHds (number : Nat) (s : State) :
    (s.reqReadSnapshot number).st.queueAndHds = s.queueAndHds := by
  unfold State.reqReadSnapshot
  split
  · rfl
  · split
    · split <;> rfl
    · rfl

theorem State.withTx_queueAndHds (number position : Nat) (s : State) (f : TxId → Answer)
    (h : ∀ n, (f n).st.queueAndHds = s.queueAndHds) : (s.withTx number position f).st.queueAndHds = s.queueAndHds := by
  unfold State.withTx
  split
  · rfl
  · split
    · exact h _
    · rfl

@[simp] theorem State.setHold_queueAndHds (l : List TxId) (hp : HoldPoint) (s : State) :
    (s.setHold l hp).st.queueAndHds = s.queueAndHds := rfl

@[simp] theorem State.reqSetHoldPoint_queueAndHds (which : Option Nat) (hp : HoldPoint) (s : State) :
    (s.reqSetHoldPoint which hp).st.queueAndHds = s.queueAndHds := by
  unfold State.reqSetHoldPoint
  split
  · simp
  · exact State.withTx_queueAndHds _ _ _ _ fun n => by simp

@[simp] theorem State.reqRestart_queueAndHds (s : State) : s.reqRestart.st.queueAndHds = s.queueAndHds := by
  have resweep (t : State) : t.resweep.queueAndHds = t.queueAndHds := queueAndHds_of_still t.resweep_still
  have zones (t : State) : (t.each allZones State.postIfOpen).queueAndHds = t.queueAndHds :=
    State.each_queueAndHds _ _ (fun z u => queueAndHds_of_still (u.postIfOpen_still z)) t
  have lines (t : State) (l : List TxId) :
      (t.each l fun n u => u.startChan (.tx n .silence) 3000).queueAndHds = t.queueAndHds :=
    State.each_queueAndHds l (fun n => State.startChan (.tx n .silence) 3000) (fun _ _ => rfl) t
  unfold State.reqRestart State.ok State.restarted
  dsimp only
  rw [queueAndHds_of_still (State.enterHall_still _), zones, resweep, lines]
  rfl

@[simp] theorem State.emergency_queueAndHds (s : State) : s.emergency.queueAndHds = s.queueAndHds := by
  have acts (t : State) (l : List TxId) :
      (((t.each l fun n v => (v.rfOffUnlessOff n .emergency).stopRamp n).eachTx fun n v =>
        v.causeReaches n .emergency).stopSurvey).still = t.still := by
    rw [State.stopSurvey_still, State.eachTx_still _ (fun n v => by simp), State.each_still _ _ (fun n v => by simp)]
  unfold State.emergency
  dsimp only
  rw [queueAndHds_of_still (acts _ _)]
  rfl

@[simp] theorem State.emergencyEnds_queueAndHds (s : State) : s.emergencyEnds.queueAndHds = s.queueAndHds := by
  unfold State.emergencyEnds
  dsimp only
  split <;> rfl

end Sys2Proof.Machine
end

section
/-! PROOFS. What each accepted DEFINE request writes into the hall description store (R10 to R14), and that the records it
stores are in range (R2 to R8). -/

namespace Sys2Proof.Machine
open Sys2Proof Sys2Proof.Claims

/-! ## What the views of the description rest on -/

theorem State.hds_of_still {s t : State} (h : t.still = s.still) : t.hds = s.hds := congrArg Still.hds h

theorem State.pending_of_still {s t : State} (h : t.still = s.still) : t.pending = s.pending := congrArg Still.pending h

theorem State.txDef_congr {s t : State} (h : t.hds = s.hds) : t.txDef = s.txDef := by
  funext n; simp only [State.txDef, h]

theorem State.antDef_congr {s t : State} (h : t.hds = s.hds) : t.antDef = s.antDef := by
  funext a; simp only [State.antDef, h]

theorem State.definedAnt_congr {s t : State} (h : t.hds = s.hds) : t.definedAnt = s.definedAnt := by
  have defined : t.antDefined = s.antDefined := funext fun a => by simp only [State.antDefined, State.antDef_congr h]
  simp only [State.definedAnt, defined]

/-! ## The static minima (R9) -/

/-- The static minima that a description gives (R9). -/
def State.minima (s : State) : Vector (Option Nat) 16 := s.recomputeMinima.hds.staticMin

theorem State.recomputeMinima_hds (s : State) : s.recomputeMinima.hds = { s.hds with staticMin := s.minima } := rfl

@[simp] theorem State.recomputeMinima_pending (s : State) : s.recomputeMinima.pending = s.pending := by
  simp only [State.recomputeMinima]

theorem State.recomputeMinima_antDef (s : State) : s.recomputeMinima.antDef = s.antDef := by
  funext a; simp only [State.antDef, State.recomputeMinima]

theorem State.recomputeMinima_definedAnt (s : State) : s.recomputeMinima.definedAnt = s.definedAnt := by
  have defined : s.recomputeMinima.antDefined = s.antDefined := funext fun a => by
    simp only [State.antDefined, State.recomputeMinima_antDef]
  simp only [State.definedAnt, defined]

theorem State.minimaStand_recomputeMinima (s : State) : minimaStand s.recomputeMinima := by
  intro n
  rw [State.recomputeMinima_antDef, State.recomputeMinima_definedAnt]
  simp [State.recomputeMinima, State.txDef]

theorem State.minimaStand_congr {s t : State} (h : t.hds = s.hds) (hs : minimaStand s) : minimaStand t := by
  intro n
  rw [h, State.txDef_congr h, State.antDef_congr h, State.definedAnt_congr h]
  exact hs n

@[simp] theorem State.tellSch_hds (s : State) : s.tellSch.hds = s.hds := hds_of_still s.tellSch_still

@[simp] theorem State.tellSch_pending (s : State) : s.tellSch.pending = s.pending := pending_of_still s.tellSch_still

theorem State.minimaStand_tellSch (s : State) : minimaStand s.recomputeMinima.tellSch :=
  State.minimaStand_congr (State.tellSch_hds _) s.minimaStand_recomputeMinima

/-! ## DEFINE-TX (R10, R13, R14) -/

/-- The state in which an accepted DEFINE-TX has written the record, with the list in use held (R13). -/
def State.withTxDef (n : TxId) (d : TxDef) (s : State) : State :=
  { s.holdTaps n d with hds := { (s.holdTaps n d).hds with tx := (s.holdTaps n d).hds.tx.set n (some d) } }

theorem State.withTxDef_hds (n : TxId) (d : TxDef) (s : State) :
    (s.withTxDef n d).hds = { s.hds with tx := s.hds.tx.set n (some d) } := by
  have held : (s.holdTaps n d).hds = s.hds := hds_of_still (s.holdTaps_still n d)
  simp only [State.withTxDef, held]

theorem State.withTxDef_pending (n : TxId) (d : TxDef) (s : State) : (s.withTxDef n d).pending = s.pending :=
  (pending_of_still (s.holdTaps_still n d) :)

/-- The run-time records once DEFINE-TX has stored its record, before SCH is told. -/
def State.txStored (n : TxId) (d : TxDef) (s : State) : State :=
  if s.txDefined n then (s.withTxDef n d).lowerRecycle n d.recycleLimit else (s.withTxDef n d).txEnters n

theorem State.storeTx_eq (n : TxId) (d : TxDef) (s : State) :
    s.storeTx n d = (s.txStored n d).recomputeMinima.tellSch := rfl

theorem State.txStored_still (n : TxId) (d : TxDef) (s : State) : (s.txStored n d).still = (s.withTxDef n d).still := by
  unfold State.txStored; split <;> simp

theorem State.storeTx_hds (n : TxId) (d : TxDef) (s : State) : (s.storeTx n d).hds =
    { s.hds with tx := s.hds.tx.set n (some d), staticMin := (s.txStored n d).minima } := by
  rw [State.storeTx_eq, State.tellSch_hds, State.recomputeMinima_hds, hds_of_still (s.txStored_still n d),
    State.withTxDef_hds]

theorem State.storeTx_pending (n : TxId) (d : TxDef) (s : State) : (s.storeTx n d).pending = s.pending := by
  rw [State.storeTx_eq, State.tellSch_pending, State.recomputeMinima_pending, pending_of_still (s.txStored_still n d),
    State.withTxDef_pending]

/-- The state in which a removal has cleared the record, the channels, the snapshot and the hold point (R14, R36, R106). -/
def State.withoutTx (n : TxId) (s : State) : State :=
  let t := (s.removePlan n).actLeaves (.row n)
  { t with
    hds := { t.hds with tx := t.hds.tx.set n none }
    tim := { t.tim with tx := t.tim.tx.set n .stopped }
    snaps := t.snaps.set n none
    csq := { t.csq with hold := t.csq.hold.set n .none } }

/-- The run-time records once a removal has emptied those of TXn, before SCH is told. -/
def State.txRemoved (n : TxId) (s : State) : State :=
  ((((s.withoutTx n).removeBookings fun b => decide (b.tx = n)).updCtx n fun _ => .powerOn).updProt n fun _ =>
    .initial).updOcc n fun _ => ⟨none, none⟩

theorem State.removeTx_eq (n : TxId) (s : State) : s.removeTx n = (s.txRemoved n).recomputeMinima.tellSch := rfl

theorem State.txRemoved_still (n : TxId) (s : State) : (s.txRemoved n).still = (s.withoutTx n).still := by
  simp [State.txRemoved]

theorem State.rowLeaves_still (n : TxId) (s : State) : ((s.removePlan n).actLeaves (.row n)).still = s.still := by simp

theorem State.withoutTx_pending (n : TxId) (s : State) : (s.withoutTx n).pending = s.pending :=
  (pending_of_still (s.rowLeaves_still n) :)

theorem State.removeTx_hds (n : TxId) (s : State) : (s.removeTx n).hds =
    { s.hds with tx := s.hds.tx.set n none, staticMin := (s.txRemoved n).minima } := by
  rw [State.removeTx_eq, State.tellSch_hds, State.recomputeMinima_hds, hds_of_still (s.txRemoved_still n)]
  simp only [State.withoutTx, hds_of_still (s.rowLeaves_still n)]

theorem State.removeTx_pending (n : TxId) (s : State) : (s.removeTx n).pending = s.pending := by
  rw [State.removeTx_eq, State.tellSch_pending, State.recomputeMinima_pending, pending_of_still (s.txRemoved_still n),
    State.withoutTx_pending]

/-! ## DEFINE-ANT (R11, R13, R14) -/

/-- The state in which an accepted DEFINE-ANT has written the record. -/
def State.withAntDef (a : AntId) (d : Option AntDef) (s : State) : State :=
  { s with hds := { s.hds with ant := s.hds.ant.set a d } }

/-- Deriving the zone table again writes nothing else that the DEFINE requests are asked about. -/
theorem State.rederiveZones_still (s : State) :
    s.rederiveZones.still = ({ s with hds := { s.hds with zones := s.derivedZones } } : State).still :=
  State.each_still _ _ (fun z t => t.zoneUse_still _ z) _

theorem State.rederiveZones_pending (s : State) : s.rederiveZones.pending = s.pending :=
  (pending_of_still s.rederiveZones_still :)

/-- The antenna's actuators and the zones once DEFINE-ANT has stored its record (R5, R6, R138). -/
def State.antPlaced (a : AntId) (d : AntDef) (s : State) : State :=
  (if s.antDefined a then s.withAntDef a (some d) else (s.withAntDef a (some d)).antEnters a).beamFollows a d

/-- The run-time records once DEFINE-ANT has stored its record, before SCH is told. -/
def State.antStored (a : AntId) (d : AntDef) (s : State) : State :=
  if s.movedToOpen a d then (s.antPlaced a d).rederiveZones.zoneActs a else (s.antPlaced a d).rederiveZones

theorem State.storeAnt_eq (a : AntId) (d : AntDef) (s : State) :
    s.storeAnt a d = (s.antStored a d).recomputeMinima.tellSch := rfl

theorem State.antPlaced_still (a : AntId) (d : AntDef) (s : State) :
    (s.antPlaced a d).still = (s.withAntDef a (some d)).still := by
  unfold State.antPlaced
  rw [State.beamFollows_still]
  split <;> simp

theorem State.antStored_still (a : AntId) (d : AntDef) (s : State) :
    (s.antStored a d).still = (s.antPlaced a d).rederiveZones.still := by
  unfold State.antStored; split <;> simp

theorem State.antStored_hds (a : AntId) (d : AntDef) (s : State) : (s.antStored a d).hds =
    { s.hds with ant := s.hds.ant.set a (some d), zones := (s.antPlaced a d).derivedZones } := by
  rw [hds_of_still (s.antStored_still a d), hds_of_still (State.rederiveZones_still _)]
  simp only [hds_of_still (s.antPlaced_still a d), State.withAntDef]

theorem State.storeAnt_hds (a : AntId) (d : AntDef) (s : State) : (s.storeAnt a d).hds =
    { s.hds with
      ant := s.hds.ant.set a (some d), zones := (s.antPlaced a d).derivedZones, staticMin := (s.antStored a d).minima } := by
  rw [State.storeAnt_eq, State.tellSch_hds, State.recomputeMinima_hds, State.antStored_hds]

theorem State.storeAnt_pending (a : AntId) (d : AntDef) (s : State) : (s.storeAnt a d).pending = s.pending := by
  rw [State.storeAnt_eq, State.tellSch_pending, State.recomputeMinima_pending, pending_of_still (s.antStored_still a d),
    State.rederiveZones_pending, pending_of_still (s.antPlaced_still a d)]
  rfl

/-- The claims, actuators and bookings of ANa once a removal has taken them away (R14, R131). -/
def State.antCleared (a : AntId) (s : State) : State :=
  (((s.withdrawAll a .service).actLeaves (.sel a)).actLeaves (.beam a)).removeBookings fun b => decide (b.path = some a)

/-- The run-time records once a removal has emptied those of ANa, before the zones are derived. -/
def State.withoutAnt (a : AntId) (s : State) : State :=
  (((s.antCleared a).withAntDef a none).setRun a none).setTrips a []

theorem State.removeAnt_eq (a : AntId) (s : State) :
    s.removeAnt a = (s.withoutAnt a).rederiveZones.recomputeMinima.tellSch := rfl

theorem State.antCleared_still (a : AntId) (s : State) : (s.antCleared a).still = s.still := by simp [State.antCleared]

theorem State.withoutAnt_hds (a : AntId) (s : State) :
    (s.withoutAnt a).hds = { s.hds with ant := s.hds.ant.set a none } := by
  simp only [State.withoutAnt, State.setTrips_hds, State.setRun_hds, State.withAntDef, hds_of_still (s.antCleared_still a)]

theorem State.withoutAnt_pending (a : AntId) (s : State) : (s.withoutAnt a).pending = s.pending := by
  simp only [State.withoutAnt, State.setTrips_pending, State.setRun_pending, State.withAntDef,
    pending_of_still (s.antCleared_still a)]

theorem State.removeAnt_hds (a : AntId) (s : State) : (s.removeAnt a).hds =
    { s.hds with
      ant := s.hds.ant.set a none, zones := (s.withoutAnt a).derivedZones
      staticMin := (s.withoutAnt a).rederiveZones.minima } := by
  rw [State.removeAnt_eq, State.tellSch_hds, State.recomputeMinima_hds, hds_of_still (State.rederiveZones_still _)]
  simp only [State.withoutAnt_hds]

theorem State.removeAnt_pending (a : AntId) (s : State) : (s.removeAnt a).pending = s.pending := by
  rw [State.removeAnt_eq, State.tellSch_pending, State.recomputeMinima_pending, State.rederiveZones_pending,
    State.withoutAnt_pending]

/-! ## DEFINE-HALL (R12) -/

theorem State.storeHall_hds (d : HallDef) (s : State) : (s.storeHall d).hds = { s.hds with hall := d } :=
  State.tellSch_hds _

theorem State.storeHall_pending (d : HallDef) (s : State) : (s.storeHall d).pending = s.pending :=
  State.tellSch_pending _

end Sys2Proof.Machine
end

section
/-! PROOFS. The operand checks of the DEFINE requests (R2 to R8) leave records in range. -/

namespace Sys2Proof.Machine
open Sys2Proof Sys2Proof.Claims

/-! ## The checks of the operands, one fact each -/

/-- No check of a list fails exactly where all of them hold. -/
theorem firstBad_eq_none {l : List (Bool × Nat)} : firstBad l = none ↔ ∀ x ∈ l, x.1 = true := by
  simp [firstBad]

theorem within_iff {lo hi x : Nat} : within lo hi x = true ↔ lo ≤ x ∧ x ≤ hi := by simp [within]

theorem isFreq_iff {f : Nat} : isFreq f = true ↔ (3900 ≤ f ∧ f ≤ 26100) ∧ f % 5 = 0 := by simp [isFreq, within]

/-- The strict ascent of a list, as the pairwise order the claims speak of. -/
theorem ascending_iff {l : List Nat} : ascending l = true ↔ l.Pairwise (· < ·) := by
  rw [← List.isChain_iff_pairwise]
  induction l with
  | nil => simp [ascending]
  | cons x l ih => cases l with
    | nil => simp [ascending]
    | cons y l => simp only [ascending, Bool.and_eq_true, decide_eq_true_eq, ih, List.isChain_cons_cons]

/-- The item that a number names, by the number. -/
theorem itemOf_eq_some {n k : Nat} {i : Fin n} : itemOf n k = some i ↔ num i = k := by
  unfold itemOf num
  split
  · simp only [Option.some.injEq, Fin.ext_iff]; omega
  · simp only [reduceCtorEq, false_iff]; omega

theorem itemOf_eq_none {n k : Nat} : itemOf n k = none ↔ k = 0 ∨ n < k := by
  unfold itemOf
  split <;> simp <;> omega

theorem mem_itemsOf {n : Nat} {l : List Nat} {i : Fin n} : i ∈ itemsOf n l ↔ num i ∈ l := by
  simp [itemsOf, List.mem_filterMap, itemOf_eq_some]

/-- The items that an ascending list of numbers names stand in ascending order. -/
theorem itemsOf_pairwise {n : Nat} {l : List Nat} (h : l.Pairwise (· < ·)) : (itemsOf n l).Pairwise (· < ·) := by
  refine List.Pairwise.filterMap _ (fun x y lt i hi j hj => ?_) h
  rw [itemOf_eq_some] at hi hj
  simp only [num] at hi hj
  exact Fin.lt_def.mpr (by omega)

/-! ## The transmitter record (R2, R3) -/

theorem storedStep_range (v : Nat) : 10 ≤ storedStep v ∧ storedStep v ≤ 500 := by
  unfold storedStep clampTo; split_ifs <;> omega

theorem storedInterval_range (v : Nat) :
    50 ≤ storedInterval v ∧ storedInterval v ≤ 2000 ∧ storedInterval v % 50 = 0 := by
  have clamped : 50 ≤ clampTo 50 2000 v ∧ clampTo 50 2000 v ≤ 2000 := by unfold clampTo; split_ifs <;> omega
  unfold storedInterval
  omega

/-- Every item of an ascending list is at least its first. -/
theorem le_of_head_le {l : List Nat} {b : Nat} (up : l.Pairwise (· < ·)) (first : l.head?.any (fun x => decide (b ≤ x)) = true) :
    ∀ x ∈ l, b ≤ x := by
  cases l with
  | nil => simp
  | cons y l =>
    have head : b ≤ y := by simpa using first
    intro x hx
    rcases List.mem_cons.mp hx with rfl | hx
    · exact head
    · exact head.trans (List.rel_of_pairwise_cons up hx).le

theorem tapsFit_range {l : List Nat} (h : tapsFit l = true) :
    2 ≤ l.length ∧ l.length ≤ 6 ∧ l.Pairwise (· < ·) ∧ (∀ x ∈ l, 100 ≤ x) ∧ l.getLast? = some 1000 := by
  simp only [tapsFit, Bool.and_eq_true, within_iff, ascending_iff, decide_eq_true_eq] at h
  obtain ⟨⟨⟨⟨low, high⟩, up⟩, first⟩, last⟩ := h
  exact ⟨low, high, up, le_of_head_le up first, last⟩

/-- R3 bounds the two fields that R2's checks leave to it. -/
theorem txRecord_stored {f : TxFields} {d : TxDef} (h : txRecord f = some d) :
    ∃ v w, d.rampStep = storedStep v ∧ d.rampInterval = storedInterval w := by
  unfold txRecord at h
  split at h
  · cases h; exact ⟨_, _, rfl, rfl⟩
  · cases h

/-- R2, R3: a record that DEFINE-TX accepts is in range. -/
theorem txInRange_of_accepted {f : TxFields} {d : TxDef} (built : txRecord f = some d) (fits : txFieldFault d = none) :
    txInRange d := by
  obtain ⟨v, w, step, interval⟩ := txRecord_stored built
  have stepRange := storedStep_range v
  have intervalRange := storedInterval_range w
  rw [← step] at stepRange
  rw [← interval] at intervalRange
  simp only [txFieldFault, firstBad_eq_none, List.forall_mem_cons, Bool.and_eq_true, within_iff, isFreq_iff,
    decide_eq_true_eq, List.not_mem_nil, false_implies, implies_true, and_true] at fits
  obtain ⟨rating, low, high, taps, rest⟩ := fits
  obtain ⟨count, most, up, least, last⟩ := tapsFit_range taps
  unfold txInRange
  refine ⟨rating.1, rating.2, low.1.1, high.2, high.1.1.2, low.2, high.1.2, count, most, up, least, last, ?_⟩
  omega

/-! ## The antenna record (R4) -/

theorem txList_iff {l : List Nat} : txList l = true ↔ (∀ x ∈ l, 1 ≤ x ∧ x ≤ 16) ∧ l.Pairwise (· < ·) := by
  simp [txList, ascending_iff, within_iff]

/-- The antenna record is built of the fields that the checks of R4 look at. -/
theorem antRecord_eq_some {f : AntFields} {d : AntDef} (h : antRecord f = some d) :
    f.rating = some d.rating ∧ f.bandLow = some d.bandLow ∧ f.bandHigh = some d.bandHigh ∧ f.zone = some (num d.zone) ∧
    (∃ l, f.reach = some l ∧ d.reach = itemsOf 16 l) ∧ d.beams = f.beams.getD 1 ∧ d.warn = f.warn.getD 150 ∧
    d.fold = f.fold.getD 180 ∧ d.trip = f.trip.getD 250 ∧ d.selEst = f.selEst.getD 8 ∧
    d.selTimeout = f.selTimeout.getD 20 ∧ d.beamEst = f.beamEst.getD 20 ∧ d.beamTimeout = f.beamTimeout.getD 60 := by
  unfold antRecord at h
  split at h
  next r lo hi z reach hr hlo hhi hz hreach =>
    obtain ⟨k, hk, hz⟩ := Option.bind_eq_some_iff.mp hz
    rw [itemOf_eq_some] at hz
    cases h
    simp [hr, hlo, hhi, hk, hz, hreach]
  · cases h

/-- R4: a record that DEFINE-ANT accepts is in range. -/
theorem antInRange_of_accepted {f : AntFields} {d : AntDef} (built : antRecord f = some d) (fits : antFieldFault f = none) :
    antInRange d := by
  obtain ⟨rating, low, high, zone, ⟨l, reach, members⟩, beams, warn, fold, trip, selEst, selTimeout, beamEst, beamTimeout⟩ :=
    antRecord_eq_some built
  simp only [antFieldFault, firstBad_eq_none, List.forall_mem_cons, Bool.and_eq_true, within_iff, isFreq_iff, txList_iff,
    decide_eq_true_eq, List.not_mem_nil, false_implies, implies_true, and_true, rating, low, high, zone, reach,
    Option.getD_some, ← beams, ← warn, ← fold, ← trip, ← selEst, ← selTimeout, ← beamEst, ← beamTimeout] at fits
  obtain ⟨ratingFits, lowFits, highFits, -, ⟨⟨some, -⟩, numbers, up⟩, rest⟩ := fits
  have reached : d.reach ≠ [] := by
    obtain ⟨k, hk⟩ := List.exists_mem_of_length_pos some
    have named : itemOf 16 k ≠ none := fun none => by
      have := numbers k hk
      rcases itemOf_eq_none.mp none with h | h <;> omega
    obtain ⟨n, hn⟩ := Option.ne_none_iff_exists'.mp named
    rw [itemOf_eq_some] at hn
    exact List.ne_nil_of_mem (members ▸ mem_itemsOf.mpr (hn ▸ hk) : n ∈ d.reach)
  unfold antInRange
  refine ⟨ratingFits.1, ratingFits.2, lowFits.1.1, highFits.2, highFits.1.1.2, lowFits.2, highFits.1.2, reached,
    members ▸ itemsOf_pairwise up, ?_⟩
  omega

/-! ## The hall-wide record (R7, R8) -/

/-- The member list that DEFINE-HALL gives a trim group. -/
def groupMembers (f : HallFields) (g : GroupId) : List Nat := (groupLists f).get (g.cast rfl)

theorem hallRecord_groups (f : HallFields) (g : GroupId) : (hallRecord f).groups[g] = itemsOf 16 (groupMembers f g) := by
  fin_cases g <;> rfl

/-- Two places of a list that pass a test make two members of its filter. -/
theorem two_le_length_filter {α : Type} {p : α → Bool} {x y : α} (px : p x = true) (py : p y = true) :
    ∀ {l : List α} {i j : Nat}, i < j → l[i]? = some x → l[j]? = some y → 2 ≤ (l.filter p).length
  | _ :: l, 0, j + 1, _, hx, hy => by
    have rest : 0 < (l.filter p).length :=
      List.length_pos_of_mem (List.mem_filter.mpr ⟨List.mem_of_getElem? (by simpa using hy), py⟩)
    simp only [List.getElem?_cons_zero, Option.some.injEq] at hx
    simp only [List.filter_cons, hx, px, if_true, List.length_cons]
    omega
  | z :: l, i + 1, j + 1, lt, hx, hy => by
    have rest := two_le_length_filter px py (l := l) (Nat.lt_of_succ_lt_succ lt) (by simpa using hx) (by simpa using hy)
    rw [List.filter_cons]
    split
    · exact rest.trans (Nat.le_succ _)
    · exact rest

/-- No number stands in two of the member lists that DEFINE-HALL accepts (R8). -/
theorem groupMembers_disjoint {f : HallFields} (apart : sharedMember f = none) {g g' : GroupId} {k : Nat} (least : 1 ≤ k)
    (most : k ≤ 16) (h : k ∈ groupMembers f g) (h' : k ∈ groupMembers f g') : g = g' := by
  have number : k ∈ (List.range 17).drop 1 := by
    rw [show (List.range 17).drop 1 = List.range' 1 16 from rfl, List.mem_range'_1]
    omega
  have single : ((groupLists f).filter fun l => l.contains k).length < 2 := by
    have := List.find?_eq_none.mp apart k number
    simpa using this
  have twice {i j : GroupId} (lt : i < j) (hi : k ∈ groupMembers f i) (hj : k ∈ groupMembers f j) : False :=
    absurd (two_le_length_filter (p := fun l : List Nat => l.contains k) (List.contains_iff_mem.mpr hi)
      (List.contains_iff_mem.mpr hj) (Fin.lt_def.mp lt)
      (List.getElem?_eq_getElem _) (List.getElem?_eq_getElem _)) (by omega)
  rcases lt_trichotomy g g' with lt | same | gt
  · exact (twice lt h h').elim
  · exact same
  · exact (twice gt h' h).elim

/-- The hall-wide record within R7, with no transmitter in two groups (R8). -/
def HallDef.legal (d : HallDef) : Prop :=
  10 ≤ d.minForward ∧ d.minForward ≤ 500 ∧ d.minRemainder ≤ 900 ∧
  (∀ g : GroupId, (d.groups[g]).Pairwise (· < ·)) ∧
  ∀ (g g' : GroupId) (n : TxId), n ∈ d.groups[g] → n ∈ d.groups[g'] → g = g'

theorem optWithin_getD {lo hi v : Nat} {o : Option Nat} (h : optWithin lo hi o = true) (least : lo ≤ v) (most : v ≤ hi) :
    lo ≤ o.getD v ∧ o.getD v ≤ hi := by
  cases o with
  | none => exact ⟨least, most⟩
  | some x => exact within_iff.mp h

/-- R7, R8: the record that DEFINE-HALL accepts is in range. -/
theorem hallRecord_legal {f : HallFields} (fits : hallFieldFault f = none) (apart : sharedMember f = none) :
    (hallRecord f).legal := by
  simp only [hallFieldFault, firstBad_eq_none, List.forall_mem_cons, List.not_mem_nil, false_implies, implies_true,
    and_true] at fits
  obtain ⟨forward, remainder, one, two, three, four⟩ := fits
  have fit (g : GroupId) : groupFits (groupMembers f g) = true := by fin_cases g <;> assumption
  have forwardRange := optWithin_getD forward (v := 50) (by omega) (by omega)
  have remainderRange := optWithin_getD remainder (v := 120) (by omega) (by omega)
  refine ⟨forwardRange.1, forwardRange.2, remainderRange.2, fun g => ?_, fun g g' n h h' => ?_⟩
  · have up := fit g
    simp only [groupFits, Bool.and_eq_true, txList_iff] at up
    rw [hallRecord_groups]
    exact itemsOf_pairwise up.2.2
  · rw [hallRecord_groups, mem_itemsOf] at h h'
    exact groupMembers_disjoint apart (by unfold num; omega) (by unfold num; omega) h h'

end Sys2Proof.Machine
end

section
/-! PROOFS. What a command does to the queue of waiting commands and to the hall description. -/

namespace Sys2Proof.Machine
open Sys2Proof Sys2Proof.Claims

/-! ## What an accepted DEFINE request writes -/

/-- The descriptions that an accepted DEFINE request leaves (R10 to R14): one record written or cleared, each written one having
passed its checks, with zones and static minima derived again. -/
inductive HdsWrite (h : Hds) : Hds → Prop where
  | tx (n : TxId) (f : TxFields) (d : TxDef) (m : Vector (Option Nat) 16) (built : txRecord f = some d)
      (fits : txFieldFault d = none) : HdsWrite h { h with tx := h.tx.set n (some d), staticMin := m }
  | txGone (n : TxId) (m : Vector (Option Nat) 16) : HdsWrite h { h with tx := h.tx.set n none, staticMin := m }
  | ant (a : AntId) (f : AntFields) (d : AntDef) (z : Vector ZoneRec 8) (m : Vector (Option Nat) 16)
      (built : antRecord f = some d) (fits : antFieldFault f = none) :
      HdsWrite h { h with ant := h.ant.set a (some d), zones := z, staticMin := m }
  | antGone (a : AntId) (z : Vector ZoneRec 8) (m : Vector (Option Nat) 16) :
      HdsWrite h { h with ant := h.ant.set a none, zones := z, staticMin := m }
  | hall (f : HallFields) (fits : hallFieldFault f = none) (apart : sharedMember f = none) :
      HdsWrite h { h with hall := hallRecord f }

/-- A record of a vector after one is written: the written one, or one that stood. -/
theorem getElem_set_cases {α : Type} {k : Nat} {v : Vector (Option α) k} {i j : Fin k} {o : Option α} {x : α}
    (h : (v.set i o)[j] = some x) : o = some x ∨ v[j] = some x := by
  by_cases e : i.val = j.val
  · exact .inl (by simpa [e] using h)
  · exact .inr (by simpa [Vector.getElem_set_ne _ _ e] using h)

/-- R2, R4, R7: an accepted DEFINE request keeps the description in range. -/
theorem HdsWrite.legal {h k : Hds} (write : HdsWrite h k) (hl : hdsLegal h) : hdsLegal k := by
  obtain ⟨txs, ants, hall⟩ := hl
  cases write with
  | tx n f d m built fits =>
    refine ⟨fun i x hx => ?_, ants, hall⟩
    rcases getElem_set_cases hx with new | old
    · cases new; exact txInRange_of_accepted built fits
    · exact txs i x old
  | txGone n m =>
    refine ⟨fun i x hx => ?_, ants, hall⟩
    rcases getElem_set_cases hx with new | old
    · cases new
    · exact txs i x old
  | ant a f d z m built fits =>
    refine ⟨txs, fun i x hx => ?_, hall⟩
    rcases getElem_set_cases hx with new | old
    · cases new; exact antInRange_of_accepted built fits
    · exact ants i x old
  | antGone a z m =>
    refine ⟨txs, fun i x hx => ?_, hall⟩
    rcases getElem_set_cases hx with new | old
    · cases new
    · exact ants i x old
  | hall f fits apart => exact ⟨txs, ants, hallRecord_legal fits apart⟩

/-! ## The effect of a request, a frame and a command on both -/

/-- A command other than a power-on leaves the queue of waiting commands, and the hall description too unless the hall is HALTED
and a DEFINE request is accepted (R10 to R12). -/
structure State.Leaves (s t : State) : Prop where
  pending : t.pending = s.pending
  hds : t.hds = s.hds ∨ s.txs.hall = .halted ∧ HdsWrite s.hds t.hds

theorem State.Leaves.of_queueAndHds {s t : State} (h : t.queueAndHds = s.queueAndHds) : s.Leaves t :=
  ⟨congrArg Prod.fst h, .inl (congrArg Prod.snd h)⟩

theorem State.Leaves.of_still {s t : State} (h : t.still = s.still) : s.Leaves t :=
  .of_queueAndHds (queueAndHds_of_still h)

/-- What a state leaves, one with its queue, description and hall state leaves too. -/
theorem State.Leaves.of_eq {s t u : State} (h : t.Leaves u) (both : t.queueAndHds = s.queueAndHds) (txs : t.txs = s.txs) :
    s.Leaves u := by
  have pending : t.pending = s.pending := congrArg Prod.fst both
  have hds : t.hds = s.hds := congrArg Prod.snd both
  exact ⟨h.pending.trans pending, by rw [← hds, ← txs]; exact h.hds⟩

theorem State.Leaves.refl (s : State) : s.Leaves s := .of_still rfl

theorem State.reqDefineTx_leaves (number : Nat) (f : TxFields) (s : State) : s.Leaves (s.reqDefineTx number f).st := by
  unfold State.reqDefineTx
  split
  next halted =>
    split
    · exact .refl s
    next n _ =>
      split
      · exact .refl s
      · exact .refl s
      next d _ built =>
        split
        · exact .refl s
        next fits =>
          exact ⟨s.storeTx_pending n d, .inr ⟨halted, by
            simp only [State.ok, State.storeTx_hds]; exact .tx n f d _ built fits⟩⟩
  · exact .refl s

theorem State.reqDefineTxRemove_leaves (number : Nat) (s : State) : s.Leaves (s.reqDefineTxRemove number).st := by
  unfold State.reqDefineTxRemove
  split
  next halted =>
    split
    · exact .refl s
    next n _ =>
      split
      · split
        · exact .refl s
        · exact ⟨s.removeTx_pending n, .inr ⟨halted, by simp only [State.ok, State.removeTx_hds]; exact .txGone n _⟩⟩
      · exact .refl s
  · exact .refl s

theorem State.reqDefineAnt_leaves (number : Nat) (f : AntFields) (s : State) : s.Leaves (s.reqDefineAnt number f).st := by
  unfold State.reqDefineAnt
  split
  next halted =>
    split
    · exact .refl s
    next a _ =>
      split
      · exact .refl s
      · exact .refl s
      next _ fits =>
        split
        · exact .refl s
        next d built =>
          split
          · exact .refl s
          · exact ⟨s.storeAnt_pending a d, .inr ⟨halted, by
              simp only [State.ok, State.storeAnt_hds]; exact .ant a f d _ _ built fits⟩⟩
  · exact .refl s

theorem State.reqDefineAntRemove_leaves (number : Nat) (s : State) : s.Leaves (s.reqDefineAntRemove number).st := by
  unfold State.reqDefineAntRemove
  split
  next halted =>
    split
    · exact .refl s
    next a _ =>
      split
      · split
        · exact .refl s
        · exact ⟨s.removeAnt_pending a, .inr ⟨halted, by
            simp only [State.ok, State.removeAnt_hds]; exact .antGone a _ _⟩⟩
      · exact .refl s
  · exact .refl s

theorem State.reqDefineHall_leaves (f : HallFields) (s : State) : s.Leaves (s.reqDefineHall f).st := by
  unfold State.reqDefineHall
  split
  next halted =>
    split
    · exact .refl s
    next fits =>
      split
      · exact .refl s
      next apart =>
        exact ⟨s.storeHall_pending _, .inr ⟨halted, by
          simp only [State.ok, State.storeHall_hds]; exact .hall f fits apart⟩⟩
  · exact .refl s

/-- What a request does, by its owning block. -/
theorem State.serveRequest_leaves (port : Port) (r : Request) (s : State) : s.Leaves (s.serveRequest port r).st := by
  cases r with
  | defineTx k f => exact s.reqDefineTx_leaves k f
  | defineTxRemove k => exact s.reqDefineTxRemove_leaves k
  | defineAnt k f => exact s.reqDefineAnt_leaves k f
  | defineAntRemove k => exact s.reqDefineAntRemove_leaves k
  | defineHall f => exact s.reqDefineHall_leaves f
  | setTime d t o => exact .of_queueAndHds (s.reqSetTime_queueAndHds d t o)
  | latch w => exact .of_queueAndHds (s.reqLatch_queueAndHds w)
  | readSnapshot k => exact .of_queueAndHds (s.reqReadSnapshot_queueAndHds k)
  | setHoldPoint w hp => exact .of_queueAndHds (s.reqSetHoldPoint_queueAndHds w hp)
  | restart => exact .of_queueAndHds s.reqRestart_queueAndHds
  | _ => exact .of_still (by simp [State.serveRequest])

theorem State.judgeRequest_leaves (port : Port) (r : Request) (s : State) : s.Leaves (s.judgeRequest port r).st := by
  unfold State.judgeRequest
  split
  · exact .refl s
  · split
    · exact s.serveRequest_leaves port _
    · exact .refl s

/-! ### Ports -/

@[simp] theorem State.updPort_queueAndHds (port : Port) (f : PortState → PortState) (s : State) :
    (s.updPort port f).queueAndHds = s.queueAndHds := by cases port <;> rfl

@[simp] theorem State.gapAfter_queueAndHds (port : Port) (was : RxState) (o : RxOut) (s : State) :
    (s.gapAfter port was o).queueAndHds = s.queueAndHds := by
  unfold State.gapAfter
  split
  · rfl
  · split
    · rfl
    · exact queueAndHds_of_still (s.retrigger_still _)
  · rfl
  · rfl

@[simp] theorem State.retrigger_txs (ch : ChanId) (s : State) : (s.retrigger ch).txs = s.txs := by
  unfold State.retrigger
  dsimp only
  split <;> rfl

@[simp] theorem State.gapAfter_txs (port : Port) (was : RxState) (o : RxOut) (s : State) :
    (s.gapAfter port was o).txs = s.txs := by
  unfold State.gapAfter
  split
  · rfl
  · split
    · rfl
    · exact s.retrigger_txs _
  · rfl
  · rfl

@[simp] theorem State.discardFrame_queueAndHds (port : Port) (s : State) :
    (s.discardFrame port).queueAndHds = s.queueAndHds := s.updPort_queueAndHds port _

theorem State.takeRequest_leaves (port : Port) (f : InFrame) (s : State) : s.Leaves (s.takeRequest port f) := by
  obtain ⟨pending, hds⟩ := s.judgeRequest_leaves port f.req
  exact ⟨by simpa [State.takeRequest] using pending, by simpa [State.takeRequest] using hds⟩

theorem State.frameArrives_leaves (port : Port) (f : InFrame) (s : State) : s.Leaves (s.frameArrives port f) := by
  unfold State.frameArrives
  split
  · exact .of_queueAndHds (by simp)
  · split
    · exact .of_queueAndHds (by simp)
    · exact s.takeRequest_leaves port f

theorem State.takeWaiting_leaves (port : Port) (s : State) : s.Leaves (s.takeWaiting port) := by
  unfold State.takeWaiting
  split
  · exact (State.takeRequest_leaves _ _ _).of_eq (s.updPort_queueAndHds port _) (s.updPort_txs port _)
  · exact .refl s

theorem State.byteReceived_leaves (port : Port) (b : Byte) (s : State) : s.Leaves (s.byteReceived port b) := by
  unfold State.byteReceived
  split
  · refine .of_queueAndHds ?_
    unfold State.byteRefused
    dsimp only
    split <;> simp
  · dsimp only
    split
    · exact .of_queueAndHds (by simp)
    · exact .of_queueAndHds (by simp)
    · exact .of_queueAndHds (by simp)
    · exact (State.frameArrives_leaves _ _ _).of_eq (by simp) (by simp)

/-! ### Expiries, lines and reports -/

theorem State.expire_still {ch : ChanId} {s t : State} (h : s.expire ch = some t) : t.still = s.still := by
  unfold State.expire at h
  dsimp only at h
  split at h
  · cases h; split <;> rfl
  · cases h

theorem State.onExpiry_queueAndHds (ch : ChanId) (f : State → State) (s : State)
    (h : ∀ t, (f t).queueAndHds = t.queueAndHds) : (s.onExpiry ch f).queueAndHds = s.queueAndHds := by
  unfold State.onExpiry
  split
  next t expired => rw [h, queueAndHds_of_still (State.expire_still expired)]
  · rfl

theorem State.onExpiry_still (ch : ChanId) (f : State → State) (s : State) (h : ∀ t, (f t).still = t.still) :
    (s.onExpiry ch f).still = s.still := by
  unfold State.onExpiry
  split
  next t expired => rw [h, State.expire_still expired]
  · rfl

theorem State.report_still (n : TxId) (isState : Bool) (f : State → State) (s : State) (h : ∀ t, (f t).still = t.still) :
    (s.report n isState f).still = s.still := by
  unfold State.report
  split
  · split
    · rw [h, State.retrigger_still]
    · split <;> simp [h]
  · rfl

theorem State.known_still (n : TxId) (f : State → State) (s : State) (h : ∀ t, (f t).still = t.still) :
    (s.known n f).still = s.still := by
  unfold State.known
  split
  · rfl
  · exact h s

theorem State.fromBus_still (addr : Nat) (f : ActId → State → State) (s : State)
    (h : ∀ act t, (f act t).still = t.still) : (s.fromBus addr f).still = s.still := by
  unfold State.fromBus
  split
  · exact h _ _
  · rfl

theorem State.handover_still (s : State) : s.handover.still = s.still := by
  unfold State.handover
  dsimp only
  split <;> simp

theorem State.gapExpired_queueAndHds (port : Port) (s : State) : (s.gapExpired port).queueAndHds = s.queueAndHds := by
  unfold State.gapExpired
  split
  · simp
  · split <;> simp

/-- A command whose meaning leaves `State.still` leaves the queue and the description. -/
theorem leaves_of_still {c : Instr} {s t : State} (run : exec c s = .next t) (h : t.still = s.still) :
    ∃ t, exec c s = .next t ∧ s.Leaves t := ⟨t, run, .of_still h⟩

/-- A command whose meaning leaves the queue and the description. -/
theorem leaves_of_queueAndHds {c : Instr} {s t : State} (run : exec c s = .next t) (h : t.queueAndHds = s.queueAndHds) :
    ∃ t, exec c s = .next t ∧ s.Leaves t := ⟨t, run, .of_queueAndHds h⟩

/-- The effect of each command but a power-on on the queue of waiting commands and on the hall description. -/
theorem exec_leaves (c : Instr) (s : State) (run : c ≠ .powerOn) : ∃ t, exec c s = .next t ∧ s.Leaves t := by
  cases c with
  | powerOn => exact absurd rfl run
  | portByte port b => exact ⟨_, rfl, s.byteReceived_leaves port b⟩
  | frameGapExpiry port => exact leaves_of_queueAndHds rfl (s.onExpiry_queueAndHds _ _ (State.gapExpired_queueAndHds port))
  | waitingFrameTaken port => exact ⟨_, rfl, s.takeWaiting_leaves port⟩
  | frameTransmit port => exact leaves_of_queueAndHds rfl (s.updPort_queueAndHds port _)
  | secondPulse after => exact leaves_of_queueAndHds rfl (s.pulse_queueAndHds after)
  | oscillatorSecond => exact leaves_of_queueAndHds rfl s.oscillatorSecond_queueAndHds
  | pulseWindowClose => exact leaves_of_queueAndHds rfl s.windowCloses_queueAndHds
  | sweepStep => exact leaves_of_still rfl s.sweepStep_still
  | bankRecheck => exact leaves_of_still rfl s.recheckBank_still
  | syncRisingEdge =>
    refine leaves_of_queueAndHds rfl ?_
    unfold State.syncRises
    split <;> rfl
  | syncInputOff => exact leaves_of_queueAndHds rfl rfl
  | syncQualifierExpiry => exact leaves_of_still rfl (s.onExpiry_still _ _ State.syncEdge_still)
  | emergencyAsserted =>
    refine leaves_of_queueAndHds rfl ?_
    split <;> simp
  | emergencyReleased =>
    refine leaves_of_queueAndHds rfl ?_
    split <;> simp
  | gateLineOff z =>
    refine leaves_of_queueAndHds rfl ?_
    split
    · exact (State.queueAndHds_of_still ((s.setGate z false).zoneOpens_still z)).trans rfl
    · rfl
  | gateLineOn z =>
    refine leaves_of_queueAndHds rfl ?_
    split
    · exact (State.queueAndHds_of_still ((s.setGate z true).zoneCloses_still z)).trans rfl
    · rfl
  | accept n => exact leaves_of_still rfl (s.report_still n _ _ (State.accepted_still n))
  | reject n reason => exact leaves_of_still rfl (s.report_still n _ _ (State.rejected_still n))
  | state n r => exact leaves_of_still rfl (s.report_still n _ _ (State.digest_still n r))
  | meter n x y =>
    exact leaves_of_still rfl (s.report_still n _ _ fun t => t.known_still n _ (State.meter_still n x y))
  | tuned n f => exact leaves_of_still rfl (s.report_still n _ _ fun t => t.known_still n _ (State.tuned_still n f))
  | tuneFail n k => exact leaves_of_still rfl (s.report_still n _ _ fun t => t.known_still n _ (State.tuneFailed_still n k))
  | trip n u => exact leaves_of_still rfl (s.report_still n _ _ fun t => t.known_still n _ (State.tripReport_still n _))
  | fault n u => exact leaves_of_still rfl (s.report_still n _ _ fun t => t.known_still n _ (State.unitFault_still n _))
  | deferredOrderSend n => exact leaves_of_still rfl (s.sendDeferred_still n)
  | orderAcceptExpiry n => exact leaves_of_still rfl (s.onExpiry_still _ _ (State.lineLost_still n true))
  | lineSilenceExpiry n => exact leaves_of_still rfl (s.onExpiry_still _ _ (State.lineLost_still n false))
  | warmUpExpiry n => exact leaves_of_still rfl (s.onExpiry_still _ _ (State.warmUpEnds_still n))
  | tuneExpiry n => exact leaves_of_still rfl (s.onExpiry_still _ _ (State.tuneEnds_still n))
  | rampExpiry n => exact leaves_of_still rfl (s.onExpiry_still _ _ (State.rampStepped_still n))
  | rfOffConfirmationExpiry n => exact leaves_of_still rfl (s.onExpiry_still _ _ (State.rfOffUnconfirmed_still n))
  | recycleExpiry n => exact leaves_of_still rfl (s.onExpiry_still _ _ (State.recycleExpired_still n))
  | phaseBegin n ph => exact leaves_of_still rfl (s.phaseBegins_still n ph)
  | retargetEffect n => exact leaves_of_still rfl (s.retargetEffect_still n)
  | moveHandover => exact leaves_of_still rfl s.handover_still
  | antennaOffer a => exact leaves_of_still rfl (s.offer_still a)
  | busOrderSend => exact leaves_of_still rfl s.serve_still
  | moving k => exact leaves_of_still rfl (s.fromBus_still k _ State.movingFrom_still)
  | arrived k p => exact leaves_of_still rfl (s.fromBus_still k _ fun act t => by split <;> simp)
  | stuck k p => exact leaves_of_still rfl (s.fromBus_still k _ fun act t => by split <;> simp)
  | position k p => exact leaves_of_still rfl (s.fromBus_still k _ fun act t => by split <;> simp)
  | busAnswerExpiry => exact leaves_of_still rfl (s.onExpiry_still _ _ State.answerExpired_still)
  | travelExpiry act => exact leaves_of_still rfl (s.onExpiry_still _ _ (State.travelExpired_still act))
  | allQuerySend => exact leaves_of_still rfl s.sendAllQuery_still
  | surveyEnd => exact leaves_of_still rfl s.surveyEnds_still
  | hallAllOff => exact leaves_of_still rfl s.haltedIfOff_still
  | _ => exact ⟨_, rfl, s.frameArrives_leaves _ _⟩

/-! ## Power-on -/

/-- A power-on in which the EMERGENCY line is released (R18). -/
def State.fresh (s : State) : State := { State.reset with pending := s.pending, pins := s.pins, free := s.free }

theorem State.poweredOn_eq (s : State) :
    s.poweredOn = if s.pins.emergency then s.fresh.toHall .emergency .emergencyAsserted else s.fresh := rfl

theorem State.poweredOn_still (s : State) : s.poweredOn.still = s.fresh.still := by
  rw [State.poweredOn_eq]; split <;> simp

/-- R2, R4, R7: the description at power-on, with no record and the defaults of R7, is in range. -/
theorem hdsLegal_powerOn : hdsLegal Hds.powerOn := by
  refine ⟨fun n d h => ?_, fun a d h => ?_, ?_, ?_, ?_, fun g => ?_, fun g g' n h => ?_⟩ <;>
    simp_all [Hds.powerOn, HallDef.default]

end Sys2Proof.Machine

namespace Sys2Proof.Proofs
open Sys2Proof Sys2Proof.Machine Sys2Proof.Claims

/-- Settles O2: each command answers a next state, and only the queue's own step takes from the queue. -/
theorem everyCommandAnswersNext : Obligations.EveryCommandAnswersNext := by
  intro c s
  by_cases run : c = .powerOn
  · subst run
    exact ⟨_, rfl, (State.pending_of_still s.poweredOn_still).trans rfl⟩
  · obtain ⟨t, next, leaves⟩ := exec_leaves c s run
    exact ⟨t, next, leaves.pending⟩

/-- Settles O9: outside HALTED every DEFINE request is refused, and no other command writes the description. -/
theorem hallDescriptionChangesOnlyWhenHalted : Obligations.HallDescriptionChangesOnlyWhenHalted := by
  intro c s t run moving next
  obtain ⟨u, next', leaves⟩ := exec_leaves c s run
  obtain rfl : u = t := by rw [next] at next'; cases next'; rfl
  exact leaves.hds.resolve_right fun write => moving write.1

/-- Settles O53: a power-on leaves the defaults, an accepted DEFINE request writes a record in range, and no other command
writes the description. -/
theorem everyStepKeepsTheDescriptionInRange : Obligations.EveryStepKeepsTheDescriptionInRange := by
  intro s t legal next
  unfold step at next
  split at next
  · cases next
    exact (State.hds_of_still s.idle_still).symm ▸ legal
  next c rest _ =>
    by_cases run : c = .powerOn
    · subst run
      cases next
      rw [State.hds_of_still (State.poweredOn_still _)]
      exact hdsLegal_powerOn
    · obtain ⟨u, next', leaves⟩ := exec_leaves c (s.withPending rest) run
      obtain rfl : u = t := by rw [next] at next'; cases next'; rfl
      rcases leaves.hds with same | ⟨-, write⟩
      · rw [same]; exact legal
      · exact write.legal legal

end Sys2Proof.Proofs
end

section
/-! PROOFS. A request on a free port, and the READ requests of the description, the banks, the bookings and the matrix (R17,
R46, R51, R58, R78, R145, R173). -/

namespace Sys2Proof.Machine
open Sys2Proof Sys2Proof.Claims

/-! ## A request on a free port (R188, R189) -/

/-- A frame that completes on a free port is taken, and its reply waits in the slot. -/
theorem State.frameArrives_of_portFree {port : Port} {s : State} (free : portFree port s) (tag : Byte) (r : Request) :
    s.frameArrives port ⟨tag, r⟩ =
      replied port tag (kindOf r) (s.judgeRequest port r).res (s.judgeRequest port r).st := by
  obtain ⟨waiting, slot⟩ := free
  simp only [State.frameArrives, waiting, slot, Option.isSome_none, Bool.false_eq_true, if_false]
  rfl

/-- A request that its port may send is judged by its owning block. -/
theorem State.judgeRequest_of_permitted {port : Port} {s : State} {r : Request} (may : s.permitted port (kindOf r) = true) :
    s.judgeRequest port r = s.serveRequest port r := by
  unfold State.judgeRequest
  split
  · rfl
  · rw [if_pos may]

/-- A request command on a free port that may send it: what the owning block answers is the reply. -/
theorem exec_request (r : Request) {c : Instr} {port : Port} {tag : Byte} {s t : State} {res : Result}
    (frame : frameOf c = some (port, tag, r)) (free : portFree port s) (may : s.permitted port (kindOf r) = true)
    (answer : s.serveRequest port r = ⟨t, res⟩) : exec c s = .next (replied port tag (kindOf r) res t) := by
  rw [exec_of_frameOf frame, State.frameArrives_of_portFree free, State.judgeRequest_of_permitted may, answer]

/-- The A-port may send every request (R190). -/
theorem State.permitted_a (s : State) (code : Byte) : s.permitted .a code = true := rfl

/-- The requests of `panelAlways` may be sent on either port (R190). -/
theorem State.permitted_of_mem {code : Byte} (always : panelAlways.contains code = true) (port : Port) (s : State) :
    s.permitted port code = true := by
  cases port with
  | a => rfl
  | p => simp only [State.permitted, always, Bool.true_or]

/-- A request command that either port may send, on a free port. -/
theorem exec_read (r : Request) {c : Instr} {port : Port} {tag : Byte} {s t : State} {res : Result}
    (frame : frameOf c = some (port, tag, r)) (free : portFree port s) (always : panelAlways.contains (kindOf r) = true)
    (answer : s.serveRequest port r = ⟨t, res⟩) : exec c s = .next (replied port tag (kindOf r) res t) :=
  exec_request r frame free (State.permitted_of_mem always port s) answer

/-! ## The description (R17) -/

theorem State.reqReadTxDef_hall (s : State) :
    s.reqReadTxDef 0 = s.ok (.hallDef s.hds.hall s.effectiveGroups s.hds.zones) := rfl

theorem State.reqReadTxDef_defined {s : State} {number : Nat} {n : TxId} {d : TxDef} (item : itemOf 16 number = some n)
    (defined : s.txDef n = some d) : s.reqReadTxDef number = s.ok (s.txBody n d []) := by
  have positive : number ≠ 0 := by rintro rfl; simp [itemOf] at item
  simp [State.reqReadTxDef, positive, item, defined]

theorem State.reqReadTxDef_undefined {s : State} {number : Nat} {n : TxId} (item : itemOf 16 number = some n)
    (undefined : s.txDef n = none) : s.reqReadTxDef number = s.refused .noSuch number := by
  have positive : number ≠ 0 := by rintro rfl; simp [itemOf] at item
  simp [State.reqReadTxDef, positive, item, undefined]

theorem State.reqReadTxDef_range {s : State} {number : Nat} (above : 16 < number) :
    s.reqReadTxDef number = s.refused .range 1 := by
  have positive : number ≠ 0 := by omega
  simp [State.reqReadTxDef, positive, itemOf_eq_none.mpr (.inr above)]

theorem State.beamDefined_of_antDef {s : State} {a : AntId} {d : AntDef} (defined : s.antDef a = some d) :
    s.beamDefined a = decide (2 ≤ d.beams) := by simp [State.beamDefined, defined]

theorem State.reqReadAntDef_defined {s : State} {number : Nat} {a : AntId} {d : AntDef} (item : itemOf 40 number = some a)
    (defined : s.antDef a = some d) :
    s.reqReadAntDef number = s.ok (.antDef number d (decide (2 ≤ d.beams)) (s.hds.zones[d.zone]).inUse) := by
  simp [State.reqReadAntDef, item, defined, State.beamDefined_of_antDef defined, State.zoneInUse]

theorem State.reqReadAntDef_undefined {s : State} {number : Nat} {a : AntId} (item : itemOf 40 number = some a)
    (undefined : s.antDef a = none) : s.reqReadAntDef number = s.refused .noSuch number := by
  simp [State.reqReadAntDef, item, undefined]

theorem State.reqReadAntDef_range {s : State} {number : Nat} (outside : number = 0 ∨ 40 < number) :
    s.reqReadAntDef number = s.refused .range 1 := by
  simp [State.reqReadAntDef, itemOf_eq_none.mpr outside]

/-! ## The banks (R46) -/

/-- READ-ENTRY answers RANGE for an ID beyond a word, and for ID 0 in EXACT. -/
theorem State.reqReadEntry_range {s : State} {bank : BankSel} {id : Nat} {mode : ReadMode}
    (outside : 65535 < id ∨ mode = .exact ∧ id = 0) : s.reqReadEntry bank id mode = s.refused .range 2 := by
  unfold State.reqReadEntry
  rw [if_pos]
  rcases outside with above | ⟨rfl, rfl⟩
  · simp [within, above]
  · rfl

/-- READ-ENTRY of an ID in its range answers the entry that it seeks. -/
theorem State.reqReadEntry_inRange {s : State} {bank : BankSel} {id : Nat} {mode : ReadMode} (word : id ≤ 65535)
    (range : id ≠ 0 ∨ mode = .next) : s.reqReadEntry bank id mode =
      match seekEntry mode id (s.bankEntries bank) with
      | some e => s.ok (.entry e (positionOf e.id (s.bankEntries bank)) (s.activeMarks bank e.id))
      | none => s.refused .noSuch id := by
  unfold State.reqReadEntry
  refine if_neg ?_
  rcases range with positive | rfl
  · simp [within, word, positive]
  · simp [within, word]

/-- The lesser ID of two entries, the first where they are the same. -/
def lowerId (x y : Entry) : Entry := if y.id < x.id then y else x

/-- The fold of `lowerId` is one of its arguments, with the smallest ID of them. -/
theorem foldl_lowerId (e : Entry) (l : List Entry) :
    l.foldl lowerId e ∈ e :: l ∧ ∀ x ∈ e :: l, (l.foldl lowerId e).id ≤ x.id := by
  induction l generalizing e with
  | nil => simp
  | cons y l ih =>
    obtain ⟨mem, least⟩ := ih (lowerId e y)
    have pick : (lowerId e y = e ∨ lowerId e y = y) ∧ (lowerId e y).id ≤ e.id ∧ (lowerId e y).id ≤ y.id := by
      unfold lowerId; split <;> simp <;> omega
    obtain ⟨which, first, second⟩ := pick
    have head := least _ (List.mem_cons_self ..)
    simp only [List.foldl_cons, List.mem_cons, forall_eq_or_imp]
    refine ⟨?_, head.trans first, head.trans second, fun x hx => least x (List.mem_cons_of_mem _ hx)⟩
    rcases List.mem_cons.mp mem with same | later
    · rcases which with w | w
      · exact .inl (same.trans w)
      · exact .inr (.inl (same.trans w))
    · exact .inr (.inr later)

theorem nextEntry_eq_none {k : Nat} {l : List Entry} (below : ∀ x ∈ l, x.id ≤ k) : nextEntry k l = none := by
  have empty : l.filter (fun e => decide (k < e.id)) = [] := by
    simpa [List.filter_eq_nil_iff] using below
  simp only [nextEntry, empty]

/-- NEXT finds the entry with the smallest ID above k, where there is one (R46). -/
theorem nextEntry_spec {k : Nat} {l : List Entry} (some : ∃ x ∈ l, k < x.id) :
    ∃ e ∈ l, k < e.id ∧ (∀ x ∈ l, k < x.id → e.id ≤ x.id) ∧ nextEntry k l = .some e := by
  obtain ⟨x, hx, above⟩ := some
  have mem (y : Entry) : y ∈ l.filter (fun e => decide (k < e.id)) ↔ y ∈ l ∧ k < y.id := by simp
  cases kept : l.filter (fun e => decide (k < e.id)) with
  | nil => exact absurd ((mem x).mpr ⟨hx, above⟩) (by simp [kept])
  | cons e r =>
    obtain ⟨found, least⟩ := foldl_lowerId e r
    rw [← kept] at found least
    obtain ⟨stands, beyond⟩ := (mem _).mp found
    exact ⟨_, stands, beyond, fun y hy hk => least y ((mem y).mpr ⟨hy, hk⟩), by simp only [nextEntry, kept]; rfl⟩

theorem seekEntry_eq_none {mode : ReadMode} {id : Nat} {l : List Entry}
    (absent : ∀ x ∈ l, if mode = .exact then x.id ≠ id else x.id ≤ id) : seekEntry mode id l = none := by
  cases mode with
  | exact => exact List.find?_eq_none.mpr fun x hx => by simpa using absent x hx
  | next => exact nextEntry_eq_none fun x hx => by simpa using absent x hx

/-! ## Bookings, occurrences, antennas (R78, R145, R173) -/

theorem State.withTx_undefined {s : State} {number position : Nat} {n : TxId} {f : TxId → Answer}
    (item : itemOf 16 number = some n) (undefined : s.txDefined n = false) :
    s.withTx number position f = s.refused .noSuch number := by simp [State.withTx, item, undefined]

theorem State.withTx_defined {s : State} {number position : Nat} {n : TxId} {f : TxId → Answer}
    (item : itemOf 16 number = some n) (defined : s.txDefined n = true) : s.withTx number position f = f n := by
  simp [State.withTx, item, defined]

theorem State.withAnt_range {s : State} {number : Nat} {f : AntId → AntRun → Answer} (outside : itemOf 40 number = none) :
    s.withAnt number f = s.refused .range 1 := by simp [State.withAnt, outside]

theorem State.withAnt_undefined {s : State} {number : Nat} {a : AntId} {f : AntId → AntRun → Answer}
    (item : itemOf 40 number = some a) (undefined : s.antDefined a = false) :
    s.withAnt number f = s.refused .noSuch number := by simp [State.withAnt, item, undefined]

theorem State.withAnt_defined {s : State} {number : Nat} {a : AntId} {r : AntRun} {f : AntId → AntRun → Answer}
    (item : itemOf 40 number = some a) (defined : s.antDefined a = true) (run : s.run a = some r) :
    s.withAnt number f = f a r := by simp [State.withAnt, item, defined, run]

/-- The held moves that wait for room alone (R145). -/
theorem State.waitingForRoom_full {s : State} (full : 32 ≤ s.swb.queue.length) :
    s.waitingForRoom = (s.amx.held.filter fun h =>
      (decide (s.txs.hall = .surveying) || decide (s.txs.hall = .running) || decide (s.txs.hall = .halting)) &&
      !(s.pos h.act).isTravelling && s.interlock h.act h.place).length := by
  simp only [State.waitingForRoom, Nat.not_lt.mpr full, if_false, State.hallRuns, Bool.or_assoc]

end Sys2Proof.Machine

namespace Sys2Proof.Proofs
open Sys2Proof Sys2Proof.Machine Sys2Proof.Claims

/-- R17: READ-TX-DEF and READ-ANT-DEF. -/
theorem readTxDef_and_readAntDef (s : State) (port : Port) (tag : Byte) (number : Nat) (free : portFree port s) :
    exec (.readTxDef port tag 0) s =
      .next (replied port tag 0x04 (.accepted (.hallDef s.hds.hall s.effectiveGroups s.hds.zones)) s) ∧
    (∀ n d, itemOf 16 number = some n → s.txDef n = some d → exec (.readTxDef port tag number) s =
      .next (replied port tag 0x04
        (.accepted (.txDef number d ((s.hds.staticMin[n]).getD 0) (s.groupOf n) [])) s)) ∧
    (∀ n, itemOf 16 number = some n → s.txDef n = none →
      exec (.readTxDef port tag number) s = .next (replied port tag 0x04 (.refused .noSuch number) s)) ∧
    (16 < number → exec (.readTxDef port tag number) s = .next (replied port tag 0x04 (.refused .range 1) s)) ∧
    (∀ a d, itemOf 40 number = some a → s.antDef a = some d → exec (.readAntDef port tag number) s =
      .next (replied port tag 0x05 (.accepted (.antDef number d (decide (2 ≤ d.beams)) (s.hds.zones[d.zone]).inUse)) s)) ∧
    (∀ a, itemOf 40 number = some a → s.antDef a = none →
      exec (.readAntDef port tag number) s = .next (replied port tag 0x05 (.refused .noSuch number) s)) ∧
    (number = 0 ∨ 40 < number →
      exec (.readAntDef port tag number) s = .next (replied port tag 0x05 (.refused .range 1) s)) := by
  refine ⟨exec_read (.readTxDef 0) rfl free rfl s.reqReadTxDef_hall, fun n d item defined => ?_,
    fun n item undefined => exec_read (.readTxDef number) rfl free rfl (State.reqReadTxDef_undefined item undefined),
    fun above => exec_read (.readTxDef number) rfl free rfl (State.reqReadTxDef_range above),
    fun a d item defined => exec_read (.readAntDef number) rfl free rfl (State.reqReadAntDef_defined item defined),
    fun a item undefined => exec_read (.readAntDef number) rfl free rfl (State.reqReadAntDef_undefined item undefined),
    fun outside => exec_read (.readAntDef number) rfl free rfl (State.reqReadAntDef_range outside)⟩
  rw [← itemOf_eq_some.mp item]
  exact exec_read (.readTxDef (num n)) rfl free rfl (State.reqReadTxDef_defined (itemOf_eq_some.mpr rfl) defined)

/-- R46: READ-ENTRY of a bank, over its entries l and what it shows of an ACTIVE entry. -/
theorem readEntry_reads (s : State) (port : Port) (tag : Byte) (free : portFree port s) (bank : BankSel) :
    let l := s.bankEntries bank
    let marks := s.activeMarks bank
    let reads (id : Nat) (mode : ReadMode) (r : Result) : Prop :=
      exec (.readEntry port tag bank id mode) s = .next (replied port tag 0x13 r s)
    reads 0 .exact (.refused .range 2) ∧
    (∀ id mode, 65535 < id → reads id mode (.refused .range 2)) ∧
    (∀ id mode, id ≤ 65535 → (id ≠ 0 ∨ mode = .next) → (∀ x ∈ l, if mode = .exact then x.id ≠ id else x.id ≤ id) →
      reads id mode (.refused .noSuch id)) ∧
    (∀ id e, 0 < id → id ≤ 65535 → l.find? (fun x => decide (x.id = id)) = some e →
      reads id .exact (.accepted (.entry e (positionOf id l) (marks id)))) ∧
    ∀ id, id ≤ 65535 → (∃ x ∈ l, id < x.id) →
      ∃ e ∈ l, id < e.id ∧ (∀ x ∈ l, id < x.id → e.id ≤ x.id) ∧
        reads id .next (.accepted (.entry e (positionOf e.id l) (marks e.id))) := by
  dsimp only
  refine ⟨exec_read (.readEntry bank 0 .exact) rfl free rfl (State.reqReadEntry_range (.inr ⟨rfl, rfl⟩)),
    fun id mode above => exec_read (.readEntry bank id mode) rfl free rfl (State.reqReadEntry_range (.inl above)),
    fun id mode word range absent => ?_, fun id e positive word found => ?_, fun id word above => ?_⟩
  · have answer := State.reqReadEntry_inRange (s := s) (bank := bank) word range
    rw [seekEntry_eq_none absent] at answer
    exact exec_read (.readEntry bank id mode) rfl free rfl answer
  · have answer := State.reqReadEntry_inRange (s := s) (bank := bank) (mode := .exact) word (.inl (by omega))
    have same : e.id = id := by simpa using List.find?_some found
    rw [show seekEntry .exact id (s.bankEntries bank) = some e from found] at answer
    subst same
    exact exec_read (.readEntry bank _ .exact) rfl free rfl answer
  · obtain ⟨e, mem, beyond, least, found⟩ := nextEntry_spec above
    have answer := State.reqReadEntry_inRange (s := s) (bank := bank) (mode := .next) word (.inr rfl)
    rw [show seekEntry .next id (s.bankEntries bank) = some e from found] at answer
    exact ⟨e, mem, beyond, least, exec_read (.readEntry bank id .next) rfl free rfl answer⟩

/-- Settles O40: each READ request is served by its block, which answers what it holds. -/
theorem requestsReadTheStateBack : Obligations.RequestsReadTheStateBack := by
  refine ⟨readTxDef_and_readAntDef, ⟨fun s port tag free => ?_, fun s port tag free => ?_⟩, fun s port tag number free => ?_⟩
  · refine ⟨exec_read .readBanks rfl free rfl rfl, exec_read .readConflicts rfl free rfl rfl, fun bank => ?_⟩
    cases bank with
    | staged => exact readEntry_reads s port tag free .staged
    | active =>
      have reads := readEntry_reads s port tag free .active
      dsimp only [State.bankEntries, State.activeMarks] at reads ⊢
      cases live : s.sch.active with
      | none => rw [live] at reads; exact reads
      | some b => rw [live] at reads; exact reads
  · refine ⟨exec_read .readBookings rfl free rfl rfl, fun number n item => ⟨fun undefined => ?_, fun defined => ?_⟩⟩
    · exact exec_read (.readOccurrence number) rfl free rfl (State.withTx_undefined item undefined)
    · exact exec_read (.readOccurrence number) rfl free rfl (State.withTx_defined item defined)
  · refine ⟨fun outside => ?_, fun a item undefined => ?_, fun a r item defined run => ?_, s.waitingForRoom,
      exec_read .readMatrix rfl free rfl rfl, fun room => if_pos room, State.waitingForRoom_full⟩
    · exact exec_read (.readAnt number) rfl free rfl (State.withAnt_range outside)
    · exact exec_read (.readAnt number) rfl free rfl (State.withAnt_undefined item undefined)
    · exact exec_read (.readAnt number) rfl free rfl (State.withAnt_defined item defined run)

end Sys2Proof.Proofs
end

section
/-! PROOFS. Power-on and the state of reset (R18, R27, R36, R59, R79, R80, R105, R106, R126, R155, R161, R192). -/

namespace Sys2Proof.Machine
open Sys2Proof Sys2Proof.Claims

/-! ## The power-on values -/

theorem Timers.stopped_get (ch : ChanId) : Timers.stopped.get ch = .stopped := by
  cases ch with
  | tx n c => cases c <;> simp [Timers.get, Timers.stopped, TxTimers.stopped, TxTimers.get]
  | travel act => cases act <;> simp [Timers.get, Timers.stopped]
  | busAnswer => rfl
  | gap port => cases port <;> rfl
  | sync => rfl

/-- A port that holds nothing but a queue of notices (R187, R191). -/
def State.portsIdle (t : State) : Prop :=
  ∀ port, (t.port port).rx.state = .hunt ∧ (t.port port).waiting = none ∧ (t.port port).slot = none ∧
    (t.port port).discards = 0

/-- The blocks hold their power-on values, whatever the hall state, the input levels and the notice queues. -/
structure State.BlocksPowered (t : State) : Prop where
  hds : t.hds = .powerOn
  clk : t.clk = .powerOn
  tim : t.tim = .stopped
  snaps : t.snaps = Vector.replicate 16 none
  sch : t.sch = .powerOn
  csq : t.csq = .powerOn
  ctx : t.txs.ctx = Vector.replicate 16 .powerOn
  survey : t.txs.survey = none
  amx : t.amx = .powerOn
  swb : t.swb = .powerOn
  rfp : t.rfp = .initial
  ports : t.portsIdle

namespace State.BlocksPowered

variable {t : State} (p : t.BlocksPowered)
include p

theorem txDef_eq (n : TxId) : t.txDef n = none := by simp [State.txDef, p.hds, Hds.powerOn]

theorem ctx_eq (n : TxId) : t.ctx n = .powerOn := by simp [State.ctx, p.ctx]

theorem plan_eq (n : TxId) : t.plan n = none := by simp [State.plan, p.csq, Csq.powerOn]

theorem occ_eq (n : TxId) : t.occ n = ⟨none, none⟩ := by simp [State.occ, p.sch, Sch.powerOn]

theorem prot_eq (n : TxId) : t.prot n = .initial := by simp [State.prot, p.rfp, Rfp.initial]

theorem chan_eq (ch : ChanId) : t.chan ch = .stopped := by rw [State.chan, p.tim, Timers.stopped_get]

theorem antDef_eq (a : AntId) : t.antDef a = none := by simp [State.antDef, p.hds, Hds.powerOn]

theorem run_eq (a : AntId) : t.run a = none := by simp [State.run, p.amx, Amx.powerOn]

theorem trips_eq (a : AntId) : t.trips a = [] := by simp [State.trips, p.rfp, Rfp.initial]

theorem entry_eq (act : ActId) : t.entry act = none := by cases act <;> simp [State.entry, p.swb, Swb.powerOn]

theorem pos_eq (act : ActId) : t.pos act = .unknown := by cases act <;> simp [State.pos, p.amx, Amx.powerOn]

/-- Blocks at their power-on values show each value that the rules name. -/
theorem poweredUp : poweredUp t := by
  refine ⟨fun n => ?_, p.chan_eq, ?_⟩
  · rw [p.ctx_eq, p.prot_eq, p.hds, p.csq, p.snaps]
    exact ⟨p.txDef_eq n, rfl, rfl, rfl, rfl, rfl, rfl, rfl, rfl, rfl, rfl, rfl, rfl, rfl, rfl, rfl, p.plan_eq n,
      by simp [Csq.powerOn], p.occ_eq n, by simp, rfl, rfl, rfl, rfl, rfl, rfl, rfl, by simp [Hds.powerOn], rfl, rfl, rfl,
      rfl, rfl⟩
  · rw [p.hds, p.clk, p.sch, p.amx, p.swb, p.survey]
    exact ⟨rfl, rfl, rfl, rfl, fun g => by simp [Hds.powerOn, HallDef.default],
      fun z => by simp [Hds.powerOn, Amx.powerOn], fun a => ⟨p.antDef_eq a, p.run_eq a, p.trips_eq a⟩,
      fun act => ⟨p.entry_eq act, p.pos_eq act⟩, rfl, rfl, rfl, rfl, rfl, rfl, rfl, rfl, rfl, rfl, rfl, rfl, rfl, rfl, rfl,
      rfl, rfl, rfl, rfl, rfl, rfl, rfl, rfl, rfl, rfl, p.ports⟩

/-! ## The power-on values meet what every step keeps -/

theorem protLegal : protLegal t := fun n => by simp [p.prot_eq, Prot.initial, p.txDef_eq]

theorem claimsLegal : claimsLegal t :=
  ⟨fun a r h => by simp [p.run_eq] at h, fun a b o q h => by simp [State.owner, p.run_eq] at h⟩

theorem schLegal : schLegal t.sch := by
  rw [p.sch]
  simp [Sys2Proof.Claims.schLegal, bankLegal, Sch.powerOn, StagedBank.emptyBank]

end State.BlocksPowered

theorem clockLegal_powerOn : clockLegal Clock.powerOn := by simp [clockLegal, Clock.powerOn]

/-- A power-on with the EMERGENCY line released leaves every block at its power-on values (R18). -/
theorem State.fresh_blocksPowered (s : State) : s.fresh.BlocksPowered :=
  ⟨rfl, rfl, rfl, rfl, rfl, rfl, rfl, rfl, rfl, rfl, rfl, fun port => by cases port <;> exact ⟨rfl, rfl, rfl, rfl⟩⟩

/-- A change of hall state leaves the blocks as they are (R192). -/
theorem State.BlocksPowered.toHall {t : State} (p : t.BlocksPowered) (h : HallState) (c : HallCause) :
    (t.toHall h c).BlocksPowered :=
  ⟨p.hds, p.clk, p.tim, p.snaps, p.sch, p.csq, p.ctx, p.survey, p.amx, p.swb, p.rfp, fun port => by
    have idle := p.ports port
    cases port <;> exact idle⟩

theorem State.poweredOn_blocksPowered (s : State) : s.poweredOn.BlocksPowered := by
  rw [State.poweredOn_eq]
  split
  · exact s.fresh_blocksPowered.toHall _ _
  · exact s.fresh_blocksPowered

end Sys2Proof.Machine

namespace Sys2Proof.Proofs
open Sys2Proof Sys2Proof.Machine Sys2Proof.Claims

/-- Settles O59: a power-on leaves the blocks of `State.reset`, and with the EMERGENCY line asserted it goes on to EMERGENCY. -/
theorem powerOnLeavesTheResetValues : Obligations.PowerOnLeavesTheResetValues := by
  have reset : State.reset.BlocksPowered := State.reset.fresh_blocksPowered
  refine ⟨reset.poweredUp, rfl, rfl, clockLegal_powerOn, hdsLegal_powerOn, reset.protLegal, reset.schLegal,
    reset.claimsLegal, fun port => ?_, by decide, fun s => ⟨s.poweredOn, rfl, s.poweredOn_blocksPowered.poweredUp, ?_,
    fun released => ?_, fun asserted => ?_⟩⟩
  · cases port <;> simp [queueLegal, State.port, State.reset, Lnk.powerOn, PortState.powerOn]
  · exact (congrArg Still.pins s.poweredOn_still).trans rfl
  · rw [State.poweredOn_eq, released]
    exact ⟨rfl, fun port => by cases port <;> rfl⟩
  · rw [State.poweredOn_eq, asserted]
    exact ⟨rfl, fun port => by cases port <;> rfl⟩

end Sys2Proof.Proofs
end

section
/-! PROOFS. What a change of the hall description does to the banks, and what it leaves alone (R15, R16); DEFINE-HALL (R12). -/

namespace Sys2Proof.Machine
open Sys2Proof Sys2Proof.Claims

/-- A view that an operation keeps at each item is kept over a list of items. -/
theorem State.each_view {α β : Type} (view : State → β) (l : List α) {f : α → State → State}
    (h : ∀ x t, view (f x t) = view t) (s : State) : view (s.each l f) = view s := by
  unfold State.each
  induction l generalizing s with
  | nil => rfl
  | cons x l ih => rw [List.foldl_cons, ih, h]

/-- A view that an operation keeps for each transmitter is kept over all of them. -/
theorem State.eachTx_view {β : Type} (view : State → β) {f : TxId → State → State}
    (h : ∀ x t, view (f x t) = view t) (s : State) : view (s.eachTx f) = view s := State.each_view view allTx h s

/-! ## What a sweep and a changeover leave alone -/

/-- The state with the banks, the occurrence records and the notices blanked: what a sweep and a changeover leave alone. -/
def State.besideBanks (s : State) : State :=
  { s with
    sch := { s.sch with active := none, staged := .emptyBank, arming := .disarmed, lastGen := 0, occ := Sch.powerOn.occ }
    lnk := .powerOn }

@[simp] theorem State.post_besideBanks (nt : Notice) (s : State) : (s.post nt).besideBanks = s.besideBanks := by
  simp only [State.post, State.besideBanks]

@[simp] theorem State.setStatus_besideBanks (n : TxId) (id : TargetId) (st : OccStatus) (s : State) :
    (s.setStatus n id st).besideBanks = s.besideBanks := by
  simp only [State.setStatus, State.updOcc, State.besideBanks]

@[simp] theorem State.recordDone_besideBanks (n : TxId) (id : TargetId) (why : DoneReason) (s : State) :
    (s.recordDone n id why).besideBanks = s.besideBanks := by
  simp only [State.recordDone]; repeat' split
  all_goals simp

@[simp] theorem State.updStaged_besideBanks (f : StagedBank → StagedBank) (s : State) :
    (s.updStaged f).besideBanks = s.besideBanks := by
  simp only [State.updStaged, State.besideBanks]

@[simp] theorem State.endGeneration_besideBanks (old : Nat) (n : TxId) (s : State) :
    (s.endGeneration old n).besideBanks = s.besideBanks :=
  State.each_view State.besideBanks _ (fun id t => t.recordDone_besideBanks n id .changeover) s

@[simp] theorem State.promote_besideBanks (src : Trigger) (s : State) : (s.promote src).besideBanks = s.besideBanks := by
  simp only [State.promote]
  split
  · rw [State.eachTx_view State.besideBanks fun n u => u.endGeneration_besideBanks _ n, State.post_besideBanks]
    simp only [State.besideBanks]
  · rw [State.post_besideBanks]; simp only [State.besideBanks]

@[simp] theorem State.trigger_besideBanks (src : Trigger) (s : State) : (s.trigger src).besideBanks = s.besideBanks := by
  unfold State.trigger
  split
  · simp
  · rw [State.post_besideBanks]; simp only [State.besideBanks]

@[simp] theorem State.sweepEnds_besideBanks (s : State) : s.sweepEnds.besideBanks = s.besideBanks := by
  unfold State.sweepEnds
  extract_lets b out t
  have posted : t.besideBanks = s.besideBanks := by rw [State.post_besideBanks, State.updStaged_besideBanks]
  split <;> simp [posted]

@[simp] theorem State.restartSweep_besideBanks (s : State) : s.restartSweep.besideBanks = s.besideBanks := by
  simp only [State.restartSweep, State.sweepBegins]; repeat' split
  all_goals simp

/-- A change of the description reaches SCH and the notices alone. -/
@[simp] theorem State.tellSch_besideBanks (s : State) : s.tellSch.besideBanks = s.besideBanks :=
  calc s.tellSch.besideBanks = s.restartSweep.besideBanks := by simp only [State.tellSch, State.besideBanks]
    _ = s.besideBanks := s.restartSweep_besideBanks

theorem State.recomputeMinima_besideBanks (s : State) :
    s.recomputeMinima.besideBanks = { s.besideBanks with hds := s.recomputeMinima.hds } := by
  simp only [State.recomputeMinima, State.besideBanks]

/-! ## What the banks become (R15, R16) -/

/-- The banks follow a change of the description. -/
theorem banksFollow_tellSch {s u : State} (staged : u.sch.staged = s.sch.staged) (active : u.sch.active = s.sch.active) :
    banksFollow s u.tellSch := by
  refine ⟨fun resting => ?_, fun swept entries => ?_⟩
  · have still : u.restartSweep = u := by
      unfold State.restartSweep
      rw [if_neg]
      rw [staged]
      rcases resting with h | h | h <;> simp [h]
    simp only [State.tellSch, still, staged, active, and_self]
  · have restarts : u.restartSweep = u.updStaged fun b => { b with
        state := .validating, pass := 1, position := 1, conflicts := [], overflow := 0, willClamp := 0, tight := 0
        standing := .inProgress } := by
      unfold State.restartSweep State.sweepBegins
      rw [staged, if_pos swept.symm, if_neg (by simpa using entries)]
    simp only [State.tellSch, restarts, State.updStaged, staged, active, and_self]

theorem banksFollow_replied {s t : State} (h : banksFollow s t) (port : Port) (tag kind : Byte) (res : Result) :
    banksFollow s (replied port tag kind res t) := by
  have sch : (replied port tag kind res t).sch = t.sch := by simp only [replied, State.updPort_sch]
  simp only [banksFollow, sch]
  exact h

/-! ## DEFINE-HALL (R12) -/

theorem State.storeHall_besideBanks (d : HallDef) (s : State) :
    (s.storeHall d).besideBanks = { s.besideBanks with hds := { s.hds with hall := d } } :=
  State.tellSch_besideBanks _

end Sys2Proof.Machine

namespace Sys2Proof.Proofs
open Sys2Proof Sys2Proof.Machine Sys2Proof.Claims

/-- Settles O12, by the three answers of the request: an accepted record reaches SCH alone, whose banks follow it. -/
theorem defineHallStoresTheRecord : Obligations.DefineHallStoresTheRecord := by
  intro s tag f free halted
  have answers (res : Answer) (h : s.reqDefineHall f = res) :
      exec (.defineHall .a tag f) s = .next (replied .a tag 0x03 res.res res.st) :=
    exec_request (.defineHall f) rfl free (s.permitted_a _) h
  refine ⟨fun k bad => answers (s.refused .range k) ?_, fun k fits shared => answers (s.refused .conflict k) ?_,
    fun fits apart => ?_⟩
  · simp only [State.reqDefineHall, halted, if_true, bad]
  · simp only [State.reqDefineHall, halted, if_true, fits, shared]
  · have beside := s.storeHall_besideBanks (hallRecord f)
    have accepted : s.reqDefineHall f = (s.storeHall (hallRecord f)).ok
        (.hallStored (hallRecord f) (s.storeHall (hallRecord f)).effectiveGroups) := by
      simp only [State.reqDefineHall, halted, if_true, fits, apart]
    refine ⟨_, answers _ accepted, ⟨_, rfl, rfl, rfl⟩, (congrArg State.hds beside :), (congrArg State.txs beside :),
      (congrArg State.amx beside :), (congrArg State.swb beside :), (congrArg State.rfp beside :),
      (congrArg State.csq beside :), (congrArg State.clk beside :), (congrArg State.tim beside :),
      (congrArg State.snaps beside :), (congrArg (fun t => t.sch.bookings) beside :), ?_⟩
    exact banksFollow_replied (banksFollow_tellSch (u := { s with hds := { s.hds with hall := hallRecord f } }) rfl rfl) ..

end Sys2Proof.Proofs
end

section
/-! PROOFS. The checks of an entry, the recheck of the ACTIVE bank, and what an overlap is (R16, R48, R49, R175). -/

namespace Sys2Proof.Machine
open Sys2Proof Sys2Proof.Claims

/-! ## The pass-1 checks (R48) -/

theorem inBand_iff (low high f : Nat) : inBand low high f = true ↔ low ≤ f ∧ f ≤ high := by simp [inBand]

theorem Header.holds_iff (h : Header) (o : Option Nat) : h.holds o = true ↔ ∀ x ∈ o, h.first ≤ x ∧ x ≤ h.last := by
  cases o <;> simp [Header.holds]

/-- The day check alone: the answer of an entry whose other checks pass. -/
theorem daysFault_eq (h : Header) (e : Entry) :
    (if h.holds e.firstDay && h.holds e.lastDay then none else some ConflictKind.days) =
      if (∀ x ∈ e.firstDay, h.first ≤ x ∧ x ≤ h.last) ∧ (∀ x ∈ e.lastDay, h.first ≤ x ∧ x ≤ h.last) then none
      else some .days := by
  simp only [Bool.and_eq_true, Header.holds_iff]

/-- An entry whose transmitter is defined: the first of the path's fault and the days' fault. -/
theorem State.entryFault_defined {s : State} {e : Entry} {d : TxDef} (defined : s.txDef e.tx = some d) (h : Header) :
    s.entryFault h e = (s.pathFault e.tx d e.freq e.path e.beam).or
      (if h.holds e.firstDay && h.holds e.lastDay then none else some .days) := by
  simp only [State.entryFault, defined]
  cases s.pathFault e.tx d e.freq e.path e.beam <;> rfl

/-- The faults of a path to an antenna, in their order. -/
theorem State.pathFault_antenna {s : State} {a : AntId} {r : AntDef} (defined : s.antDef a = some r) (n : TxId) (d : TxDef)
    (freq beam : Nat) : s.pathFault n d freq (some a) beam =
      if n ∉ r.reach then some .notInReach
      else if ¬ (d.bandLow ≤ freq ∧ freq ≤ d.bandHigh) then some .txBand
      else if ¬ (r.bandLow ≤ freq ∧ freq ≤ r.bandHigh) then some .antBand
      else if ¬ beam < r.beams then some .beam
      else none := by
  simp only [State.pathFault, defined, List.contains_iff_mem, Bool.not_eq_true', ← Bool.not_eq_true, inBand_iff, not_lt]

/-! ## The recheck (R16, R175) -/

/-- A recheck that is due, of an ACTIVE bank whose flag is set. -/
theorem State.recheckBank_due {s : State} {b : ActiveBank} (due : s.sch.recheckDue = true) (active : s.sch.active = some b)
    (flagged : b.recheck = true) : s.recheckBank = { s with
      sch := { s.sch with active := some (s.rechecked b), recheckDue := false }
      txs := { s.txs with survey := s.txs.survey.map fun q =>
        { q with recheckDone := true, disabled := (s.rechecked b).disabled } } } := by
  simp only [State.recheckBank, due, active, flagged, if_true, Option.map_some]

/-! ## Overlaps (R49) -/

/-- An entry is within its days on those from its first to its last day (R49), in a season that ends before day 65535. -/
theorem Entry.inDays_iff {h : Header} (short : h.last < 65535) (e : Entry) (d : Nat) :
    e.inDays h d = true ↔ e.low h ≤ d ∧ d ≤ e.high h := by
  simp only [Entry.inDays, Entry.low, Entry.high, Bool.and_eq_true, decide_eq_true_eq]
  cases e.firstDay <;> cases e.lastDay <;>
    simp only [fromDay, toDay, decide_eq_true_eq, Option.getD_none, Option.getD_some, le_min_iff, max_le_iff, and_true] <;> omega

theorem Entry.validOn_iff {h : Header} (short : h.last < 65535) (e : Entry) (offset d : Nat) :
    e.validOn h offset d = true ↔ e.onWeekday ((d + offset) % 7) = true ∧ e.low h ≤ d ∧ d ≤ e.high h := by
  rw [Entry.validOn, Bool.and_eq_true, Entry.inDays_iff short]

theorem Entry.weekdaysWith_iff (e f : Entry) (k : Nat) :
    e.weekdaysWith f k = true ↔ ∃ w < 7, e.onWeekday w = true ∧ f.onWeekday ((w + k) % 7) = true := by
  simp [Entry.weekdaysWith]

/-- The two entries' occurrences intersect where the second starts k days after the first: the same for every first day. -/
def Entry.clashes (k : Nat) (e f : Entry) : Prop :=
  e.start * 60 < k * 86400 + f.start * 60 + f.duration * 60 ∧ k * 86400 + f.start * 60 < e.start * 60 + e.duration * 60

theorem Entry.clashes_iff (e f : Entry) (k d : Nat) :
    e.startOn d < f.endOn (d + k) ∧ f.startOn (d + k) < e.endOn d ↔ e.clashes k f := by
  simp only [Entry.clashes, Entry.endOn, Entry.startOn, Nat.add_mul, Nat.add_assoc, Nat.add_lt_add_iff_left]

theorem Entry.meetsAfter_iff_clashes {h : Header} (short : h.last < 65535) (e f : Entry) (k : Nat) :
    e.meetsAfter h k f = true ↔ e.clashes k f ∧ e.weekdaysWith f k = true ∧
      max (e.low h + k) (f.low h) ≤ min (e.high h + k) (f.high h) := by
  have season : e.high h ≠ 65535 := by unfold Entry.high; omega
  simp [Entry.meetsAfter, intersects, Entry.clashes, season]

/-- An occurrence of f that starts k days after one of e intersects it: the model's test finds exactly this. -/
theorem Entry.meetsAfter_iff {h : Header} (short : h.last < 65535) (e f : Entry) (k : Nat) :
    e.meetsAfter h k f = true ↔ ∃ offset d, offset < 7 ∧ e.validOn h offset d = true ∧ f.validOn h offset (d + k) = true ∧
      e.startOn d < f.endOn (d + k) ∧ f.startOn (d + k) < e.endOn d := by
  simp only [Entry.meetsAfter_iff_clashes short, Entry.clashes_iff, Entry.validOn_iff short, Entry.weekdaysWith_iff]
  constructor
  · rintro ⟨clash, ⟨w, hw, one, other⟩, days⟩
    have least : k ≤ max (e.low h + k) (f.low h) := by omega
    obtain ⟨d, first⟩ := Nat.exists_eq_add_of_le' least
    have today : (d + (w + 6 * d) % 7) % 7 = w := by omega
    have later : (d + k + (w + 6 * d) % 7) % 7 = (w + k) % 7 := by omega
    refine ⟨(w + 6 * d) % 7, d, by omega, ⟨by rwa [today], ?_, ?_⟩, ⟨by rwa [later], ?_, ?_⟩, clash⟩ <;> omega
  · rintro ⟨offset, d, _, ⟨one, low, high⟩, ⟨other, low', high'⟩, clash⟩
    have later : ((d + offset) % 7 + k) % 7 = (d + k + offset) % 7 := by omega
    exact ⟨clash, ⟨(d + offset) % 7, by omega, one, later ▸ other⟩, by omega⟩

/-- Two occurrences that intersect start on the same day or on neighbouring days. -/
theorem Entry.days_near {e f : Entry} (start : e.start < 1440) (duration : e.duration ≤ 1440) {d d' : Nat}
    (meets : f.startOn d' < e.endOn d) : d' ≤ d + 1 := by
  unfold Entry.endOn Entry.startOn at meets; omega

end Sys2Proof.Machine

namespace Sys2Proof.Proofs
open Sys2Proof Sys2Proof.Machine Sys2Proof.Claims

/-- Settles O19, by the checks in their order, the recheck's one case, and the three day distances at which two occurrences can
intersect. -/
theorem entriesAreCheckedAndOverlapsFound : Obligations.EntriesAreCheckedAndOverlapsFound := by
  refine ⟨⟨fun s h e => ?_, fun s => ⟨fun idle => ?_, fun b due active flagged => ?_⟩⟩, fun h e f short es fs _ _ ed fd => ?_⟩
  · cases defined : s.txDef e.tx with
    | none => simp only [State.entryFault, defined]
    | some d =>
      rw [State.entryFault_defined defined, daysFault_eq]
      cases e.path with
      | none => simp only [State.pathFault, inBand_iff]; split <;> rfl
      | some a =>
        cases path : s.antDef a with
        | none => simp only [State.pathFault, path]; rfl
        | some r => rw [State.pathFault_antenna path]; simp only [path]; split_ifs <;> rfl
  · show Host.Outcome.next s.recheckBank = .next s
    rw [State.recheckBank, idle, if_neg Bool.false_ne_true]
  · refine ⟨s.recheckBank, rfl, ?_⟩
    rw [State.recheckBank_due due active flagged]
    refine ⟨rfl, rfl, fun q survey => ?_, rfl, rfl, rfl, rfl, rfl, rfl, rfl, rfl⟩
    simp only [survey, Option.map_some, State.rechecked, ActiveBank.disabled, List.filter_map, List.length_map]
    rfl
  · simp only [Entry.overlaps, Bool.or_eq_true, Entry.meetsAfter_iff short]
    constructor
    · rintro ((⟨o, d, ho, he, hf, meet⟩ | ⟨o, d, ho, he, hf, meet⟩) | ⟨o, d, ho, hf, he, meet⟩)
      · exact ⟨o, d, d + 0, ho, he, hf, meet⟩
      · exact ⟨o, d, d + 1, ho, he, hf, meet⟩
      · exact ⟨o, d + 1, d, ho, he, hf, meet.symm⟩
    · rintro ⟨o, d, d', ho, he, hf, before, after⟩
      have near := Entry.days_near es ed after
      have near' := Entry.days_near fs fd before
      obtain rfl | rfl | rfl : d' = d ∨ d' = d + 1 ∨ d = d' + 1 := by omega
      · exact .inl (.inl ⟨o, d', ho, he, hf, before, after⟩)
      · exact .inl (.inr ⟨o, d, ho, he, hf, before, after⟩)
      · exact .inr ⟨o, d', ho, hf, he, after, before⟩

end Sys2Proof.Proofs
end

section
/-! PROOFS. The outline of a state: the parts that the causes of CSQ, the orders of TXS and the answers of AMX and SWB leave alone
(the clock to the millisecond, the banks, which actuators and antennas have records, trip lists, recorded positions, the state of
each hall line), with one frame lemma for each operation. -/

namespace Sys2Proof.Machine
open Sys2Proof Sys2Proof.Claims

/-! ## Views -/

/-- The standing of each hall line and its last STATE report: what no operation of the blocks changes but a line loss, a
restoration and the digest of a STATE report. -/
structure LineView where
  up : TxId → Bool
  last : TxId → Option StateReport

/-- What an order asked of TXS, a query answer and a move asked of AMX leave alone. -/
structure CoreView where
  lines : LineView
  clk : Clock
  active : Option ActiveBank
  staged : StagedBank
  defined : ActId → Bool
  runs : AntId → Bool
  trips : Vector (List (TxId × Nat)) 40
  rowPos : Vector Pos 16
  selPos : Vector Pos 40
  beamPos : Vector Pos 40

/-- The orders of a hall line, its RF condition and its source. -/
structure OrderView where
  outstanding : Option Outstanding
  deferred : Option Deferred
  owed : Bool
  rf : Rf
  source : Source

/-- What a cause of R121 leaves alone: an UNKNOWN context keeps its cause, and no channel but a recycle delay stops. -/
structure Outline where
  core : CoreView
  orders : TxId → OrderView
  unknown : TxId → Option (Option FaultCause)
  chan : TxId → TxChan → Chan

/-- The orders of a context. -/
def Ctx.orders (c : Ctx) : OrderView := ⟨c.outstanding, c.deferred, c.owed, c.rf, c.source⟩

/-- The cause of a context that is UNKNOWN. -/
def Ctx.unknownCause (c : Ctx) : Option (Option FaultCause) := if c.state = .unknown then some c.cause else none

/-- A channel of a transmitter other than its recycle delay. -/
def TxTimers.work (t : TxTimers) (c : TxChan) : Chan := if c = .recycle then .stopped else t.get c

/-- The outline of a state. -/
def State.outline (s : State) : Outline where
  core :=
    { lines := ⟨fun n => (s.ctx n).lineUp, fun n => (s.ctx n).last⟩
      clk := s.clk
      active := s.sch.active
      staged := s.sch.staged
      defined := fun act => (s.entry act).isSome
      runs := fun a => (s.run a).isSome
      trips := s.rfp.trips
      rowPos := s.amx.rowPos
      selPos := s.amx.selPos
      beamPos := s.amx.beamPos }
  orders := fun n => (s.ctx n).orders
  unknown := fun n => (s.ctx n).unknownCause
  chan := fun n => (s.tim.tx[n]).work

/-! ## The record updates -/

theorem State.updCtx_view {β : Type} (g : Ctx → β) {n : TxId} {f : Ctx → Ctx} {s : State} (h : g (f (s.ctx n)) = g (s.ctx n)) :
    (fun m => g ((s.updCtx n f).ctx m)) = fun m => g (s.ctx m) := by
  funext m
  by_cases same : m = n
  · subst same; rw [State.updCtx_ctx, h]
  · rw [State.updCtx_ctx_ne n m same]

/-- A change of a context that keeps what the outline shows of it. -/
theorem State.updCtx_outline {n : TxId} {f : Ctx → Ctx} {s : State}
    (line : (f (s.ctx n)).lineUp = (s.ctx n).lineUp ∧ (f (s.ctx n)).last = (s.ctx n).last)
    (orders : (f (s.ctx n)).orders = (s.ctx n).orders) (cause : (f (s.ctx n)).unknownCause = (s.ctx n).unknownCause) :
    (s.updCtx n f).outline = s.outline := by
  have up := State.updCtx_view Ctx.lineUp line.1
  have last := State.updCtx_view Ctx.last line.2
  have orders := State.updCtx_view Ctx.orders orders
  have unknown := State.updCtx_view Ctx.unknownCause cause
  simp only [State.outline, up, last, orders, unknown]
  rfl

/-- A change of a context that keeps the standing of its line and its last report. -/
@[simp] theorem State.updCtx_core {n : TxId} {f : Ctx → Ctx} {s : State}
    (line : ∀ c, (f c).lineUp = c.lineUp ∧ (f c).last = c.last) : (s.updCtx n f).outline.core = s.outline.core := by
  have up := State.updCtx_view (s := s) (n := n) Ctx.lineUp (line _).1
  have last := State.updCtx_view (s := s) (n := n) Ctx.last (line _).2
  simp only [State.outline, up, last]
  rfl

@[simp] theorem State.post_outline (nt : Notice) (s : State) : (s.post nt).outline = s.outline := rfl

@[simp] theorem State.setPlan_outline (n : TxId) (p : Option Plan) (s : State) : (s.setPlan n p).outline = s.outline := rfl

@[simp] theorem State.updPlan_outline (n : TxId) (f : Plan → Plan) (s : State) : (s.updPlan n f).outline = s.outline := rfl

@[simp] theorem State.updProt_outline (n : TxId) (f : Prot → Prot) (s : State) : (s.updProt n f).outline = s.outline := rfl

@[simp] theorem State.updOcc_outline (n : TxId) (f : Occ → Occ) (s : State) : (s.updOcc n f).outline = s.outline := rfl

/-- Writing a run-time record where one stands, or none where none stands. -/
theorem State.setRun_outline {a : AntId} {r : Option AntRun} {s : State} (h : r.isSome = (s.run a).isSome) :
    (s.setRun a r).outline = s.outline := by
  have runs : (fun b => ((s.setRun a r).run b).isSome) = fun b => (s.run b).isSome := by
    funext b
    by_cases same : b = a
    · subst same; rw [State.setRun_run, h]
    · rw [State.setRun_run_ne a b same]
  simp only [State.outline, runs]
  rfl

@[simp] theorem State.updRun_outline (a : AntId) (f : AntRun → AntRun) (s : State) : (s.updRun a f).outline = s.outline :=
  State.setRun_outline (by simp)

theorem getElem_set_of_ne {α : Type} {k : Nat} (v : Vector α k) {i j : Fin k} (h : j ≠ i) (x : α) : (v.set i x)[j] = v[j] :=
  Vector.getElem_set_ne _ _ fun e => h (Fin.ext e.symm)

theorem State.setEntry_entry_ne {act b : ActId} (h : b ≠ act) (e : Option ActEntry) (s : State) :
    (s.setEntry act e).entry b = s.entry b := by
  cases act with
  | row n => cases b with
    | row m => exact getElem_set_of_ne _ (fun same => h (congrArg _ same)) _
    | sel _ => rfl
    | beam _ => rfl
  | sel n => cases b with
    | sel m => exact getElem_set_of_ne _ (fun same => h (congrArg _ same)) _
    | row _ => rfl
    | beam _ => rfl
  | beam n => cases b with
    | beam m => exact getElem_set_of_ne _ (fun same => h (congrArg _ same)) _
    | row _ => rfl
    | sel _ => rfl

@[simp] theorem State.updEntry_outline (act : ActId) (f : ActEntry → ActEntry) (s : State) :
    (s.updEntry act f).outline = s.outline := by
  have defined : (fun b => ((s.updEntry act f).entry b).isSome) = fun b => (s.entry b).isSome := by
    funext b
    by_cases same : b = act
    · subst same; simp [State.updEntry]
    · rw [State.updEntry, State.setEntry_entry_ne same]
  have outline (e : Option ActEntry) : (s.setEntry act e).outline =
      { s.outline with core := { s.outline.core with defined := fun b => ((s.setEntry act e).entry b).isSome } } := by
    cases act <;> rfl
  exact (outline _).trans (by rw [show (fun b => ((s.setEntry act ((s.entry act).map f)).entry b).isSome) =
    fun b => (s.entry b).isSome from defined]; rfl)

@[simp] theorem State.setChan_core (ch : ChanId) (v : Chan) (s : State) : (s.setChan ch v).outline.core = s.outline.core := rfl

@[simp] theorem State.startChan_core (ch : ChanId) (ms : Nat) (s : State) :
    (s.startChan ch ms).outline.core = s.outline.core := rfl

@[simp] theorem State.stopChan_core (ch : ChanId) (s : State) : (s.stopChan ch).outline.core = s.outline.core := rfl

/-- A stop of a recycle delay. -/
@[simp] theorem State.stopRecycleChan_outline (n : TxId) (s : State) :
    (s.stopChan (.tx n .recycle)).outline = s.outline := by
  have chan : (fun m : TxId => TxTimers.work (s.stopChan (.tx n .recycle)).tim.tx[m]) = fun m => TxTimers.work s.tim.tx[m] := by
    funext m c
    by_cases same : m = n
    · subst same; cases c <;> simp [State.stopChan, State.setChan, Timers.put, TxTimers.work, TxTimers.put, TxTimers.get]
    · rw [show (s.stopChan (.tx n .recycle)).tim.tx[m] = s.tim.tx[m] from getElem_set_of_ne _ same _]
  simp only [State.outline, chan]
  rfl

theorem State.each_outline {α : Type} (l : List α) (f : α → State → State) (h : ∀ x t, (f x t).outline = t.outline)
    (s : State) : (s.each l f).outline = s.outline :=
  State.each_view State.outline l h s

theorem State.each_core {α : Type} (l : List α) (f : α → State → State)
    (h : ∀ x t, (f x t).outline.core = t.outline.core) (s : State) : (s.each l f).outline.core = s.outline.core :=
  State.each_view (fun t => t.outline.core) l h s

theorem State.eachTx_core (f : TxId → State → State) (h : ∀ n t, (f n t).outline.core = t.outline.core) (s : State) :
    (s.eachTx f).outline.core = s.outline.core := State.each_core allTx f h s

/-! ## SCH's records -/

@[simp] theorem State.setStatus_outline (n : TxId) (id : TargetId) (st : OccStatus) (s : State) :
    (s.setStatus n id st).outline = s.outline := rfl

@[simp] theorem State.bookingLeaves_outline (id : Nat) (c : BookEnd) (s : State) :
    (s.bookingLeaves id c).outline = s.outline := by
  unfold State.bookingLeaves; split <;> rfl

@[simp] theorem State.targetBookingLeaves_outline (id : TargetId) (c : BookEnd) (s : State) :
    (s.targetBookingLeaves id c).outline = s.outline := by
  unfold State.targetBookingLeaves
  split
  · split <;> simp
  · rfl

@[simp] theorem State.recordLive_outline (n : TxId) (id : TargetId) (s : State) : (s.recordLive n id).outline = s.outline := by
  unfold State.recordLive
  split
  · split <;> simp
  · rfl

@[simp] theorem State.recordLost_outline (n : TxId) (id : TargetId) (cause : Cause) (s : State) :
    (s.recordLost n id cause).outline = s.outline := by
  unfold State.recordLost
  split
  · split
    · split <;> simp
    · rfl
  · rfl

@[simp] theorem State.endBookings_outline (n : TxId) (s : State) : (s.endBookings n).outline = s.outline :=
  State.each_outline (s.bookingsToEnd n) (fun b t => t.bookingLeaves b.id .source) (fun b t => by simp) s

/-! ## AMX's grants and withdrawals -/

@[simp] theorem State.takeAnt_outline (a : AntId) (o : Own) (s : State) : (s.takeAnt a o).outline = s.outline := by
  simp [State.takeAnt]

@[simp] theorem State.grant_outline (a : AntId) (c : Claim) (s : State) : (s.grant a c).outline = s.outline := by
  simp [State.grant]

@[simp] theorem State.offer_outline (a : AntId) (s : State) : (s.offer a).outline = s.outline := by
  unfold State.offer
  split
  · split
    · split <;> simp
    · rfl
  · rfl

@[simp] theorem State.withdrawFrom_outline (a : AntId) (n : TxId) (s : State) :
    (s.withdrawFrom a n).outline = s.outline := by
  unfold State.withdrawFrom
  split
  · dsimp only; split <;> simp
  · rfl

@[simp] theorem State.withdrawClaim_outline (n : TxId) (s : State) : (s.withdrawClaim n).outline = s.outline := by
  unfold State.withdrawClaim; split <;> simp

@[simp] theorem State.offerReservation_outline (n : TxId) (s : State) : (s.offerReservation n).outline = s.outline := by
  unfold State.offerReservation; split <;> simp

@[simp] theorem State.endOwnership_outline (a : AntId) (s : State) : (s.endOwnership a).outline = s.outline := by
  unfold State.endOwnership; split <;> simp

@[simp] theorem State.retell_outline (h : Held) (s : State) : (s.retell h).outline = s.outline := rfl

@[simp] theorem State.dropHeld_outline (p : Held → Bool) (s : State) : (s.dropHeld p).outline = s.outline :=
  State.each_outline _ _ (fun h t => t.retell_outline h) _

/-! ## CSQ's plans and the causes of R121 -/

/-- The state a context leaves TRIPPED for is not UNKNOWN. -/
theorem offState_ne_unknown (r : Option StateReport) : offState r ≠ .unknown := by
  unfold offState
  split
  · split
    · decide
    · split <;> decide
    · decide
  · decide

@[simp] theorem State.leaveTripped_outline (n : TxId) (s : State) : (s.leaveTripped n).outline = s.outline := by
  unfold State.leaveTripped
  dsimp only
  split
  next tripped =>
    have other := offState_ne_unknown (s.ctx n).last
    have moves : (s.ctx n).state ≠ offState (s.ctx n).last ∨ (s.ctx n).state = offState (s.ctx n).last := by tauto
    refine State.updCtx_outline ?_ ?_ ?_ <;> split <;> simp_all [Ctx.orders, Ctx.unknownCause]
  · rfl

@[simp] theorem State.endTrip_outline (n : TxId) (s : State) : (s.endTrip n).outline = s.outline := by
  unfold State.endTrip
  rw [State.leaveTripped_outline]
  exact State.updCtx_outline ⟨rfl, rfl⟩ rfl rfl

@[simp] theorem State.stopRecycle_outline (n : TxId) (s : State) : (s.stopRecycle n).outline = s.outline := by
  unfold State.stopRecycle; split <;> simp

@[simp] theorem State.removePlan_outline (n : TxId) (s : State) : (s.removePlan n).outline = s.outline := by
  have removed : (s.removePlan n).outline =
      (((s.withdrawClaim n).dropHeld fun h => decide (h.asker = .plan n)).setPlan n none).outline := rfl
  rw [removed]; simp

@[simp] theorem State.ownAs_outline (n : TxId) (t : Setpoint) (s : State) : (s.ownAs n t).outline = s.outline := by
  unfold State.ownAs; split <;> simp

@[simp] theorem State.planDone_outline (n : TxId) (p : Plan) (s : State) : (s.planDone n p).outline = s.outline := by
  unfold State.planDone
  dsimp only
  split <;> split <;> simp

@[simp] theorem State.reachHold_outline (n : TxId) (p : Plan) (s : State) : (s.reachHold n p).outline = s.outline := rfl

@[simp] theorem State.settlePlan_outline (n : TxId) (s : State) : (s.settlePlan n).outline = s.outline := by
  unfold State.settlePlan
  split
  · split_ifs <;> simp
  · rfl

@[simp] theorem State.endPhase_outline (n : TxId) (ph : Phase) (s : State) : (s.endPhase n ph).outline = s.outline := by
  unfold State.endPhase
  split
  · split <;> simp
  · rfl

@[simp] theorem State.drawnDuration_outline (s : State) : s.drawnDuration.outline = s.outline := rfl

@[simp] theorem State.windDown_outline (n : TxId) (cause : Cause) (k : Nat) (hp : HoldPoint) (s : State) :
    (s.windDown n cause k hp).outline = s.outline := by simp [State.windDown]

@[simp] theorem State.abandon_outline (n : TxId) (cause : Cause) (s : State) : (s.abandon n cause).outline = s.outline := by
  unfold State.abandon
  split
  · dsimp only
    split <;> split <;> simp
  · rfl

@[simp] theorem State.liveLost_outline (n : TxId) (cause : Cause) (s : State) : (s.liveLost n cause).outline = s.outline := by
  unfold State.liveLost; split <;> simp

@[simp] theorem State.takeDown_outline (n : TxId) (cause : Cause) (s : State) : (s.takeDown n cause).outline = s.outline := by
  unfold State.takeDown
  dsimp only
  split <;> simp

@[simp] theorem State.interrupt_outline (n : TxId) (cause : Cause) (s : State) : (s.interrupt n cause).outline = s.outline := by
  unfold State.interrupt; split <;> simp

@[simp] theorem State.causeReaches_outline (n : TxId) (cause : Cause) (s : State) :
    (s.causeReaches n cause).outline = s.outline := by
  unfold State.causeReaches
  split
  · split_ifs <;> simp
  · simp

@[simp] theorem State.planActuatorFault_outline (n : TxId) (act : ActId) (s : State) :
    (s.planActuatorFault n act).outline = s.outline := by
  unfold State.planActuatorFault
  split
  · split_ifs <;> simp
  · rfl

@[simp] theorem State.planRefused_outline (n : TxId) (ph : Phase) (why : Refused) (s : State) :
    (s.planRefused n ph why).outline = s.outline := by
  unfold State.planRefused
  split
  · split <;> simp
  · rfl

@[simp] theorem State.planMoved_outline (act : ActId) (p : Place) (n : TxId) (s : State) :
    (s.planMoved act p n).outline = s.outline := by
  unfold State.planMoved
  split
  · split
    · dsimp only; split <;> simp
    · rfl
  · rfl

@[simp] theorem State.nameCause_outline (n : TxId) (cause : Cause) (s : State) : (s.nameCause n cause).outline = s.outline := by
  unfold State.nameCause; split <;> simp

@[simp] theorem State.recycleFails_outline (n : TxId) (cause : Cause) (s : State) :
    (s.recycleFails n cause).outline = s.outline := by simp [State.recycleFails]

@[simp] theorem State.answer_outline (n : TxId) (who : Asker) (o : Order) (why : Refused) (s : State) :
    (s.answer n who o why).outline = s.outline := by
  unfold State.answer
  split
  · simp
  · split <;> simp
  · rfl

@[simp] theorem State.withdrawAll_outline (a : AntId) (cause : Cause) (s : State) : (s.withdrawAll a cause).outline = s.outline := by
  unfold State.withdrawAll
  split
  · rw [State.each_outline _ _ fun n t => by simp]; simp
  · rfl

/-! ## TXS's orders -/

@[simp] theorem State.toState_core (n : TxId) (st : CtxState) (s : State) : (s.toState n st).outline.core = s.outline.core :=
  State.updCtx_core fun c => by split <;> exact ⟨rfl, rfl⟩

@[simp] theorem State.toFaulted_core (n : TxId) (f : FaultCause) (s : State) : (s.toFaulted n f).outline.core = s.outline.core := by
  simp [State.toFaulted]

@[simp] theorem State.stopRamp_core (n : TxId) (s : State) : (s.stopRamp n).outline.core = s.outline.core := by
  simp [State.stopRamp]

@[simp] theorem State.rampFails_core (n : TxId) (why : Refused) (s : State) : (s.rampFails n why).outline.core = s.outline.core := by
  unfold State.rampFails
  split
  · dsimp only
    split
    · split <;> simp
    · simp
    · simp
  · rfl

@[simp] theorem State.refuse_core (n : TxId) (who : Asker) (o : Order) (why : Refused) (s : State) :
    (s.refuse n who o why).outline.core = s.outline.core := by
  unfold State.refuse
  dsimp only
  split <;> simp

@[simp] theorem State.sendNow_core (n : TxId) (who : Asker) (o : Order) (s : State) :
    (s.sendNow n who o).outline.core = s.outline.core := by
  unfold State.sendNow
  dsimp only
  split <;> simp

@[simp] theorem State.slot_core (n : TxId) (who : Asker) (o : Order) (s : State) :
    (s.slot n who o).outline.core = s.outline.core := by simp [State.slot]

@[simp] theorem State.defer_core (n : TxId) (who : Asker) (o : Order) (s : State) :
    (s.defer n who o).outline.core = s.outline.core := by
  unfold State.defer
  split
  · simp
  · split_ifs <;> simp

@[simp] theorem State.askOrder_core (n : TxId) (who : Asker) (o : Order) (s : State) :
    (s.askOrder n who o).outline.core = s.outline.core := by
  unfold State.askOrder
  split
  · split
    · split
      · simp
      · split_ifs <;> simp
    · split <;> simp
  · rfl

@[simp] theorem State.txFault_core (n : TxId) (f : FaultCause) (unitCause : Option Nat) (s : State) :
    (s.txFault n f unitCause).outline.core = s.outline.core := by simp [State.txFault]

@[simp] theorem State.stopWork_core (n : TxId) (s : State) : (s.stopWork n).outline.core = s.outline.core := by
  simp [State.stopWork]

@[simp] theorem State.rfOffUnlessOff_core (n : TxId) (who : Asker) (s : State) :
    (s.rfOffUnlessOff n who).outline.core = s.outline.core := by
  unfold State.rfOffUnlessOff; split <;> simp

@[simp] theorem State.faultActions_core (n : TxId) (f : FaultCause) (s : State) :
    (s.faultActions n f).outline.core = s.outline.core := by simp [State.faultActions]

/-! ## Zones -/

@[simp] theorem State.zoneTakes_core (n : TxId) (s : State) : (s.zoneTakes n).outline.core = s.outline.core := by
  simp [State.zoneTakes]

@[simp] theorem State.zoneActs_core (a : AntId) (s : State) : (s.zoneActs a).outline.core = s.outline.core := by
  unfold State.zoneActs
  split
  · split <;> simp
  · rfl

@[simp] theorem State.zoneOpens_core (z : ZoneId) (s : State) : (s.zoneOpens z).outline.core = s.outline.core := by
  unfold State.zoneOpens
  dsimp only
  rw [State.each_core _ _ fun a t => t.zoneActs_core a]
  rfl

@[simp] theorem State.zoneUse_core (was : Bool) (z : ZoneId) (s : State) : (s.zoneUse was z).outline.core = s.outline.core := by
  unfold State.zoneUse
  dsimp only
  split_ifs
  · rfl
  · rw [State.zoneOpens_core]
  · rfl
  · rfl

@[simp] theorem State.rederiveZones_core (s : State) : s.rederiveZones.outline.core = s.outline.core := by
  unfold State.rederiveZones
  rw [State.each_core _ _ fun z t => t.zoneUse_core _ z]
  rfl

/-! ## Query answers and moves -/

@[simp] theorem State.rebuildTo_core (n : TxId) (st : CtxState) (s : State) : (s.rebuildTo n st).outline.core = s.outline.core := by
  unfold State.rebuildTo; split <;> simp

@[simp] theorem State.rebuild_core (n : TxId) (r : StateReport) (s : State) : (s.rebuild n r).outline.core = s.outline.core := by
  unfold State.rebuild
  split
  · simp
  · split
    · split <;> simp
    · rfl
  · simp
  · split <;> simp
  · simp
  · simp
  · split <;> simp
  · simp

@[simp] theorem State.clearRebuild_core (n : TxId) (s : State) : (s.clearRebuild n).outline.core = s.outline.core := by
  unfold State.clearRebuild; split <;> simp

@[simp] theorem State.judgeAdoption_core (n : TxId) (s : State) : (s.judgeAdoption n).outline.core = s.outline.core := by
  unfold State.judgeAdoption
  dsimp only
  split
  · split
    · split <;> simp
    · simp
  · simp

@[simp] theorem State.clearingAnswered_core (act : ActId) (n : TxId) (s : State) :
    (s.clearingAnswered act n).outline.core = s.outline.core := by
  unfold State.clearingAnswered
  dsimp only
  split_ifs <;> simp

@[simp] theorem State.answerQueries_core (act : ActId) (l : List Requester) (s : State) :
    (s.answerQueries act l).outline.core = s.outline.core := by
  refine State.each_core _ _ (fun q t => ?_) _
  split
  · simp
  · exact State.eachTx_core _ (fun n u => u.clearingAnswered_core act n) _
  · rfl

@[simp] theorem State.setQueue_outline (q : List BusOrder) (s : State) : (s.setQueue q).outline = s.outline := rfl

@[simp] theorem State.fillQueries_outline (s : State) : s.fillQueries.outline = s.outline := by
  refine State.each_outline _ _ (fun act t => ?_) _
  split
  · split <;> simp
  · rfl

@[simp] theorem State.grounded_outline (act : ActId) (p : Place) (s : State) : (s.grounded act p).outline = s.outline := by
  unfold State.grounded; split <;> simp

@[simp] theorem State.askMove_outline (who : MoveAsker) (act : ActId) (p : Place) (s : State) :
    (s.askMove who act p).outline = s.outline := by
  unfold State.askMove
  split
  · split
    · dsimp only
      rw [State.planMoved_outline]
      split
      · split <;> simp
      · rfl
    · rfl
  · split
    · split <;> simp
    · rfl

@[simp] theorem State.askAgain_outline (s : State) : s.askAgain.outline = s.outline := by
  refine (State.each_outline _ _ (fun x t => ?_) _).trans rfl
  split
  · split <;> simp
  · rfl

end Sys2Proof.Machine
end

section
/-! PROOFS. What a STATE report leaves of the standing of the hall lines and of their last reports (R81, R96), and the loss and
the restoration of a line (R84, R85). -/

namespace Sys2Proof.Machine
open Sys2Proof Sys2Proof.Claims

/-! ## A STATE report changes no line's standing -/

@[simp] theorem State.setTrips_lines (a : AntId) (l : List (TxId × Nat)) (s : State) :
    (s.setTrips a l).outline.core.lines = s.outline.core.lines := rfl

@[simp] theorem State.setTurn_outline (n : TxId) (v : Turn) (s : State) : (s.setTurn n v).outline = s.outline := rfl

@[simp] theorem State.aimersLose_lines (a : AntId) (cause : Cause) (s : State) : (s.aimersLose a cause).outline.core.lines = s.outline.core.lines :=
  State.eachTx_view (fun u => u.outline.core.lines) (fun n t => by split <;> simp) s

@[simp] theorem State.suspectDecision_lines (a : AntId) (l : List TxId) (s : State) : (s.suspectDecision a l).outline.core.lines = s.outline.core.lines := by
  unfold State.suspectDecision
  split
  · dsimp only; split <;> simp
  · rfl

@[simp] theorem State.noteTrip_lines (n : TxId) (cause : TripCause) (s : State) : (s.noteTrip n cause).outline.core.lines = s.outline.core.lines := by
  unfold State.noteTrip
  split
  · split
    · unfold State.enterTrip; dsimp only; split <;> simp
    · rfl
  · rfl

@[simp] theorem State.tripServesPlan_lines (n : TxId) (s : State) : (s.tripServesPlan n).outline.core.lines = s.outline.core.lines := by
  unfold State.tripServesPlan
  split
  · split <;> simp
  · rfl

@[simp] theorem State.tripAtTxs_lines (n : TxId) (s : State) : (s.tripAtTxs n).outline.core.lines = s.outline.core.lines := by
  unfold State.tripAtTxs; split <;> simp

@[simp] theorem State.countRecycle_lines (n : TxId) (s : State) : (s.countRecycle n).1.outline.core.lines = s.outline.core.lines := by
  unfold State.countRecycle
  split
  next d _ =>
    have fresh : (s.freshWindow n d).outline.core.lines = s.outline.core.lines := by
      simp only [State.freshWindow]; split <;> split <;> simp
    dsimp only; split <;> simp [fresh]
  · rfl

@[simp] theorem State.unitTrip_lines (n : TxId) (cause : TripCause) (s : State) : (s.unitTrip n cause).outline.core.lines = s.outline.core.lines := by
  unfold State.unitTrip
  split
  · simp [State.localTrip]
  · split
    · simp only [State.tripDecision, State.post_outline]; split <;> simp
    · rfl

@[simp] theorem State.localShown_lines (n : TxId) (r : StateReport) (s : State) : (s.localShown n r).outline.core.lines = s.outline.core.lines := by
  unfold State.localShown
  split
  · split <;> simp
  · split <;> simp
  · simp
  · rfl

@[simp] theorem State.localOwn_lines (n : TxId) (s : State) : (s.localOwn n).outline.core.lines = s.outline.core.lines := by
  unfold State.localOwn
  split
  · split
    · split <;> simp
    · split
      · split <;> simp
      · rfl
  · rfl

@[simp] theorem State.localTaken_lines (n : TxId) (s : State) : (s.localTaken n).outline.core.lines = s.outline.core.lines := by
  unfold State.localTaken
  dsimp only
  rw [State.localOwn_lines]
  split
  · split <;> simp
  · simp

@[simp] theorem State.localReleased_lines (n : TxId) (s : State) : (s.localReleased n).outline.core.lines = s.outline.core.lines := by
  have returns (t : State) : (t.localReturn n).outline.core.lines = t.outline.core.lines := by unfold State.localReturn; split <;> simp
  unfold State.localReleased
  dsimp only
  split <;> simp [returns]

@[simp] theorem State.keySeen_lines (n : TxId) (r : StateReport) (s : State) : (s.keySeen n r).outline.core.lines = s.outline.core.lines := by
  unfold State.keySeen; split_ifs <;> simp

@[simp] theorem State.lockOut_lines (n : TxId) (s : State) : (s.lockOut n).outline.core.lines = s.outline.core.lines := by
  unfold State.lockOut; dsimp only; split <;> simp

@[simp] theorem State.groundStanding_lines (n : TxId) (s : State) : (s.groundStanding n).outline.core.lines = s.outline.core.lines :=
  State.each_view (fun u => u.outline.core.lines) (s.standing n) (fun a t => by rw [State.askMove_outline]) s

@[simp] theorem State.adoptOwn_lines (n : TxId) (a : AntId) (s : State) : (s.adoptOwn n a).outline.core.lines = s.outline.core.lines := by
  unfold State.adoptOwn
  split
  · split <;> simp
  · split <;> simp

@[simp] theorem State.adopt_lines (n : TxId) (s : State) : (s.adopt n).outline.core.lines = s.outline.core.lines := by simp [State.adopt]

@[simp] theorem State.lineAdoption_lines (n : TxId) (s : State) : (s.lineAdoption n).outline.core.lines = s.outline.core.lines := by
  unfold State.lineAdoption
  dsimp only
  split
  · simp
  · split
    · simp
    · split
      · simp
      · split
        · rw [State.adopt_lines]
          split
          · simp
          · split
            · exact State.each_view (fun u => u.outline.core.lines) (s.standing n) (fun a t => t.adoptOwn_lines n a) s
            · rfl
        · rfl

@[simp] theorem State.rebuildUnknown_lines (n : TxId) (r : StateReport) (s : State) :
    (s.rebuildUnknown n r).outline.core.lines = s.outline.core.lines := by
  have checked (t : State) : (t.rowCheck n).outline.core.lines = t.outline.core.lines := by unfold State.rowCheck; split_ifs <;> simp
  unfold State.rebuildUnknown
  dsimp only
  split_ifs <;> simp [checked]

@[simp] theorem State.warmed_lines (n : TxId) (s : State) : (s.warmed n).outline.core.lines = s.outline.core.lines := by simp [State.warmed]

@[simp] theorem State.explained_lines (n : TxId) (r : StateReport) (s : State) : (s.explained n r).outline.core.lines = s.outline.core.lines := by
  unfold State.explained
  dsimp only
  split
  · split
    · simp
    · split <;> simp
    · split <;> simp
  · split <;> simp
  · split <;> simp
  · simp

@[simp] theorem State.checkState_lines (n : TxId) (r : StateReport) (s : State) : (s.checkState n r).outline.core.lines = s.outline.core.lines := by
  unfold State.checkState; split <;> simp

@[simp] theorem State.judgeState_lines (n : TxId) (r : StateReport) (s : State) : (s.judgeState n r).outline.core.lines = s.outline.core.lines := by
  unfold State.judgeState
  dsimp only
  split
  · rfl
  · split
    · simp
    · split_ifs <;> simp
    · simp

@[simp] theorem State.rfFoundOff_lines (n : TxId) (r : StateReport) (sent : Bool) (s : State) :
    (s.rfFoundOff n r sent).outline.core.lines = s.outline.core.lines := by
  have confirmed : (s.confirmed n r).outline.core.lines = s.outline.core.lines := by
    unfold State.confirmed
    dsimp only
    rw [State.endPhase_outline]
    split_ifs <;> simp
  unfold State.rfFoundOff
  split_ifs <;> simp [confirmed]

/-- Digesting a STATE report notes it; nothing else of it touches a line's standing or last report. -/
theorem State.digest_lines (n : TxId) (r : StateReport) (s : State) : (s.digest n r).outline.core.lines = (s.noteState n r).outline.core.lines := by
  have off (t : State) : (t.emergencyOff n r).outline.core.lines = t.outline.core.lines := by unfold State.emergencyOff; split <;> simp
  have turn (t : State) : (t.turnAnswered n).outline.core.lines = t.outline.core.lines := by unfold State.turnAnswered; split <;> simp
  have keys (t : State) : (t.localState n r).outline.core.lines = t.outline.core.lines := by unfold State.localState; dsimp only; split <;> simp
  unfold State.digest
  dsimp only
  rw [turn, off]
  split_ifs <;> simp [keys]

end Sys2Proof.Machine
end

section
/-! PROOFS. The loss and the restoration of a hall line (R84, R85). -/

namespace Sys2Proof.Machine
open Sys2Proof Sys2Proof.Claims

/-! ## Channels and plans -/

theorem State.setChan_tx_ne {c d : TxChan} (h : d ≠ c) (n : TxId) (v : Chan) (s : State) :
    (s.setChan (.tx n c) v).chan (.tx n d) = s.chan (.tx n d) := by
  cases c <;> cases d <;>
    simp [State.setChan, State.chan, Timers.put, Timers.get, TxTimers.put, TxTimers.get] at h ⊢

theorem State.startChan_tx_ne {c d : TxChan} (h : d ≠ c) (n : TxId) (ms : Nat) (s : State) :
    (s.startChan (.tx n c) ms).chan (.tx n d) = s.chan (.tx n d) := State.setChan_tx_ne h n _ s

@[simp] theorem State.startChan_ctx (n : TxId) (ch : ChanId) (ms : Nat) (s : State) : (s.startChan ch ms).ctx n = s.ctx n := rfl

@[simp] theorem State.post_ctx (n : TxId) (nt : Notice) (s : State) : (s.post nt).ctx n = s.ctx n := rfl

@[simp] theorem State.updProt_ctx (n m : TxId) (f : Prot → Prot) (s : State) : (s.updProt n f).ctx m = s.ctx m := rfl

theorem State.txDefined_congr {s t : State} (h : t.hds = s.hds) : t.txDefined = s.txDefined := by
  funext n; simp only [State.txDefined, State.txDef_congr h]

theorem State.snaps_of_still {s t : State} (h : t.still = s.still) : t.snaps = s.snaps := congrArg Still.snaps h

theorem State.pins_of_still {s t : State} (h : t.still = s.still) : t.pins = s.pins := congrArg Still.pins h

theorem State.lineUp_of_core {s t : State} (h : t.outline.core = s.outline.core) (n : TxId) :
    (t.ctx n).lineUp = (s.ctx n).lineUp := congrArg (fun v : CoreView => v.lines.up n) h

theorem State.rowPos_of_core {s t : State} (h : t.outline.core = s.outline.core) : t.amx.rowPos = s.amx.rowPos :=
  congrArg CoreView.rowPos h

theorem State.selPos_of_core {s t : State} (h : t.outline.core = s.outline.core) : t.amx.selPos = s.amx.selPos :=
  congrArg CoreView.selPos h

theorem State.orders_of_outline {s t : State} (h : t.outline = s.outline) {n : TxId} :
    (t.ctx n).orders = (s.ctx n).orders := congrArg (fun v : Outline => v.orders n) h

theorem State.unknownCause_of_outline {s t : State} (h : t.outline = s.outline) {n : TxId} :
    (t.ctx n).unknownCause = (s.ctx n).unknownCause := congrArg (fun v : Outline => v.unknown n) h

theorem State.chan_of_outline {s t : State} (h : t.outline = s.outline) {d : TxChan} (work : d ≠ .recycle) {n : TxId} :
    t.chan (.tx n d) = s.chan (.tx n d) := by
  have view (u : State) : u.chan (.tx n d) = u.outline.chan n d := (if_neg work).symm
  rw [view, view, h]

@[simp] theorem State.bookingLeaves_csq (id : Nat) (c : BookEnd) (s : State) : (s.bookingLeaves id c).csq = s.csq := by
  unfold State.bookingLeaves; split <;> rfl

@[simp] theorem State.targetBookingLeaves_csq (id : TargetId) (c : BookEnd) (s : State) :
    (s.targetBookingLeaves id c).csq = s.csq := by
  unfold State.targetBookingLeaves
  split
  · split <;> simp
  · rfl

@[simp] theorem State.recordLost_csq (n : TxId) (id : TargetId) (cause : Cause) (s : State) :
    (s.recordLost n id cause).csq = s.csq := by
  unfold State.recordLost
  split
  · split
    · split <;> simp [State.setStatus]
    · rfl
  · rfl

@[simp] theorem State.liveLost_csq (n : TxId) (cause : Cause) (s : State) : (s.liveLost n cause).csq = s.csq := by
  unfold State.liveLost; split <;> simp

@[simp] theorem State.stopRecycle_csq (n : TxId) (s : State) : (s.stopRecycle n).csq = s.csq := by
  have left (t : State) : (t.leaveTripped n).csq = t.csq := by unfold State.leaveTripped; dsimp only; split <;> rfl
  unfold State.stopRecycle
  split
  · rw [State.endTrip, left]; rfl
  · rfl

theorem State.plan_of_csq {s t : State} (h : t.csq = s.csq) : t.plan = s.plan := by
  funext n; simp only [State.plan, h]

@[simp] theorem State.removePlan_plan (n : TxId) (s : State) : (s.removePlan n).plan n = none :=
  State.setPlan_plan n none ((s.withdrawClaim n).dropHeld fun h => decide (h.asker = .plan n))

/-- A lost line leaves no plan: a wind-down is removed, any other plan abandoned without one (R122, R123). -/
theorem State.causeReaches_lineLost_plan {n : TxId} {s : State} (lost : (s.ctx n).lineUp = false) :
    (s.causeReaches n .lineLost).plan n = none := by
  have unwindable : s.windable n = false := by simp [State.windable, lost]
  unfold State.causeReaches
  split
  next p planned =>
    split
    · simp only [Cause.hard, if_true, State.removePlan_plan]
    · simp only [State.abandon, planned, unwindable, Bool.false_eq_true, if_false]
      exact State.removePlan_plan ..
  next unplanned =>
    unfold State.interrupt
    split
    · simp only [State.takeDown, Cause.hard, Bool.not_true, Bool.false_and, Bool.false_eq_true, if_false]
      rw [State.plan_of_csq ((State.stopRecycle_csq n _).trans (State.liveLost_csq n .lineLost s)), unplanned]
    · exact unplanned

/-! ## A line is lost (R84) -/

/-- The line is LOST, its channels but the recycle delay are stopped, and a RF-OFF on it is owed (R84 steps 1 to 3). -/
def State.lineStopped (n : TxId) (s : State) : State :=
  (((((s.updCtx n fun c => { c with lineUp := false }).stopChan (.tx n .silence)).stopChan (.tx n .accept)).stopWork
    n).stopChan (.tx n .rfOff)).updCtx n fun c => { c with owed := c.owed || s.rfOffOnLine n }

/-- The context has no order left (R84 step 4). -/
def State.ordersDropped (n : TxId) (s : State) : State :=
  s.updCtx n fun c => { c with outstanding := none, deferred := none, unshown := keptUnshown c.outstanding c.unshown }

/-- The context is UNKNOWN and its RF condition UNSURE (R84 step 5). -/
def State.lineUnknown (n : TxId) (s : State) : State :=
  ((s.toState n .unknown).updCtx n fun c => { c with rf := .unsure, cause := none, lostUnknown := true }).updProt
    n fun p => { p with count := 0, fwdSum := 0, reflSum := 0 }

/-- What stands before the cause LINE_LOST reaches CSQ. -/
def State.lineDown (n : TxId) (byAccept : Bool) (s : State) : State :=
  ((((s.lineStopped n).loseOrders n).lineUnknown n).post
    (.lineLost n byAccept (s.ctx n).state (s.ctx n).rf)).stopRecycle n

theorem State.lineLost_eq (n : TxId) (byAccept : Bool) (s : State) :
    s.lineLost n byAccept = ((s.lineDown n byAccept).causeReaches n .lineLost).loseTurn n := rfl

@[simp] theorem State.loseTurn_outline (n : TxId) (s : State) : (s.loseTurn n).outline = s.outline := rfl

theorem State.loseOrders_outline (n : TxId) (s : State) : (s.loseOrders n).outline = (s.ordersDropped n).outline := by
  unfold State.loseOrders
  dsimp only
  split <;> split
  · rw [State.answer_outline, State.answer_outline]; rfl
  · rw [State.answer_outline]; rfl
  · rw [State.answer_outline]; rfl
  · rfl

theorem State.lineDown_outline (n : TxId) (byAccept : Bool) (s : State) :
    (s.lineDown n byAccept).outline = (((s.lineStopped n).loseOrders n).lineUnknown n).outline := by
  simp only [State.lineDown, State.stopRecycle_outline, State.post_outline]

theorem State.lineLost_outline (n : TxId) (byAccept : Bool) (s : State) :
    (s.lineLost n byAccept).outline = (((s.lineStopped n).loseOrders n).lineUnknown n).outline := by
  rw [State.lineLost_eq, State.loseTurn_outline, State.causeReaches_outline, State.lineDown_outline]

theorem State.lineStopped_ctx (n : TxId) (s : State) : (s.lineStopped n).ctx n =
    { s.ctx n with lineUp := false, ramp := none, owed := (s.ctx n).owed || s.rfOffOnLine n } := by
  simp [State.lineStopped, State.stopWork, State.stopRamp, State.stopChan, State.setChan, State.updCtx, State.ctx]

theorem State.lineStopped_ctx_ne {n m : TxId} (h : m ≠ n) (s : State) : (s.lineStopped n).ctx m = s.ctx m := by
  have other : n.val ≠ m.val := fun e => h (Fin.ext e.symm)
  simp [State.lineStopped, State.stopWork, State.stopRamp, State.stopChan, State.setChan, State.updCtx, State.ctx, other]

theorem State.lineStopped_chan (n : TxId) {d : TxChan} (h : d ≠ .recycle) (s : State) :
    (s.lineStopped n).chan (.tx n d) = .stopped := by
  have timers : (s.lineStopped n).tim.tx[n] = { TxTimers.stopped with recycle := (s.tim.tx[n]).recycle } := by
    simp [State.lineStopped, State.stopWork, State.stopRamp, State.stopChan, State.setChan, Timers.put, TxTimers.put,
      TxTimers.stopped]
  simp only [State.chan, Timers.get, timers]
  cases d
  case recycle => exact absurd rfl h
  all_goals rfl

theorem State.lineUnknown_core (n : TxId) (s : State) : (s.lineUnknown n).outline.core = s.outline.core := by
  simp [State.lineUnknown]

theorem State.lineUnknown_ctx (n : TxId) (s : State) : (s.lineUnknown n).ctx n =
    { (s.toState n .unknown).ctx n with rf := .unsure, cause := none, lostUnknown := true } := by
  simp only [State.lineUnknown, State.updProt_ctx, State.updCtx_ctx]

theorem State.lineUnknown_unknownCause (n : TxId) (s : State) : ((s.lineUnknown n).ctx n).unknownCause = some none := by
  have taken : ((s.toState n .unknown).ctx n).state = .unknown := by
    rw [State.toState, State.updCtx_ctx]; split <;> simp_all
  rw [State.lineUnknown_ctx, Ctx.unknownCause, if_pos taken]

theorem State.lineUnknown_orders (n : TxId) (s : State) :
    ((s.lineUnknown n).ctx n).orders = { (s.ctx n).orders with rf := .unsure } := by
  have kept : ((s.toState n .unknown).ctx n).orders = (s.ctx n).orders := by
    rw [State.toState, State.updCtx_ctx]; split <;> rfl
  rw [State.lineUnknown_ctx, ← kept]
  rfl

theorem State.ordersDropped_orders (n : TxId) (s : State) :
    ((s.ordersDropped n).ctx n).orders = { (s.ctx n).orders with outstanding := none, deferred := none } :=
  congrArg Ctx.orders (State.updCtx_ctx n _ s)

theorem State.ordersDropped_core (n : TxId) (s : State) : (s.ordersDropped n).outline.core = s.outline.core :=
  State.updCtx_core fun _ => ⟨rfl, rfl⟩

theorem State.lineLost_core (n : TxId) (byAccept : Bool) (s : State) :
    (s.lineLost n byAccept).outline.core = (s.lineStopped n).outline.core := by
  rw [State.lineLost_outline, State.lineUnknown_core, State.loseOrders_outline, State.ordersDropped_core]

theorem State.rfOffOnLine_iff (s : State) (n : TxId) : s.rfOffOnLine n = true ↔ rfOffOn (s.ctx n) := by
  simp only [State.rfOffOnLine, rfOffOn, Bool.or_eq_true, Option.any_eq_true, decide_eq_true_eq]

theorem State.lineDown_lineUp (n : TxId) (byAccept : Bool) (s : State) : ((s.lineDown n byAccept).ctx n).lineUp = false := by
  rw [State.lineUp_of_core (s := s.lineStopped n), State.lineStopped_ctx]
  rw [State.lineDown_outline, State.lineUnknown_core, State.loseOrders_outline, State.ordersDropped_core]

theorem State.lineLost_lineUp (n m : TxId) (byAccept : Bool) (s : State) :
    ((s.lineLost n byAccept).ctx m).lineUp = ((s.lineStopped n).ctx m).lineUp :=
  State.lineUp_of_core (s.lineLost_core n byAccept) m

theorem State.lineLost_unknown (n : TxId) (byAccept : Bool) (s : State) :
    ((s.lineLost n byAccept).ctx n).state = .unknown ∧ ((s.lineLost n byAccept).ctx n).cause = none := by
  have unknown : ((s.lineLost n byAccept).ctx n).unknownCause = some none := by
    rw [State.unknownCause_of_outline (s.lineLost_outline n byAccept), State.lineUnknown_unknownCause]
  unfold Ctx.unknownCause at unknown
  split at unknown
  next shown => exact ⟨shown, Option.some.inj unknown⟩
  · cases unknown

theorem State.lineLost_orders (n : TxId) (byAccept : Bool) (s : State) : ((s.lineLost n byAccept).ctx n).orders =
    ⟨none, none, (s.ctx n).owed || s.rfOffOnLine n, .unsure, (s.ctx n).source⟩ := by
  rw [State.orders_of_outline (s.lineLost_outline n byAccept), State.lineUnknown_orders,
    State.orders_of_outline ((s.lineStopped n).loseOrders_outline n), State.ordersDropped_orders, State.lineStopped_ctx]
  rfl

theorem State.lineUnknown_chan (n : TxId) (ch : ChanId) (s : State) : (s.lineUnknown n).chan ch = s.chan ch := by
  simp only [State.chan, State.lineUnknown, State.toState, State.updProt_tim, State.updCtx_tim]

theorem State.ordersDropped_chan (n : TxId) (ch : ChanId) (s : State) : (s.ordersDropped n).chan ch = s.chan ch := by
  simp only [State.chan, State.ordersDropped, State.updCtx_tim]

theorem State.lineLost_chan (n : TxId) (byAccept : Bool) {d : TxChan} (h : d ≠ .recycle) (s : State) :
    (s.lineLost n byAccept).chan (.tx n d) = .stopped := by
  rw [State.chan_of_outline (s.lineLost_outline n byAccept) h, State.lineUnknown_chan,
    State.chan_of_outline ((s.lineStopped n).loseOrders_outline n) h, State.ordersDropped_chan, s.lineStopped_chan n h]

theorem State.lineLost_plan (n : TxId) (byAccept : Bool) (s : State) : (s.lineLost n byAccept).plan n = none := by
  rw [State.lineLost_eq, State.plan_of_csq (State.loseTurn_csq n _),
    State.causeReaches_lineLost_plan (s.lineDown_lineUp n byAccept)]

theorem Ctx.orders_eq_iff (c : Ctx) (v : OrderView) : c.orders = v ↔ c.outstanding = v.outstanding ∧
    c.deferred = v.deferred ∧ c.owed = v.owed ∧ c.rf = v.rf ∧ c.source = v.source := by
  cases v; simp [Ctx.orders]

/-- A line that is lost stands as R84 says. -/
theorem State.lineLost_lostLine (n : TxId) (byAccept : Bool) (s : State) : lostLine s n (s.lineLost n byAccept) := by
  have still := s.lineLost_still n byAccept
  obtain ⟨outstanding, deferred, owed, rf, _⟩ := (Ctx.orders_eq_iff _ _).mp (s.lineLost_orders n byAccept)
  obtain ⟨state, cause⟩ := s.lineLost_unknown n byAccept
  have rows := State.rowPos_of_core (s.lineLost_core n byAccept)
  have selectors := State.selPos_of_core (s.lineLost_core n byAccept)
  refine ⟨?_, state, rf, cause, outstanding, deferred, ?_, s.lineLost_plan n byAccept, fun d h => ?_, rows, selectors,
    fun m other => ?_, State.hds_of_still still, State.snaps_of_still still, State.pins_of_still still⟩
  · rw [State.lineLost_lineUp, State.lineStopped_ctx]
  · rw [owed, Bool.or_eq_true, State.rfOffOnLine_iff]
  · rw [State.lineLost_chan n byAccept h]; rfl
  · rw [State.lineLost_lineUp, State.lineStopped_ctx_ne other]

theorem lostLine_congr {s u : State} (txs : u.txs = s.txs) (amx : u.amx = s.amx) (hds : u.hds = s.hds)
    (snaps : u.snaps = s.snaps) (pins : u.pins = s.pins) {n : TxId} {t : State} (h : lostLine u n t) : lostLine s n t := by
  simpa only [lostLine, State.ctx, txs, amx, hds, snaps, pins] using h

/-! ## Expiries (R28, R30) -/

theorem State.onExpiry_stopped {ch : ChanId} {s : State} (stopped : (s.chan ch).running = false) (f : State → State) :
    s.onExpiry ch f = s := by
  simp only [State.onExpiry, State.expire, stopped, Bool.false_and, Bool.false_eq_true, if_false]

theorem State.onExpiry_running {ch : ChanId} {s : State} (running : (s.chan ch).running = true)
    (gate : s.gateOpen ch = true) (once : ch.mode ≠ .periodic) (f : State → State) :
    s.onExpiry ch f = f ((s.elapse (s.chan ch).remaining).stopChan ch) := by
  simp only [State.onExpiry, State.expire, running, gate, Bool.and_self, if_true]

/-- The expiry of a line channel marks the line LOST. -/
theorem lostLine_onExpiry {n : TxId} {d : TxChan} {s : State} (running : (s.chan (.tx n d)).running = true)
    (gate : s.gateOpen (.tx n d) = true) (once : ChanId.mode (.tx n d) ≠ .periodic) (byAccept : Bool) :
    lostLine s n (s.onExpiry (.tx n d) (State.lineLost n byAccept)) := by
  rw [State.onExpiry_running running gate once]
  refine lostLine_congr ?_ ?_ ?_ ?_ ?_ (State.lineLost_lostLine n byAccept _) <;> simp [State.stopChan, State.elapse]

/-! ## A line is restored (R85) -/

/-- The line is UP and its silence channel runs (R85). -/
def State.lineUp (n : TxId) (s : State) : State :=
  ((s.updCtx n fun c => { c with lineUp := true }).post (.lineRestored n)).startChan (.tx n .silence) 3000

theorem State.lineUp_ctx (n : TxId) (s : State) : (s.lineUp n).ctx n = { s.ctx n with lineUp := true } := by
  simp only [State.lineUp, State.startChan_ctx, State.post_ctx, State.updCtx_ctx]

theorem State.lineUp_silence (n : TxId) (s : State) : (s.lineUp n).chan (.tx n .silence) = ⟨true, 3000, 3000⟩ :=
  State.startChan_chan _ _ _

theorem State.lineRestored_owed {n : TxId} {s : State} (owed : (s.ctx n).owed = true) : s.lineRestored n =
    (((s.lineUp n).updCtx n fun c => { c with owed := false }).sendNow n .txs .rfOff).askOrder n .txs .statusAsk := by
  have still : ((s.lineUp n).ctx n).owed = true := by rw [State.lineUp_ctx]; exact owed
  show State.askOrder n .txs .statusAsk (if ((s.lineUp n).ctx n).owed then _ else _) = _
  rw [if_pos still]
  rfl

theorem State.lineRestored_unowed {n : TxId} {s : State} (unowed : (s.ctx n).owed = false) :
    s.lineRestored n = (s.lineUp n).askOrder n .txs .statusAsk := by
  have still : ¬ ((s.lineUp n).ctx n).owed = true := by rw [State.lineUp_ctx]; simpa using unowed
  show State.askOrder n .txs .statusAsk (if ((s.lineUp n).ctx n).owed then _ else _) = _
  rw [if_neg still]
  rfl

/-- The line is UP once it is restored, whatever orders stand. -/
theorem State.lineRestored_up (n : TxId) (s : State) : ((s.lineRestored n).ctx n).lineUp = true := by
  have up : ((s.lineUp n).ctx n).lineUp = true := congrArg Ctx.lineUp (s.lineUp_ctx n)
  cases owed : (s.ctx n).owed with
  | false =>
    rw [State.lineRestored_unowed owed, State.lineUp_of_core (State.askOrder_core n .txs .statusAsk _), up]
  | true =>
    rw [State.lineRestored_owed owed, State.lineUp_of_core (State.askOrder_core n .txs .statusAsk _),
      State.lineUp_of_core (State.sendNow_core n .txs .rfOff _), State.updCtx_ctx]
    exact up

/-- STATUS-ASK of TXS is never refused where the source is not LOCAL (R88, R97). -/
theorem State.orderBar_statusAsk {s : State} {n : TxId} (remote : (s.ctx n).source ≠ .localKey) :
    s.orderBar n .txs .statusAsk = none := by
  simp [State.orderBar, remote, Ctx.takes, Order.upward]

/-- STATUS-ASK on a line that is UP and free is sent. -/
theorem State.askOrder_statusAsk_free {s : State} {n : TxId} (defined : s.txDefined n = true) (up : (s.ctx n).lineUp = true)
    (remote : (s.ctx n).source ≠ .localKey) (free : (s.ctx n).outstanding = none) :
    s.askOrder n .txs .statusAsk = s.sendNow n .txs .statusAsk := by
  simp [State.askOrder, defined, up, State.orderBar_statusAsk remote, free]

/-- STATUS-ASK on a line that is UP and has one order outstanding waits behind it. -/
theorem State.askOrder_statusAsk_behind {s : State} {n : TxId} (defined : s.txDefined n = true)
    (up : (s.ctx n).lineUp = true) (remote : (s.ctx n).source ≠ .localKey) (sent : (s.ctx n).outstanding.isSome = true)
    (next : (s.ctx n).deferred = none) : s.askOrder n .txs .statusAsk = s.slot n .txs .statusAsk := by
  simp [State.askOrder, defined, up, State.orderBar_statusAsk remote, sent, State.defer, next]

/-- A STATUS-ASK that is sent touches nothing of its context but its place on the line and the record of its sending. -/
theorem State.sendNow_statusAsk_ctx (n : TxId) (who : Asker) (s : State) : (s.sendNow n who .statusAsk).ctx n =
    { s.ctx n with
      outstanding := some ⟨.statusAsk, s.now, who, (s.ctx n).state, (s.ctx n).drive⟩
      unshown := noteSent .statusAsk (s.ctx n).unshown
      sentSince := (s.ctx n).sentSince.note .statusAsk } := State.updCtx_ctx n _ _

/-- An RF-OFF that is sent stops the ramp and makes the RF condition UNSURE (R92). -/
theorem State.sendNow_rfOff_ctx (n : TxId) (who : Asker) (s : State) : (s.sendNow n who .rfOff).ctx n =
    { s.ctx n with
      outstanding := some ⟨.rfOff, s.now, who, (s.ctx n).state, (s.ctx n).drive⟩
      unshown := noteSent .rfOff (s.ctx n).unshown
      sentSince := (s.ctx n).sentSince.note .rfOff
      ramp := none
      rf := .unsure } := by
  simp [State.sendNow, State.stopRamp, State.stopChan, State.startChan, State.setChan, State.updCtx, State.updProt, State.ctx]

theorem State.sendNow_statusAsk_silence (n : TxId) (who : Asker) (s : State) :
    (s.sendNow n who .statusAsk).chan (.tx n .silence) = s.chan (.tx n .silence) :=
  State.startChan_tx_ne (by decide) n 1000 s

theorem State.sendNow_rfOff_chans (n : TxId) (who : Asker) (s : State) :
    (s.sendNow n who .rfOff).chan (.tx n .silence) = s.chan (.tx n .silence) ∧
      (s.sendNow n who .rfOff).chan (.tx n .rfOff) = ⟨true, 5000, 5000⟩ := by
  have chan (ch : ChanId) : (s.sendNow n who .rfOff).chan ch =
      ((((s.startChan (.tx n .accept) 1000).stopChan (.tx n .ramp)).startChan (.tx n .rfOff) 5000)).chan ch := rfl
  rw [chan, chan, State.startChan_chan, State.startChan_tx_ne (by decide), State.stopChan, State.setChan_tx_ne (by decide),
    State.startChan_tx_ne (by decide)]
  exact ⟨rfl, rfl⟩

/-- A restored line with an RF-OFF owed: RF-OFF is sent and STATUS-ASK waits behind it. -/
theorem State.lineRestored_rfOff {n : TxId} {s : State} (defined : s.txDefined n = true) (next : (s.ctx n).deferred = none)
    (remote : (s.ctx n).source ≠ .localKey) (owed : (s.ctx n).owed = true) : s.lineRestored n =
      (((s.lineUp n).updCtx n fun c => { c with owed := false }).sendNow n .txs .rfOff).slot n .txs .statusAsk := by
  have ctx := ((s.lineUp n).updCtx n fun c => { c with owed := false }).sendNow_rfOff_ctx n .txs
  rw [State.updCtx_ctx, State.lineUp_ctx] at ctx
  rw [State.lineRestored_owed owed, State.askOrder_statusAsk_behind]
  · rw [State.txDefined_congr (State.hds_of_still (State.sendNow_still ..))]; exact defined
  · rw [ctx]
  · rw [ctx]; exact remote
  · rw [ctx]; rfl
  · rw [ctx]; exact next

/-- A report other than STATE that restores a line (R85). -/
theorem State.lineRestored_spec {n : TxId} {s : State} (defined : s.txDefined n = true)
    (free : (s.ctx n).outstanding = none) (next : (s.ctx n).deferred = none) (remote : (s.ctx n).source ≠ .localKey) :
    let t := s.lineRestored n
    (t.ctx n).lineUp = true ∧ t.chan (.tx n .silence) = ⟨true, 3000, 3000⟩ ∧ (t.ctx n).state = (s.ctx n).state ∧
      (t.ctx n).owed = false ∧
      ((s.ctx n).owed = true → (t.ctx n).outstanding.map (·.order) = some .rfOff ∧
        (t.ctx n).deferred.map (·.order) = some .statusAsk ∧ t.chan (.tx n .rfOff) = ⟨true, 5000, 5000⟩) ∧
      ((s.ctx n).owed = false → (t.ctx n).outstanding.map (·.order) = some .statusAsk ∧ (t.ctx n).deferred = none) := by
  refine ⟨s.lineRestored_up n, ?_⟩
  cases owed : (s.ctx n).owed with
  | true =>
    obtain ⟨silence, rfOff⟩ := ((s.lineUp n).updCtx n fun c => { c with owed := false }).sendNow_rfOff_chans n .txs
    have chan (ch : ChanId) (t : State) : (t.slot n .txs .statusAsk).chan ch = t.chan ch := rfl
    rw [State.lineRestored_rfOff defined next remote owed, chan, chan, silence, rfOff, State.slot, State.updCtx_ctx,
      State.sendNow_rfOff_ctx, State.updCtx_ctx, State.lineUp_ctx]
    exact ⟨s.lineUp_silence n, rfl, rfl, fun _ => ⟨rfl, rfl, rfl⟩, fun h => Bool.noConfusion h⟩
  | false =>
    have sent : s.lineRestored n = (s.lineUp n).sendNow n .txs .statusAsk := by
      rw [State.lineRestored_unowed owed, State.askOrder_statusAsk_free]
      · exact defined
      · rw [State.lineUp_ctx]
      · rw [State.lineUp_ctx]; exact remote
      · rw [State.lineUp_ctx]; exact free
    rw [sent, State.sendNow_statusAsk_silence, State.sendNow_statusAsk_ctx, State.lineUp_ctx, s.lineUp_silence n]
    exact ⟨rfl, rfl, owed, fun h => Bool.noConfusion h, fun _ => ⟨rfl, next⟩⟩

/-! ## Reports (R1, R85) -/

theorem State.report_undefined {n : TxId} {s : State} (undefined : s.txDefined n = false) (isState : Bool)
    (f : State → State) : s.report n isState f = s := by simp [State.report, undefined]

theorem State.report_lost {n : TxId} {s : State} (defined : s.txDefined n = true) (lost : (s.ctx n).lineUp = false)
    (isState : Bool) (f : State → State) :
    s.report n isState f = if isState then f (s.lineRestored n) else s.lineRestored n := by
  simp [State.report, defined, lost]

/-- Every report other than STATE is taken by `report`. -/
theorem exec_otherReport {n : TxId} {i : Instr} (h : otherReport n i) (s : State) :
    ∃ f, exec i s = .next (s.report n false f) := by
  rcases h with rfl | ⟨_, rfl⟩ | ⟨_, _, rfl⟩ | ⟨_, rfl⟩ | ⟨_, rfl⟩ | ⟨_, rfl⟩ | ⟨_, rfl⟩ <;> exact ⟨_, rfl⟩

/-- A STATE report is the last of its line once it is digested. -/
theorem State.digest_line (n : TxId) (r : StateReport) (s : State) :
    ((s.digest n r).ctx n).lineUp = (s.ctx n).lineUp ∧ ((s.digest n r).ctx n).last = some r := by
  have noted : (s.noteState n r).ctx n = { s.ctx n with
      rf := (s.ctx n).rfBy r, last := some r, unshown := (s.ctx n).unshown.filter fun o => !o.shownBy r } :=
    State.updCtx_ctx n _ s
  have up : ((s.digest n r).ctx n).lineUp = ((s.noteState n r).ctx n).lineUp :=
    congrArg (fun v : LineView => v.up n) (s.digest_lines n r)
  have last : ((s.digest n r).ctx n).last = ((s.noteState n r).ctx n).last :=
    congrArg (fun v : LineView => v.last n) (s.digest_lines n r)
  rw [up, last, noted]
  exact ⟨rfl, rfl⟩

end Sys2Proof.Machine

namespace Sys2Proof.Proofs
open Sys2Proof Sys2Proof.Machine Sys2Proof.Claims

/-- Settles O32, by the loss of a line (`lineLost_lostLine`), its restoration (`lineRestored_spec`) and the intake of reports. -/
theorem linesAreLostAndRestored : Obligations.LinesAreLostAndRestored := by
  intro s n
  refine ⟨fun running => ⟨_, rfl, ?_⟩, fun running => ⟨_, rfl, ?_⟩, fun stopped => ?_, fun stopped => ?_,
    fun i other defined lost free next remote => ?_, fun r defined lost => ?_, fun i report undefined => ?_⟩
  · exact lostLine_onExpiry running rfl (fun h => nomatch h) true
  · exact lostLine_onExpiry running rfl (fun h => nomatch h) false
  · exact congrArg _ (State.onExpiry_stopped stopped _)
  · exact congrArg _ (State.onExpiry_stopped stopped _)
  · obtain ⟨f, runs⟩ := exec_otherReport other s
    rw [State.report_lost defined lost] at runs
    exact ⟨_, runs, State.lineRestored_spec defined free next remote⟩
  · obtain ⟨up, last⟩ := (s.lineRestored n).digest_line n r
    have runs : exec (.state n r) s = .next ((s.lineRestored n).digest n r) :=
      congrArg _ (State.report_lost defined lost true (State.digest n r))
    exact ⟨_, runs, up.trans (s.lineRestored_up n), last⟩
  · rcases report with other | ⟨r, rfl⟩
    · obtain ⟨f, runs⟩ := exec_otherReport other s
      rw [runs, State.report_undefined undefined]
    · exact congrArg _ (State.report_undefined undefined true _)

end Sys2Proof.Proofs
end

section
/-! PROOFS. DEFINE-TX: its refusals, what an accepted definition stores, and what a removal takes away (R2, R3, R9, R10, R13 to
R16, R161). -/

namespace Sys2Proof.Machine
open Sys2Proof Sys2Proof.Claims

/-! ## Refusals (R10, R189) -/

theorem State.reqDefineTx_missing {s : State} {number k : Nat} {n : TxId} {f : TxFields} (halted : s.txs.hall = .halted)
    (item : itemOf 16 number = some n) (missing : txMissing f = some k) : s.reqDefineTx number f = s.refused .malformed k := by
  simp only [State.reqDefineTx, halted, if_true, item, missing]

/-- A record is built where no required field is missing. -/
theorem txMissing_of_record {f : TxFields} {d : TxDef} (built : txRecord f = some d) : txMissing f = none := by
  unfold txRecord at built
  split at built
  next r lo hi taps rating low high list =>
    simp only [txMissing, rating, low, high, list]
    rfl
  · cases built

theorem State.reqDefineTx_range {s : State} {number k : Nat} {n : TxId} {f : TxFields} {d : TxDef}
    (halted : s.txs.hall = .halted) (item : itemOf 16 number = some n) (built : txRecord f = some d)
    (bad : txFieldFault d = some k) : s.reqDefineTx number f = s.refused .range k := by
  simp only [State.reqDefineTx, halted, if_true, item, txMissing_of_record built, built, bad]

theorem State.reqDefineTx_accepted {s : State} {number : Nat} {n : TxId} {f : TxFields} {d : TxDef}
    (halted : s.txs.hall = .halted) (item : itemOf 16 number = some n) (built : txRecord f = some d)
    (fits : txFieldFault d = none) :
    s.reqDefineTx number f = (s.storeTx n d).ok ((s.storeTx n d).txBody n d (txClamped f)) := by
  simp only [State.reqDefineTx, halted, if_true, item, txMissing_of_record built, built, fits]

/-- The first required field of DEFINE-TX that is absent. -/
theorem txMissing_cases (f : TxFields) :
    (f.rating = none → txMissing f = some 2) ∧
    (f.rating ≠ none → f.bandLow = none → txMissing f = some 3) ∧
    (f.rating ≠ none → f.bandLow ≠ none → f.bandHigh = none → txMissing f = some 4) ∧
    (f.rating ≠ none → f.bandLow ≠ none → f.bandHigh ≠ none → f.taps = none → txMissing f = some 5) := by
  simp only [ne_eq, ← Option.isNone_iff_eq_none, ← Option.not_isSome, Bool.not_eq_true']
  refine ⟨fun a => ?_, fun a b => ?_, fun a b c => ?_, fun a b c d => ?_⟩ <;> simp_all [txMissing, firstBad]

/-! ## What follows a change of the description (R9, R15, R16) -/

/-- Computing the static minima and telling SCH write no run-time block but SCH, and of SCH no booking. -/
theorem State.described_blocks (s : State) :
    let t := s.recomputeMinima.tellSch
    t.txs = s.txs ∧ t.amx = s.amx ∧ t.swb = s.swb ∧ t.rfp = s.rfp ∧ t.csq = s.csq ∧ t.tim = s.tim ∧ t.clk = s.clk ∧
      t.snaps = s.snaps ∧ t.pins = s.pins ∧ t.sch.bookings = s.sch.bookings := by
  have beside := (State.tellSch_besideBanks s.recomputeMinima).trans s.recomputeMinima_besideBanks
  exact ⟨(congrArg State.txs beside :), (congrArg State.amx beside :), (congrArg State.swb beside :),
    (congrArg State.rfp beside :), (congrArg State.csq beside :), (congrArg State.tim beside :),
    (congrArg State.clk beside :), (congrArg State.snaps beside :), (congrArg State.pins beside :),
    (congrArg (fun t => t.sch.bookings) beside :)⟩

theorem banksFollow_described {s u : State} (staged : u.sch.staged = s.sch.staged) (active : u.sch.active = s.sch.active) :
    banksFollow s u.recomputeMinima.tellSch := banksFollow_tellSch staged active

/-! ## What a redefinition writes (R13, R161) -/

/-- A redefinition of TXn writes its RFP record alone. -/
theorem State.txStored_defined {s : State} {n : TxId} (defined : s.txDefined n = true) (d : TxDef) :
    s.txStored n d = (s.withTxDef n d).lowerRecycle n d.recycleLimit := if_pos defined

theorem State.holdTaps_prot {s : State} {n : TxId} {old : TxDef} (was : s.txDef n = some old) (d : TxDef) :
    (s.holdTaps n d).prot n = { s.prot n with
      taps := if old.taps = d.taps then (s.prot n).taps else some ((s.prot n).taps.getD old.taps) } := by
  simp only [State.holdTaps, was]
  split
  · rfl
  · rw [State.updProt_prot]

/-- The RFP record of a redefined transmitter. -/
theorem State.txStored_prot {s : State} {n : TxId} {old : TxDef} (was : s.txDef n = some old) (d : TxDef) :
    (s.txStored n d).prot n = { s.prot n with
      recycleCount := min (s.prot n).recycleCount d.recycleLimit
      taps := if old.taps = d.taps then (s.prot n).taps else some ((s.prot n).taps.getD old.taps) } := by
  have defined : s.txDefined n = true := by simp [State.txDefined, was]
  have held : (s.withTxDef n d).prot n = (s.holdTaps n d).prot n := rfl
  rw [State.txStored_defined defined, State.lowerRecycle, State.updProt_prot, held, State.holdTaps_prot was]

theorem State.holdTaps_blocks (n : TxId) (d : TxDef) (s : State) :
    let t := s.holdTaps n d
    t.txs = s.txs ∧ t.amx = s.amx ∧ t.swb = s.swb ∧ t.sch = s.sch ∧ t.clk = s.clk ∧ t.snaps = s.snaps ∧ t.pins = s.pins ∧
      ∀ m, m ≠ n → t.prot m = s.prot m := by
  simp only [State.holdTaps]
  split
  · split
    · simp
    · exact ⟨rfl, rfl, rfl, rfl, rfl, rfl, rfl, fun m other => State.updProt_prot_ne n m other _ s⟩
  · simp

/-- What a redefinition leaves of the state before SCH is told. -/
theorem State.txStored_defined_blocks {s : State} {n : TxId} (defined : s.txDefined n = true) (d : TxDef) :
    let t := s.txStored n d
    t.txs = s.txs ∧ t.amx = s.amx ∧ t.swb = s.swb ∧ t.sch = s.sch ∧ t.clk = s.clk ∧ t.snaps = s.snaps ∧ t.pins = s.pins ∧
      ∀ m, m ≠ n → t.prot m = s.prot m := by
  obtain ⟨txs, amx, swb, sch, clk, snaps, pins, prot⟩ := s.holdTaps_blocks n d
  rw [State.txStored_defined defined]
  exact ⟨txs, amx, swb, sch, clk, snaps, pins,
    fun m other => (State.updProt_prot_ne n m other _ (s.withTxDef n d)).trans (prot m other)⟩

/-! ## What a new transmitter enters with (R1, R5, R80, R161) -/

/-- A new transmitter's record, its first context and RFP record, and its row switch as an actuator, its silence channel started. -/
def State.txBegins (n : TxId) (d : TxDef) (s : State) : State :=
  (((((s.withTxDef n d).updCtx n fun _ => .powerOn).updProt n fun _ => .initial).actEnters (.row n)).startChan
    (.tx n .silence) 3000)

theorem State.txBegins_ctx (n : TxId) (d : TxDef) (s : State) : (s.txBegins n d).ctx n = .powerOn := by
  have ctx : (s.txBegins n d).ctx n = ((s.withTxDef n d).updCtx n fun _ => .powerOn).ctx n := rfl
  rw [ctx, State.updCtx_ctx]

theorem State.txBegins_txDefined (n : TxId) (d : TxDef) (s : State) : (s.txBegins n d).txDefined n = true := by
  have hds : (s.txBegins n d).hds = (s.withTxDef n d).hds := rfl
  simp [State.txDefined, State.txDef, hds, State.withTxDef_hds]

/-- A new transmitter is asked for its status. -/
theorem State.txStored_undefined {s : State} {n : TxId} (undefined : s.txDefined n = false) (d : TxDef) :
    s.txStored n d = (s.txBegins n d).sendNow n .txs .statusAsk := by
  have ctx := s.txBegins_ctx n d
  have enters : s.txStored n d = (s.txBegins n d).askOrder n .txs .statusAsk := by
    unfold State.txStored
    rw [undefined, if_neg Bool.false_ne_true]
    rfl
  rw [enters, State.askOrder_statusAsk_free (s.txBegins_txDefined n d)] <;> rw [ctx]
  · rfl
  · decide
  · rfl

theorem State.sendNow_statusAsk_blocks (n : TxId) (who : Asker) (s : State) :
    let t := s.sendNow n who .statusAsk
    t.amx = s.amx ∧ t.swb = s.swb ∧ t.rfp = s.rfp ∧ t.sch = s.sch ∧ t.clk = s.clk ∧ t.snaps = s.snaps ∧ t.pins = s.pins ∧
      ∀ m, m ≠ n → t.ctx m = s.ctx m :=
  ⟨rfl, rfl, rfl, rfl, rfl, rfl, rfl, fun m other => State.updCtx_ctx_ne n m other _ _⟩

theorem State.withTxDef_undefined {s : State} {n : TxId} (undefined : s.txDefined n = false) (d : TxDef) :
    s.withTxDef n d = { s with hds := { s.hds with tx := s.hds.tx.set n (some d) } } := by
  have none : s.txDef n = none := by simpa [State.txDefined] using undefined
  simp only [State.withTxDef, State.holdTaps, none]

theorem State.setPos_ctx (n : TxId) (act : ActId) (q : Pos) (s : State) : (s.setPos act q).ctx n = s.ctx n := by
  simp only [State.ctx, State.setPos_txs]

theorem State.setPos_prot (n : TxId) (act : ActId) (q : Pos) (s : State) : (s.setPos act q).prot n = s.prot n := by
  simp only [State.prot, State.setPos_rfp]

theorem State.setPos_ant (act : ActId) (q : Pos) (s : State) : (s.setPos act q).amx.ant = s.amx.ant := by
  cases act <;> rfl

/-- What a new transmitter leaves of the state before SCH is told. -/
theorem State.txBegins_blocks {s : State} {n : TxId} (undefined : s.txDefined n = false) (d : TxDef) :
    let t := s.txBegins n d
    t.sch = s.sch ∧ t.clk = s.clk ∧ t.snaps = s.snaps ∧ t.pins = s.pins ∧ t.amx.ant = s.amx.ant ∧
      ∀ m, m ≠ n → t.ctx m = s.ctx m ∧ t.prot m = s.prot m := by
  simp only [State.txBegins, State.withTxDef_undefined undefined, State.actEnters]
  refine ⟨by simp [State.startChan], by simp [State.startChan], by simp [State.startChan], by simp [State.startChan], ?_,
    fun m other => ⟨?_, ?_⟩⟩
  · simp only [State.startChan, State.setChan_amx, State.setPos_ant, State.setEntry_amx]; rfl
  · rw [State.startChan_ctx, State.setPos_ctx, State.ctx, State.setEntry_txs, State.updProt_txs]
    exact State.updCtx_ctx_ne n m other _ _
  · have begun (t : State) : (t.startChan (.tx n .silence) 3000).prot m = t.prot m := rfl
    rw [begun, State.setPos_prot, State.prot, State.setEntry_rfp]
    exact State.updProt_prot_ne n m other _ _

theorem State.txBegins_row (n : TxId) (d : TxDef) (s : State) :
    (s.txBegins n d).entry (.row n) = some .initial ∧ (s.txBegins n d).pos (.row n) = .unknown := by
  have entry (t : State) : ((t.actEnters (.row n)).startChan (.tx n .silence) 3000).entry (.row n) = some .initial :=
    State.setEntry_entry (.row n) _ t
  exact ⟨entry _, State.setPos_pos (.row n) .unknown _⟩

/-! ## The reply beside the state it is sent from -/

section Replied
variable (port : Port) (tag kind : Byte) (res : Result) (t : State)

theorem replied_hds : (replied port tag kind res t).hds = t.hds := State.updPort_hds port _ t
theorem replied_txs : (replied port tag kind res t).txs = t.txs := State.updPort_txs port _ t
theorem replied_amx : (replied port tag kind res t).amx = t.amx := State.updPort_amx port _ t
theorem replied_swb : (replied port tag kind res t).swb = t.swb := State.updPort_swb port _ t
theorem replied_rfp : (replied port tag kind res t).rfp = t.rfp := State.updPort_rfp port _ t
theorem replied_csq : (replied port tag kind res t).csq = t.csq := State.updPort_csq port _ t
theorem replied_sch : (replied port tag kind res t).sch = t.sch := State.updPort_sch port _ t
theorem replied_tim : (replied port tag kind res t).tim = t.tim := State.updPort_tim port _ t
theorem replied_clk : (replied port tag kind res t).clk = t.clk := State.updPort_clk port _ t
theorem replied_snaps : (replied port tag kind res t).snaps = t.snaps := State.updPort_snaps port _ t
theorem replied_pins : (replied port tag kind res t).pins = t.pins := State.updPort_pins port _ t

theorem replied_minimaStand (h : minimaStand t) : minimaStand (replied port tag kind res t) :=
  State.minimaStand_congr (replied_hds ..) h

theorem replied_entry (act : ActId) : (replied port tag kind res t).entry act = t.entry act := by
  cases act <;> simp only [State.entry, replied_swb]

theorem replied_pos (act : ActId) : (replied port tag kind res t).pos act = t.pos act := by
  cases act <;> simp only [State.pos, replied_amx]

theorem replied_ctx (n : TxId) : (replied port tag kind res t).ctx n = t.ctx n := by simp only [State.ctx, replied_txs]
theorem replied_prot (n : TxId) : (replied port tag kind res t).prot n = t.prot n := by simp only [State.prot, replied_rfp]
theorem replied_plan (n : TxId) : (replied port tag kind res t).plan n = t.plan n := by simp only [State.plan, replied_csq]
theorem replied_occ (n : TxId) : (replied port tag kind res t).occ n = t.occ n := by simp only [State.occ, replied_sch]
theorem replied_chan (ch : ChanId) : (replied port tag kind res t).chan ch = t.chan ch := by
  simp only [State.chan, replied_tim]

end Replied

/-! ## An accepted DEFINE-TX -/

theorem State.storeTx_groupOf (n m : TxId) (d : TxDef) (s : State) : (s.storeTx n d).groupOf m = s.groupOf m := by
  simp only [State.groupOf, State.storeTx_hds]

/-- Every definition leaves SCH to be told, and the blocks it does not concern. -/
theorem State.txStored_blocks (n : TxId) (d : TxDef) (s : State) :
    let t := s.txStored n d
    t.sch = s.sch ∧ t.amx.ant = s.amx.ant ∧ t.clk = s.clk ∧ t.snaps = s.snaps ∧ t.pins = s.pins ∧
      ∀ m, m ≠ n → t.ctx m = s.ctx m ∧ t.prot m = s.prot m := by
  cases defined : s.txDefined n with
  | true =>
    obtain ⟨txs, amx, swb, sch, clk, snaps, pins, prot⟩ := State.txStored_defined_blocks defined d
    exact ⟨sch, congrArg Amx.ant amx, clk, snaps, pins, fun m other => ⟨by rw [State.ctx, txs, State.ctx], prot m other⟩⟩
  | false =>
    obtain ⟨sch, clk, snaps, pins, ant, others⟩ := State.txBegins_blocks defined d
    obtain ⟨amx, _, rfp, sch', clk', snaps', pins', ctx⟩ := (s.txBegins n d).sendNow_statusAsk_blocks n .txs
    rw [State.txStored_undefined defined]
    refine ⟨sch'.trans sch, (congrArg Amx.ant amx).trans ant, clk'.trans clk, snaps'.trans snaps, pins'.trans pins,
      fun m other => ⟨(ctx m other).trans (others m other).1, ?_⟩⟩
    rw [State.prot, rfp]
    exact (others m other).2

/-- What a new transmitter enters with (R1, R5, R80). -/
theorem State.txStored_enters {s : State} {n : TxId} (undefined : s.txDefined n = false) (d : TxDef) :
    let t := s.txStored n d
    ((t.ctx n).state = .unknown ∧ (t.ctx n).rf = .unsure ∧ (t.ctx n).source = .auto ∧ (t.ctx n).trim = 1000) ∧
      (t.chan (.tx n .silence)).running = true ∧ t.entry (.row n) = some .initial ∧ t.pos (.row n) = .unknown := by
  obtain ⟨entry, pos⟩ := s.txBegins_row n d
  obtain ⟨amx, swb, _⟩ := (s.txBegins n d).sendNow_statusAsk_blocks n .txs
  rw [State.txStored_undefined undefined]
  refine ⟨?_, ?_, ?_, ?_⟩
  · rw [State.sendNow_statusAsk_ctx, State.txBegins_ctx]; exact ⟨rfl, rfl, rfl, rfl⟩
  · rw [State.sendNow_statusAsk_silence, State.txBegins, State.startChan_chan]
  · rw [State.entry, swb]; exact entry
  · rw [State.pos, amx]; exact pos

end Sys2Proof.Machine
end

section
/-! PROOFS. What an actuator that leaves its table reaches, and the removal of a transmitter (R5, R14, R36, R106, R134, R148). -/

namespace Sys2Proof.Machine
open Sys2Proof Sys2Proof.Claims

/-! ## No plan begins (R106)

Grants, arrivals and faults that AMX and SWB hand on change or remove plans; none of them creates one. -/

section NoPlanBegins
variable {m : TxId} {s : State} (h : s.plan m = none)
include h

theorem State.plan_none_of_csq {t : State} (same : t.csq = s.csq) : t.plan m = none := by
  rw [State.plan_of_csq same, h]

theorem State.setPlan_plan_none {n : TxId} (planned : s.plan n ≠ none) (p : Option Plan) : (s.setPlan n p).plan m = none := by
  have other : m ≠ n := by rintro rfl; exact planned h
  rw [State.setPlan_plan_ne n m other, h]

theorem State.updPlan_plan_none (n : TxId) (f : Plan → Plan) : (s.updPlan n f).plan m = none := by
  by_cases same : m = n
  · subst same; rw [State.updPlan_plan, h]; rfl
  · exact (State.setPlan_plan_ne n m same _ s).trans h

theorem State.offer_plan_none (a : AntId) : (s.offer a).plan m = none := by
  unfold State.offer
  split
  · split
    · split
      · exact State.updPlan_plan_none h _ _
      · exact h
    · exact h
  · exact h

theorem State.withdrawFrom_plan_none (a : AntId) (n : TxId) : (s.withdrawFrom a n).plan m = none := by
  unfold State.withdrawFrom
  split
  · dsimp only
    have kept (f : AntRun → AntRun) : (s.updRun a f).plan m = none := h
    split
    · exact State.offer_plan_none (kept _) a
    · exact h
  · exact h

theorem State.withdrawClaim_plan_none (n : TxId) : (s.withdrawClaim n).plan m = none := by
  unfold State.withdrawClaim
  split
  · exact State.withdrawFrom_plan_none h _ n
  · exact h

theorem State.endOwnership_plan_none (a : AntId) : (s.endOwnership a).plan m = none := by
  unfold State.endOwnership
  split
  · have offered := State.offer_plan_none (s := s.updRun a fun r => { r with owner := none }) h a
    unfold State.offerReservation
    split
    · exact State.offer_plan_none offered _
    · exact offered
  · exact h

omit h in
@[simp] theorem State.dropHeld_csq (p : Held → Bool) (s : State) : (s.dropHeld p).csq = s.csq :=
  State.each_view State.csq (s.amx.held.filter p) (f := State.retell) (fun _ _ => rfl) _

theorem State.removePlan_plan_none (n : TxId) : (s.removePlan n).plan m = none := by
  by_cases same : m = n
  · subst same; exact State.removePlan_plan m s
  · have dropped : ((s.withdrawClaim n).dropHeld fun h => decide (h.asker = .plan n)).plan m = none :=
      State.plan_none_of_csq (State.withdrawClaim_plan_none h n) (State.dropHeld_csq _ _)
    exact (State.setPlan_plan_ne n m same none _).trans dropped

theorem State.planDone_plan_none (n : TxId) (p : Plan) : (s.planDone n p).plan m = none := by
  have owned (u : Setpoint) : (s.ownAs n u).csq = s.csq := by unfold State.ownAs; split <;> rfl
  have live (t : State) (id : TargetId) : (t.recordLive n id).csq = t.csq := by
    unfold State.recordLive
    split
    · split <;> rfl
    · rfl
  unfold State.planDone
  dsimp only
  split <;> split <;> refine State.removePlan_plan_none (State.plan_none_of_csq h ?_) n <;> simp [owned, live]

theorem State.settlePlan_plan_none (n : TxId) : (s.settlePlan n).plan m = none := by
  unfold State.settlePlan
  split
  next p planned =>
    split_ifs
    · exact h
    · exact State.planDone_plan_none h n p
    · exact State.setPlan_plan_none h (by simp [planned]) _
    · exact h
  · exact h

theorem State.endPhase_plan_none (n : TxId) (ph : Phase) : (s.endPhase n ph).plan m = none := by
  unfold State.endPhase
  split
  next p planned =>
    split
    · exact State.settlePlan_plan_none (State.setPlan_plan_none h (by simp [planned]) _) n
    · exact h
  · exact h

theorem State.planMoved_plan_none (act : ActId) (p : Place) (n : TxId) : (s.planMoved act p n).plan m = none := by
  unfold State.planMoved
  split
  next q planned =>
    have rest (q : Plan) := State.setPlan_plan_none h (by simp [planned]) (some q) (n := n)
    split
    · dsimp only
      split
      · exact rest _
      · exact State.endPhase_plan_none (rest _) n _
    · exact h
  · exact h

theorem State.abandon_plan_none (n : TxId) (cause : Cause) : (s.abandon n cause).plan m = none := by
  unfold State.abandon
  split
  next p planned =>
    have other : m ≠ n := by rintro rfl; simp [planned] at h
    have dropped (q : Option Plan) (t : State) (posted : t.plan m = none) :
        (((t.setPlan n q).withdrawClaim n).dropHeld fun h => decide (h.asker = .plan n)).plan m = none :=
      State.plan_none_of_csq (State.withdrawClaim_plan_none ((State.setPlan_plan_ne n m other q t).trans posted) n)
        (State.dropHeld_csq _ _)
    have wound (t : State) (k : Nat) (hp : HoldPoint) (free : t.plan m = none) : (t.windDown n cause k hp).plan m = none :=
      State.settlePlan_plan_none ((State.setPlan_plan_ne n m other _ t).trans free) n
    have posted (nt : Notice) : (s.post nt).plan m = none := h
    have stopped (t : State) (free : t.plan m = none) : (t.stopRecycle n).plan m = none :=
      State.plan_none_of_csq free (t.stopRecycle_csq n)
    have lost (t : State) (id : TargetId) (free : t.plan m = none) : (t.recordLost n id cause).plan m = none :=
      State.plan_none_of_csq free (t.recordLost_csq n id cause)
    dsimp only
    split <;> split
    · exact wound _ _ _ (stopped _ (lost _ _ (dropped _ _ (posted _))))
    · exact wound _ _ _ (stopped _ (dropped _ _ (posted _)))
    · exact State.removePlan_plan_none (stopped _ (lost _ _ (dropped _ _ (posted _)))) n
    · exact State.removePlan_plan_none (stopped _ (dropped _ _ (posted _))) n
  · exact h

theorem State.planActuatorFault_plan_none (n : TxId) (act : ActId) : (s.planActuatorFault n act).plan m = none := by
  unfold State.planActuatorFault
  split
  · split_ifs
    · exact State.removePlan_plan_none h n
    · exact h
    · exact State.abandon_plan_none h n _
  · exact h

theorem State.askMove_plan_none (who : MoveAsker) (act : ActId) (p : Place) : (s.askMove who act p).plan m = none := by
  have grounded : (s.grounded act p).plan m = none := by
    unfold State.grounded
    split
    · exact State.endOwnership_plan_none h _
    · exact h
  unfold State.askMove
  split
  · split
    · dsimp only
      refine State.planMoved_plan_none ?_ ..
      split
      · split
        · exact grounded
        · exact h
      · exact h
    · exact h
  · split
    · split
      · exact State.planActuatorFault_plan_none h _ act
      · exact h
    · exact h

end NoPlanBegins

/-- A property that an operation keeps at each item is kept over a list of items. -/
theorem State.each_keeps {α : Type} {P : State → Prop} {f : α → State → State} (step : ∀ x t, P t → P (f x t)) (l : List α)
    {s : State} (h : P s) : P (s.each l f) := by
  unfold State.each
  induction l generalizing s with
  | nil => exact h
  | cons x l ih => exact ih (step x s h)

theorem State.askAgain_plan_none {m : TxId} {s : State} (h : s.plan m = none) : s.askAgain.plan m = none := by
  refine State.each_keeps (P := fun t => t.plan m = none) (fun x t free => ?_) _ h
  split
  · split
    · exact State.askMove_plan_none free ..
    · exact free
  · exact free

/-! ## Query answers and the table leave CSQ alone -/

@[simp] theorem State.stopWork_csq (n : TxId) (s : State) : (s.stopWork n).csq = s.csq := rfl

@[simp] theorem State.toState_csq (n : TxId) (st : CtxState) (s : State) : (s.toState n st).csq = s.csq := rfl

@[simp] theorem State.toFaulted_csq (n : TxId) (f : FaultCause) (s : State) : (s.toFaulted n f).csq = s.csq := rfl

@[simp] theorem State.rebuildTo_csq (n : TxId) (st : CtxState) (s : State) : (s.rebuildTo n st).csq = s.csq := by
  unfold State.rebuildTo; split <;> rfl

@[simp] theorem State.rebuild_csq (n : TxId) (r : StateReport) (s : State) : (s.rebuild n r).csq = s.csq := by
  unfold State.rebuild
  split
  · simp
  · split
    · split <;> simp [State.startChan]
    · rfl
  · simp
  · split <;> simp [State.startChan]
  · simp
  · simp
  · split <;> simp
  · simp

@[simp] theorem State.clearRebuild_csq (n : TxId) (s : State) : (s.clearRebuild n).csq = s.csq := by
  unfold State.clearRebuild; split <;> simp

@[simp] theorem State.judgeAdoption_csq (n : TxId) (s : State) : (s.judgeAdoption n).csq = s.csq := by
  unfold State.judgeAdoption
  dsimp only
  split
  · split
    · split <;> simp
    · simp
  · rfl

@[simp] theorem State.clearingAnswered_csq (act : ActId) (n : TxId) (s : State) : (s.clearingAnswered act n).csq = s.csq := by
  unfold State.clearingAnswered
  dsimp only
  split_ifs <;> simp

@[simp] theorem State.answerQueries_csq (act : ActId) (l : List Requester) (s : State) :
    (s.answerQueries act l).csq = s.csq := by
  refine State.each_view State.csq l (fun q t => ?_) s
  split
  · simp
  · exact State.eachTx_view State.csq (fun n u => u.clearingAnswered_csq act n) t
  · rfl

@[simp] theorem State.fillQueries_csq (s : State) : s.fillQueries.csq = s.csq := by
  refine State.each_view State.csq allAct (fun act t => ?_) s
  split
  · split
    · simp only [State.setQueue_csq, State.updEntry, State.setEntry_csq]
    · rfl
  · rfl

/-! ## An actuator leaves its table (R5) -/

/-- The table without the actuator, and its recorded position UNKNOWN: what the rest of its leaving does not touch. -/
def State.actDropped (act : ActId) (s : State) : State := (s.setEntry act none).setPos act .unknown

theorem State.withFlight_outline (l : List Held) (s : State) :
    ({ s with amx := { s.amx with flight := l } } : State).outline = s.outline := rfl

theorem State.actLeaves_undefined {act : ActId} {s : State} (undefined : s.entry act = none) : s.actLeaves act = s := by
  simp only [State.actLeaves, undefined]

theorem State.actLeaves_core {act : ActId} {s : State} (defined : s.entry act ≠ none) :
    (s.actLeaves act).outline.core = (s.actDropped act).outline.core := by
  obtain ⟨e, entry⟩ := Option.ne_none_iff_exists'.mp defined
  simp only [State.actLeaves, entry, State.askAgain_outline, State.answerQueries_core, State.withFlight_outline,
    State.dropHeld_outline, State.fillQueries_outline, State.setQueue_outline, State.stopChan_core, State.actDropped]

theorem State.actLeaves_plan_none {m : TxId} {s : State} (h : s.plan m = none) (act : ActId) :
    (s.actLeaves act).plan m = none := by
  cases entry : s.entry act with
  | none => rw [State.actLeaves_undefined entry, h]
  | some e =>
    simp only [State.actLeaves, entry]
    refine State.askAgain_plan_none (State.plan_none_of_csq h ?_)
    rw [State.answerQueries_csq]
    simp only [State.dropHeld_csq, State.fillQueries_csq, State.setQueue_csq, State.stopChan, State.setChan_csq,
      State.setPos_csq, State.setEntry_csq]

theorem State.actLeaves_entry (act : ActId) (s : State) : (s.actLeaves act).entry act = none := by
  cases entry : s.entry act with
  | none => rw [State.actLeaves_undefined entry, entry]
  | some e =>
    have defined : ((s.actLeaves act).entry act).isSome = ((s.actDropped act).entry act).isSome :=
      congrArg (fun v : CoreView => v.defined act) (State.actLeaves_core (by simp [entry]))
    have dropped : (s.actDropped act).entry act = none := by
      have table : (s.actDropped act).entry act = (s.setEntry act none).entry act := by
        simp only [State.actDropped, State.entry, State.setPos_swb]
      rw [table, State.setEntry_entry]
    simpa [dropped] using defined

/-- The banks, the clock and the other actuators' places in the table stay as an actuator leaves. -/
theorem State.actLeaves_keeps (act : ActId) (s : State) :
    (s.actLeaves act).sch.staged = s.sch.staged ∧ (s.actLeaves act).sch.active = s.sch.active ∧
      (s.actLeaves act).clk = s.clk ∧ ∀ b, b ≠ act → (s.actLeaves act).actDefined b = s.actDefined b := by
  cases entry : s.entry act with
  | none => rw [State.actLeaves_undefined entry]; exact ⟨rfl, rfl, rfl, fun _ _ => rfl⟩
  | some e =>
    have core := State.actLeaves_core (act := act) (s := s) (by simp [entry])
    have staged : (s.actLeaves act).sch.staged = (s.actDropped act).sch.staged := congrArg CoreView.staged core
    have active : (s.actLeaves act).sch.active = (s.actDropped act).sch.active := congrArg CoreView.active core
    have clk : (s.actLeaves act).clk = (s.actDropped act).clk := congrArg CoreView.clk core
    have defined (b : ActId) : (s.actLeaves act).actDefined b = (s.actDropped act).actDefined b :=
      congrArg (fun v : CoreView => v.defined b) core
    have table (b : ActId) : (s.actDropped act).entry b = (s.setEntry act none).entry b := by
      cases b <;> simp only [State.actDropped, State.entry, State.setPos_swb]
    refine ⟨?_, ?_, ?_, fun b other => ?_⟩
    · rw [staged, State.actDropped, State.setPos_sch, State.setEntry_sch]
    · rw [active, State.actDropped, State.setPos_sch, State.setEntry_sch]
    · rw [clk, State.actDropped, State.setPos_clk, State.setEntry_clk]
    · rw [defined, State.actDefined, table, State.setEntry_entry_ne other, State.actDefined]

/-! ## Bookings that a removal ends (R14, R76) -/

/-- A booking that still stands once the booking with an ID has left. -/
theorem State.bookingLeaves_mem {id : Nat} {c : BookEnd} {s : State} {b : Booking} :
    b ∈ (s.bookingLeaves id c).sch.bookings ↔ b ∈ s.sch.bookings ∧ b.id ≠ id := by
  unfold State.bookingLeaves
  split
  · simp only [State.post_sch, List.mem_filter, Bool.not_eq_true', decide_eq_false_iff_not]
  next absent =>
    have none (x : Booking) (hx : x ∈ s.sch.bookings) : x.id ≠ id := by simpa using List.find?_eq_none.mp absent x hx
    exact ⟨fun hb => ⟨hb, none b hb⟩, fun hb => hb.1⟩

theorem State.each_bookingLeaves_mem (l : List Booking) {s : State} {b : Booking} :
    b ∈ (s.each l fun x t => t.bookingLeaves x.id .removed).sch.bookings ↔
      b ∈ s.sch.bookings ∧ ∀ x ∈ l, b.id ≠ x.id := by
  unfold State.each
  induction l generalizing s with
  | nil => simp
  | cons x l ih => simp only [List.foldl_cons, ih, State.bookingLeaves_mem, List.forall_mem_cons, and_assoc]

/-- A removal leaves no booking that it ends, and adds none. -/
theorem State.removeBookings_mem {p : Booking → Bool} {s : State} {b : Booking}
    (h : b ∈ (s.removeBookings p).sch.bookings) : b ∈ s.sch.bookings ∧ p b = false := by
  obtain ⟨stands, spared⟩ := (State.each_bookingLeaves_mem _).mp h
  refine ⟨stands, ?_⟩
  by_contra ends
  exact spared b (List.mem_filter.mpr ⟨stands, by simpa using ends⟩) rfl

@[simp] theorem State.removeBookings_outline (p : Booking → Bool) (s : State) : (s.removeBookings p).outline = s.outline :=
  State.each_outline (s.sch.bookings.filter p) _ (fun b t => t.bookingLeaves_outline b.id .removed) s

@[simp] theorem State.removeBookings_csq (p : Booking → Bool) (s : State) : (s.removeBookings p).csq = s.csq :=
  State.each_view State.csq (s.sch.bookings.filter p) (fun b t => t.bookingLeaves_csq b.id .removed) s

/-! ## Occurrence records (R55) -/

/-- A transmitter without occurrence records has none after SCH is told of a change. -/
theorem State.tellSch_occ {s : State} {n : TxId} (h : s.occ n = ⟨none, none⟩) : s.tellSch.occ n = ⟨none, none⟩ := by
  have done (m : TxId) (id : TargetId) (t : State) (free : t.occ n = ⟨none, none⟩) :
      (t.recordDone m id .changeover).occ n = ⟨none, none⟩ := by
    have status (st : OccStatus) : (t.setStatus m id st).occ n = ⟨none, none⟩ := by
      by_cases same : n = m
      · subst same; rw [State.setStatus, State.updOcc_occ, free]; rfl
      · rw [State.setStatus]
        exact (getElem_set_of_ne t.sch.occ same _).trans free
    unfold State.recordDone
    split
    · split
      · dsimp only; split <;> exact status _
      · exact free
    · exact free
  have generation (old : Nat) (m : TxId) (t : State) (free : t.occ n = ⟨none, none⟩) :
      (t.endGeneration old m).occ n = ⟨none, none⟩ :=
    State.each_keeps (P := fun t => t.occ n = ⟨none, none⟩) (done m) _ free
  have triggered (src : Trigger) (t : State) (free : t.occ n = ⟨none, none⟩) : (t.trigger src).occ n = ⟨none, none⟩ := by
    unfold State.trigger
    split
    · simp only [State.promote]
      split
      · exact State.each_keeps (P := fun t => t.occ n = ⟨none, none⟩) (generation _) allTx free
      · exact free
    · exact free
  have ends (t : State) (free : t.occ n = ⟨none, none⟩) : t.sweepEnds.occ n = ⟨none, none⟩ := by
    unfold State.sweepEnds
    extract_lets b out u
    split
    · exact triggered _ u free
    · exact free
  have swept : s.restartSweep.occ n = ⟨none, none⟩ := by
    simp only [State.restartSweep, State.sweepBegins]
    split
    · split
      · exact ends _ h
      · exact h
    · exact h
  exact swept

/-! ## A transmitter is removed (R14) -/

theorem State.withoutTx_blocks (n : TxId) (s : State) :
    let t := (s.removePlan n).actLeaves (.row n)
    (s.withoutTx n).sch = t.sch ∧ (s.withoutTx n).clk = t.clk ∧ (s.withoutTx n).swb = t.swb ∧ (s.withoutTx n).pins = t.pins ∧
      (s.withoutTx n).plan n = t.plan n := by
  simp only [State.withoutTx, State.plan, and_self]

theorem State.removePlan_keeps (n : TxId) (s : State) : (s.removePlan n).sch.staged = s.sch.staged ∧
    (s.removePlan n).sch.active = s.sch.active ∧ (s.removePlan n).clk = s.clk := by
  have core := congrArg Outline.core (s.removePlan_outline n)
  exact ⟨(congrArg CoreView.staged core :), (congrArg CoreView.active core :), (congrArg CoreView.clk core :)⟩

theorem State.removeBookings_keeps (p : Booking → Bool) (s : State) : (s.removeBookings p).sch.staged = s.sch.staged ∧
    (s.removeBookings p).sch.active = s.sch.active ∧ (s.removeBookings p).clk = s.clk ∧
    ∀ act, (s.removeBookings p).actDefined act = s.actDefined act := by
  have core := congrArg Outline.core (s.removeBookings_outline p)
  exact ⟨(congrArg CoreView.staged core :), (congrArg CoreView.active core :), (congrArg CoreView.clk core :),
    fun act => (congrArg (fun v : CoreView => v.defined act) core :)⟩

/-- The context, the RFP record and the occurrence records of TXn emptied (R14). -/
def State.txEmptied (n : TxId) (s : State) : State :=
  ((s.updCtx n fun _ => .powerOn).updProt n fun _ => .initial).updOcc n fun _ => ⟨none, none⟩

theorem State.txRemoved_eq (n : TxId) (s : State) :
    s.txRemoved n = ((s.withoutTx n).removeBookings fun b => decide (b.tx = n)).txEmptied n := rfl

theorem State.txEmptied_blocks (n : TxId) (s : State) :
    let t := s.txEmptied n
    t.sch.staged = s.sch.staged ∧ t.sch.active = s.sch.active ∧ t.sch.bookings = s.sch.bookings ∧ t.clk = s.clk ∧
      t.pins = s.pins ∧ t.csq = s.csq ∧ t.swb = s.swb ∧
      t.ctx n = .powerOn ∧ t.prot n = .initial ∧ t.occ n = ⟨none, none⟩ :=
  ⟨rfl, rfl, rfl, rfl, rfl, rfl, rfl, State.updCtx_ctx n (fun _ => .powerOn) s,
    State.updProt_prot n (fun _ => .initial) _, State.updOcc_occ n (fun _ => ⟨none, none⟩) _⟩

/-- What stands once the bookings of TXn have left. -/
theorem State.txUnbooked_blocks (n : TxId) (s : State) :
    let t := (s.withoutTx n).removeBookings fun b => decide (b.tx = n)
    t.sch.staged = s.sch.staged ∧ t.sch.active = s.sch.active ∧ t.clk = s.clk ∧ t.pins = s.pins ∧ t.plan n = none ∧
      t.entry (.row n) = none := by
  obtain ⟨sch, clk, swb, pins, plan⟩ := s.withoutTx_blocks n
  obtain ⟨staged, active, clk₁⟩ := s.removePlan_keeps n
  obtain ⟨staged₂, active₂, clk₂, _⟩ := (s.removePlan n).actLeaves_keeps (.row n)
  obtain ⟨staged₃, active₃, clk₃, defined⟩ := (s.withoutTx n).removeBookings_keeps fun b => decide (b.tx = n)
  have entry : (s.withoutTx n).entry (.row n) = none := by
    rw [State.entry, swb]; exact (s.removePlan n).actLeaves_entry (.row n)
  refine ⟨?_, ?_, ?_, ?_, ?_, ?_⟩
  · rw [staged₃, sch, staged₂, staged]
  · rw [active₃, sch, active₂, active]
  · rw [clk₃, clk, clk₂, clk₁]
  · rw [State.pins_of_still (State.removeBookings_still _ _), pins, State.pins_of_still (s.rowLeaves_still n)]
  · rw [State.plan_of_csq (State.removeBookings_csq _ _), plan]
    exact State.actLeaves_plan_none (s.removePlan_plan n) _
  · have gone := defined (.row n)
    simpa [State.actDefined, entry] using gone

/-- What a removal leaves of the banks, the clock and the inputs before SCH is told, and what goes. -/
theorem State.txRemoved_blocks (n : TxId) (s : State) :
    let t := s.txRemoved n
    (t.sch.staged = s.sch.staged ∧ t.sch.active = s.sch.active) ∧ t.clk = s.clk ∧ t.pins = s.pins ∧
      t.ctx n = .powerOn ∧ t.prot n = .initial ∧ t.occ n = ⟨none, none⟩ ∧ t.plan n = none ∧
      (∀ b ∈ t.sch.bookings, b.tx ≠ n) ∧ t.entry (.row n) = none := by
  obtain ⟨staged, active, clk, pins, plan, entry⟩ := s.txUnbooked_blocks n
  obtain ⟨staged', active', bookings, clk', pins', csq, swb, ctx, prot, occ⟩ :=
    ((s.withoutTx n).removeBookings fun b => decide (b.tx = n)).txEmptied_blocks n
  rw [State.txRemoved_eq]
  refine ⟨⟨staged'.trans staged, active'.trans active⟩, clk'.trans clk, pins'.trans pins, ctx, prot, occ,
    ?_, fun b standing => ?_, ?_⟩
  · rw [State.plan_of_csq csq, plan]
  · rw [bookings] at standing
    simpa using (State.removeBookings_mem standing).2
  · rw [State.entry, swb]; exact entry

end Sys2Proof.Machine
end

section
/-! PROOFS. DEFINE-TX, definition and removal (O10). -/

namespace Sys2Proof.Machine
open Sys2Proof Sys2Proof.Claims

/-! ## The answers of a removal (R14) -/

/-- What bars the removal of TXn at ANa (R14). -/
def State.barring (s : State) (n : TxId) (a : AntId) : Prop := s.antDefined a = true ∧
  (s.owned n = some a ∨ s.pos (.sel a) = .atp (.tx n) ∨ s.pos (.sel a) = .travelling (.tx n))

theorem State.barring_iff (s : State) (n : TxId) (a : AntId) :
    s.barring n a ↔ a ∈ s.definedAnt ∧ s.barsRemoval n a = true := by
  simp [State.barring, State.definedAnt, allAnt, State.barsRemoval, or_assoc]

/-- The antennas are listed in ascending order. -/
theorem State.definedAnt_sorted (s : State) : s.definedAnt.Pairwise (· < ·) :=
  (List.pairwise_lt_finRange 40).filter _

/-- The antenna a removal is refused for is the lowest that bars it. -/
theorem State.find_barring {s : State} {n : TxId} {a : AntId} (bars : s.barring n a) (least : ∀ b, s.barring n b → a ≤ b) :
    s.definedAnt.find? (s.barsRemoval n) = some a := by
  obtain ⟨mem, hit⟩ := (s.barring_iff n a).mp bars
  cases found : s.definedAnt.find? (s.barsRemoval n) with
  | none => exact absurd hit (List.find?_eq_none.mp found a mem)
  | some b =>
    obtain ⟨hits, before, after, split, misses⟩ := List.find?_eq_some_iff_append.mp found
    have low : a ≤ b := least b ((s.barring_iff n b).mpr ⟨List.mem_of_find?_eq_some found, hits⟩)
    have sorted := s.definedAnt_sorted
    rw [split] at mem sorted
    rcases List.mem_append.mp mem with early | late
    · simpa [hit] using misses a early
    · rcases List.mem_cons.mp late with same | later
      · rw [same]
      · have above := List.rel_of_pairwise_cons (List.pairwise_append.mp sorted).2.1 later
        exact absurd low (not_le.mpr above)

theorem State.find_barring_none {s : State} {n : TxId} (free : ∀ a, ¬ s.barring n a) :
    s.definedAnt.find? (s.barsRemoval n) = none :=
  List.find?_eq_none.mpr fun a mem hit => free a ((s.barring_iff n a).mpr ⟨mem, hit⟩)

/-! ## What a definition and a removal leave -/

/-- An accepted definition (R9, R10, R13, R15, R16). -/
theorem State.storeTx_spec (n : TxId) (d : TxDef) (s : State) :
    let t := s.storeTx n d
    (t.hds.tx = s.hds.tx.set n (some d) ∧ t.hds.ant = s.hds.ant ∧ t.hds.hall = s.hds.hall ∧ t.hds.zones = s.hds.zones) ∧
      minimaStand t ∧ banksFollow s t ∧
      (∀ m, m ≠ n → t.ctx m = s.ctx m ∧ t.prot m = s.prot m) ∧ t.amx.ant = s.amx.ant ∧ t.clk = s.clk ∧ t.snaps = s.snaps ∧
      t.pins = s.pins := by
  obtain ⟨sch, ant, clk, snaps, pins, others⟩ := s.txStored_blocks n d
  obtain ⟨txs', amx', _, rfp', _, _, clk', snaps', pins', _⟩ := (s.txStored n d).described_blocks
  refine ⟨?_, ?_, ?_, fun m other => ?_, ?_, ?_, ?_, ?_⟩
  · rw [State.storeTx_hds]; exact ⟨rfl, rfl, rfl, rfl⟩
  · exact State.minimaStand_tellSch _
  · exact banksFollow_described (congrArg Sch.staged sch) (congrArg Sch.active sch)
  · rw [State.storeTx_eq, State.ctx, State.prot, txs', rfp']; exact others m other
  · rw [State.storeTx_eq, amx', ant]
  · rw [State.storeTx_eq, clk', clk]
  · rw [State.storeTx_eq, snaps', snaps]
  · rw [State.storeTx_eq, pins', pins]

/-- A redefinition leaves the contexts, the matrix and the bus, and writes the RFP record (R13, R161). -/
theorem State.storeTx_redefined {s : State} {n : TxId} (d : TxDef) :
    let t := s.storeTx n d
    (s.txDefined n = true → t.txs = s.txs ∧ t.amx = s.amx ∧ t.swb = s.swb) ∧
      ∀ old, s.txDef n = some old → t.prot n = { s.prot n with
        recycleCount := min (s.prot n).recycleCount d.recycleLimit
        taps := if old.taps = d.taps then (s.prot n).taps else some ((s.prot n).taps.getD old.taps) } := by
  obtain ⟨txs', amx', swb', rfp', _⟩ := (s.txStored n d).described_blocks
  rw [State.storeTx_eq]
  refine ⟨fun defined => ?_, fun old was => ?_⟩
  · obtain ⟨txs, amx, swb, _⟩ := State.txStored_defined_blocks defined d
    exact ⟨txs'.trans txs, amx'.trans amx, swb'.trans swb⟩
  · rw [State.prot, rfp']; exact State.txStored_prot was d

/-- A new transmitter enters with its power-on values (R1, R5, R80). -/
theorem State.storeTx_enters {s : State} {n : TxId} (undefined : s.txDefined n = false) (d : TxDef) :
    let t := s.storeTx n d
    (t.ctx n).state = .unknown ∧ (t.ctx n).rf = .unsure ∧ (t.ctx n).source = .auto ∧ (t.ctx n).trim = 1000 ∧
      (t.chan (.tx n .silence)).running = true ∧ t.entry (.row n) = some .initial ∧ t.pos (.row n) = .unknown := by
  obtain ⟨⟨state, rf, source, trim⟩, silence, entry, pos⟩ := State.txStored_enters undefined d
  obtain ⟨txs', amx', swb', _, _, tim', _⟩ := (s.txStored n d).described_blocks
  have ctx : (s.storeTx n d).ctx n = (s.txStored n d).ctx n := by rw [State.storeTx_eq, State.ctx, txs', State.ctx]
  have chan : (s.storeTx n d).chan (.tx n .silence) = (s.txStored n d).chan (.tx n .silence) := by
    rw [State.storeTx_eq, State.chan, tim', State.chan]
  have table : (s.storeTx n d).entry (.row n) = (s.txStored n d).entry (.row n) := by
    rw [State.storeTx_eq, State.entry, swb', State.entry]
  have place : (s.storeTx n d).pos (.row n) = (s.txStored n d).pos (.row n) := by
    rw [State.storeTx_eq, State.pos, amx', State.pos]
  dsimp only
  rw [ctx, chan, table, place]
  exact ⟨state, rf, source, trim, silence, entry, pos⟩

theorem State.recomputeMinima_occ (n : TxId) (s : State) : s.recomputeMinima.occ n = s.occ n := by
  simp only [State.occ, State.recomputeMinima]

/-- An accepted removal (R9, R14, R15, R16). -/
theorem State.removeTx_spec (n : TxId) (s : State) :
    let t := s.removeTx n
    (t.hds.tx = s.hds.tx.set n none ∧ t.hds.ant = s.hds.ant ∧ t.hds.hall = s.hds.hall) ∧ minimaStand t ∧
      t.ctx n = .powerOn ∧ t.prot n = .initial ∧ t.occ n = ⟨none, none⟩ ∧ t.plan n = none ∧
      (∀ b ∈ t.sch.bookings, b.tx ≠ n) ∧ t.entry (.row n) = none ∧ banksFollow s t ∧ t.clk = s.clk ∧ t.pins = s.pins := by
  obtain ⟨⟨staged, active⟩, clk, pins, ctx, prot, occ, plan, bookings, entry⟩ := s.txRemoved_blocks n
  obtain ⟨txs', _, swb', rfp', csq', _, clk', _, pins', bookings'⟩ := (s.txRemoved n).described_blocks
  refine ⟨?_, ?_, ?_, ?_, ?_, ?_, ?_, ?_, ?_, ?_, ?_⟩
  · rw [State.removeTx_hds]; exact ⟨rfl, rfl, rfl⟩
  · rw [State.removeTx_eq]; exact State.minimaStand_tellSch _
  · rw [State.removeTx_eq, State.ctx, txs']; exact ctx
  · rw [State.removeTx_eq, State.prot, rfp']; exact prot
  · rw [State.removeTx_eq, State.tellSch_occ]
    rw [State.recomputeMinima_occ, occ]
  · rw [State.removeTx_eq, State.plan_of_csq csq', plan]
  · rw [State.removeTx_eq, bookings']; exact bookings
  · rw [State.removeTx_eq, State.entry, swb']; exact entry
  · rw [State.removeTx_eq]; exact banksFollow_described staged active
  · rw [State.removeTx_eq, clk', clk]
  · rw [State.removeTx_eq, pins', pins]

end Sys2Proof.Machine

namespace Sys2Proof.Proofs
open Sys2Proof Sys2Proof.Machine Sys2Proof.Claims

/-- DEFINE-TX is answered what its meaning answers. -/
theorem exec_defineTx {s : State} (free : portFree .a s) {tag : Byte} {number : Nat} {f : TxFields} {ans : Answer}
    (h : s.reqDefineTx number f = ans) :
    exec (.defineTx .a tag number f) s = .next (replied .a tag 0x01 ans.res ans.st) :=
  exec_request (.defineTx number f) rfl free (s.permitted_a _) h

/-- DEFINE-TX with REMOVE is answered what its meaning answers. -/
theorem exec_defineTxRemove {s : State} (free : portFree .a s) {tag : Byte} {number : Nat} {ans : Answer}
    (h : s.reqDefineTxRemove number = ans) :
    exec (.defineTxRemove .a tag number) s = .next (replied .a tag 0x01 ans.res ans.st) :=
  exec_request (.defineTxRemove number) rfl free (s.permitted_a _) h

/-- Settles O10: the refusals in their order; a definition by what it writes before SCH is told (`txStored`); a removal by the lowest
antenna that bars it, or by what it takes away (`txRemoved`). -/
theorem defineTxStoresOrRemoves : Obligations.DefineTxStoresOrRemoves := by
  refine ⟨fun s tag number f free => ⟨fun running => ⟨?_, ?_⟩, fun halted => ⟨fun outside => ⟨?_, ?_⟩, fun low high => ?_⟩⟩,
    fun s tag number f n d free halted item built fits => ?_, fun s tag number n free halted item => ⟨fun undefined => ?_,
      fun a defined bars least => ?_, fun defined unbarred => ?_⟩⟩
  · exact exec_defineTx free (ans := s.refused .state 1) (by simp only [State.reqDefineTx, running, if_false])
  · exact exec_defineTxRemove free (ans := s.refused .state 1) (by simp only [State.reqDefineTxRemove, running, if_false])
  · exact exec_defineTx free (ans := s.refused .range 1)
      (by simp only [State.reqDefineTx, halted, if_true, itemOf_eq_none.mpr outside])
  · exact exec_defineTxRemove free (ans := s.refused .range 1)
      (by simp only [State.reqDefineTxRemove, halted, if_true, itemOf_eq_none.mpr outside])
  · obtain ⟨n, item⟩ : ∃ n, itemOf 16 number = some n := by
      refine Option.ne_none_iff_exists'.mp fun none => ?_
      rcases itemOf_eq_none.mp none with _ | _ <;> omega
    have missing {k : Nat} (h : txMissing f = some k) := exec_defineTx (tag := tag) free (State.reqDefineTx_missing halted item h)
    obtain ⟨rating, bandLow, bandHigh, taps⟩ := txMissing_cases f
    exact ⟨fun a => missing (rating a), fun a b => missing (bandLow a b), fun a b c => missing (bandHigh a b c),
      fun a b c d => missing (taps a b c d), fun d k built bad => exec_defineTx free (State.reqDefineTx_range halted item built bad)⟩
  · have runs := exec_defineTx (tag := tag) free (State.reqDefineTx_accepted halted item built fits)
    obtain ⟨⟨tx, ant, hall, zones⟩, minima, banks, others, runs', clk, snaps, pins⟩ := s.storeTx_spec n d
    obtain ⟨redefined, prot⟩ := s.storeTx_redefined (n := n) d
    refine ⟨_, runs, ?_, ?_⟩
    · rw [replied_hds, ← s.storeTx_groupOf n n d]
      exact ⟨_, rfl, rfl, rfl⟩
    · simp only [replied_hds, replied_txs, replied_amx, replied_swb, replied_ctx, replied_prot, replied_chan, replied_entry,
        replied_pos, replied_clk, replied_snaps, replied_pins]
      exact ⟨tx, ant, hall, zones, replied_minimaStand _ _ _ _ _ minima, redefined, banksFollow_replied banks _ _ _ _, prot,
        fun undefined => State.storeTx_enters undefined d, others, runs', clk, snaps, pins⟩
  · exact exec_defineTxRemove free (ans := s.ok (.undefined number))
      (by simp only [State.reqDefineTxRemove, halted, if_true, item, undefined, Bool.false_eq_true, if_false])
  · exact exec_defineTxRemove free (ans := s.refused .conflict (num a))
      (by simp only [State.reqDefineTxRemove, halted, if_true, item, defined, State.find_barring bars least])
  · have runs := exec_defineTxRemove (tag := tag) (number := number) free (ans := (s.removeTx n).ok (.undefined number))
      (by simp only [State.reqDefineTxRemove, halted, if_true, item, defined, State.find_barring_none unbarred])
    obtain ⟨⟨tx, ant, hall⟩, minima, ctx, prot, occ, plan, bookings, entry, banks, clk, pins⟩ := s.removeTx_spec n
    refine ⟨_, runs, ⟨_, rfl, rfl, rfl⟩, ?_⟩
    simp only [replied_hds, replied_ctx, replied_prot, replied_occ, replied_plan, replied_sch, replied_entry, replied_clk,
      replied_pins]
    exact ⟨tx, ant, hall, replied_minimaStand _ _ _ _ _ minima, ctx, prot, occ, plan, bookings, entry,
      banksFollow_replied banks _ _ _ _, clk, pins⟩

end Sys2Proof.Proofs
end

section
/-! PROOFS. No cause, refusal or zone that reaches a transmitter books anything: what holds of every booking holds of those that are
left (R60, R61, R76, R121, R138). -/

namespace Sys2Proof.Machine
open Sys2Proof Sys2Proof.Claims

/-- A property of every booking. -/
def State.Bookings (Q : Booking → Prop) (s : State) : Prop := ∀ b ∈ s.sch.bookings, Q b

theorem State.Bookings.of_eq {Q : Booking → Prop} {s t : State} (h : s.Bookings Q) (same : t.sch.bookings = s.sch.bookings) :
    t.Bookings Q := by rw [State.Bookings, same]; exact h

/-! ## Operations that leave the booking list -/

@[simp] theorem State.takeAnt_bookings (a : AntId) (o : Own) (s : State) : (s.takeAnt a o).sch.bookings = s.sch.bookings := rfl

@[simp] theorem State.offer_bookings (a : AntId) (s : State) : (s.offer a).sch.bookings = s.sch.bookings := by
  unfold State.offer
  split
  · split
    · split <;> rfl
    · rfl
  · rfl

@[simp] theorem State.withdrawFrom_bookings (a : AntId) (n : TxId) (s : State) :
    (s.withdrawFrom a n).sch.bookings = s.sch.bookings := by
  unfold State.withdrawFrom
  split
  · dsimp only; split <;> simp
  · rfl

@[simp] theorem State.withdrawClaim_bookings (n : TxId) (s : State) : (s.withdrawClaim n).sch.bookings = s.sch.bookings := by
  unfold State.withdrawClaim; split <;> simp

@[simp] theorem State.dropHeld_bookings (p : Held → Bool) (s : State) : (s.dropHeld p).sch.bookings = s.sch.bookings :=
  State.each_view (fun t => t.sch.bookings) (s.amx.held.filter p) (f := State.retell) (fun _ _ => rfl) _

@[simp] theorem State.removePlan_bookings (n : TxId) (s : State) : (s.removePlan n).sch.bookings = s.sch.bookings := by
  simp [State.removePlan]

@[simp] theorem State.recordLive_bookings (n : TxId) (id : TargetId) (s : State) :
    (s.recordLive n id).sch.bookings = s.sch.bookings := by
  unfold State.recordLive
  split
  · split <;> rfl
  · rfl

@[simp] theorem State.planDone_bookings (n : TxId) (p : Plan) (s : State) : (s.planDone n p).sch.bookings = s.sch.bookings := by
  have owned (u : Setpoint) : (s.ownAs n u).sch.bookings = s.sch.bookings := by unfold State.ownAs; split <;> rfl
  unfold State.planDone
  dsimp only
  split <;> split <;> simp [owned]

@[simp] theorem State.settlePlan_bookings (n : TxId) (s : State) : (s.settlePlan n).sch.bookings = s.sch.bookings := by
  unfold State.settlePlan
  split
  · split_ifs <;> simp [State.reachHold]
  · rfl

@[simp] theorem State.windDown_bookings (n : TxId) (cause : Cause) (k : Nat) (hp : HoldPoint) (s : State) :
    (s.windDown n cause k hp).sch.bookings = s.sch.bookings := by simp [State.windDown]

@[simp] theorem State.endTrip_bookings (n : TxId) (s : State) : (s.endTrip n).sch.bookings = s.sch.bookings := by
  unfold State.endTrip State.leaveTripped
  dsimp only
  split <;> rfl

@[simp] theorem State.stopRecycle_bookings (n : TxId) (s : State) : (s.stopRecycle n).sch.bookings = s.sch.bookings := by
  unfold State.stopRecycle
  split
  · rw [State.endTrip_bookings]; rfl
  · rfl

@[simp] theorem State.sendNow_bookings (n : TxId) (who : Asker) (o : Order) (s : State) :
    (s.sendNow n who o).sch.bookings = s.sch.bookings := by
  unfold State.sendNow
  dsimp only
  split <;> rfl

/-! ## Operations that may end bookings -/

section OnlyEnds
variable {Q : Booking → Prop} {s : State} (h : s.Bookings Q)
include h

theorem State.bookingLeaves_keeps (id : Nat) (c : BookEnd) : (s.bookingLeaves id c).Bookings Q :=
  fun b standing => h b (State.bookingLeaves_mem.mp standing).1

theorem State.targetBookingLeaves_keeps (id : TargetId) (c : BookEnd) : (s.targetBookingLeaves id c).Bookings Q := by
  unfold State.targetBookingLeaves
  split
  · split
    · exact State.bookingLeaves_keeps h _ c
    · exact h
  · exact h

theorem State.recordLost_keeps (n : TxId) (id : TargetId) (cause : Cause) : (s.recordLost n id cause).Bookings Q := by
  have posted (st : OccStatus) (nt : Notice) : ((s.setStatus n id st).post nt).Bookings Q := h
  unfold State.recordLost
  split
  · split
    · split
      · exact State.targetBookingLeaves_keeps (posted _ _) _ _
      · exact State.targetBookingLeaves_keeps (posted _ _) _ _
    · exact h
  · exact h

theorem State.abandon_keeps (n : TxId) (cause : Cause) : (s.abandon n cause).Bookings Q := by
  unfold State.abandon
  split
  next p planned =>
    have dropped (q : Option Plan) (nt : Notice) :
        ((((s.post nt).setPlan n q).withdrawClaim n).dropHeld fun h => decide (h.asker = .plan n)).Bookings Q :=
      h.of_eq (by rw [State.dropHeld_bookings, State.withdrawClaim_bookings]; rfl)
    dsimp only
    split <;> split
    · exact (State.recordLost_keeps (dropped _ _) n _ cause).of_eq (by rw [State.windDown_bookings, State.stopRecycle_bookings])
    · exact (dropped _ _).of_eq (by rw [State.windDown_bookings, State.stopRecycle_bookings])
    · exact (State.recordLost_keeps (dropped _ _) n _ cause).of_eq (by rw [State.removePlan_bookings, State.stopRecycle_bookings])
    · exact (dropped _ _).of_eq (by rw [State.removePlan_bookings, State.stopRecycle_bookings])
  · exact h

theorem State.takeDown_keeps (n : TxId) (cause : Cause) : (s.takeDown n cause).Bookings Q := by
  have lost : (s.liveLost n cause).Bookings Q := by
    unfold State.liveLost
    split
    · exact State.recordLost_keeps h n _ cause
    · exact h
  unfold State.takeDown
  dsimp only
  split
  · exact lost.of_eq (by rw [State.windDown_bookings, State.drawnDuration, State.stopRecycle_bookings])
  · exact lost.of_eq (by rw [State.stopRecycle_bookings])

theorem State.causeReaches_keeps (n : TxId) (cause : Cause) : (s.causeReaches n cause).Bookings Q := by
  unfold State.causeReaches
  split
  · split_ifs
    · exact h.of_eq (s.removePlan_bookings n)
    · exact h
    · exact State.abandon_keeps h n cause
  · unfold State.interrupt
    split
    · exact State.takeDown_keeps h n cause
    · exact h

theorem State.planRefused_keeps (n : TxId) (ph : Phase) (why : Refused) : (s.planRefused n ph why).Bookings Q := by
  unfold State.planRefused
  split
  · split
    · exact State.causeReaches_keeps h n _
    · exact h
  · exact h

theorem State.recycleFails_keeps (n : TxId) (cause : Cause) : (s.recycleFails n cause).Bookings Q := by
  have ended : ((s.updProt n fun p => { p with waiting := false }).endTrip n).Bookings Q :=
    h.of_eq (by rw [State.endTrip_bookings]; rfl)
  unfold State.recycleFails State.nameCause
  split
  · exact State.causeReaches_keeps ended n cause
  · exact State.takeDown_keeps ended n cause

theorem State.answer_keeps (n : TxId) (who : Asker) (o : Order) (why : Refused) : (s.answer n who o why).Bookings Q := by
  unfold State.answer
  split
  · exact State.planRefused_keeps h n _ why
  · split
    · exact State.recycleFails_keeps h n _
    · exact h
  · exact h

theorem State.refuse_keeps (n : TxId) (who : Asker) (o : Order) (why : Refused) : (s.refuse n who o why).Bookings Q := by
  have stopped : (s.stopRamp n).Bookings Q := h
  have fails : (s.rampFails n why).Bookings Q := by
    unfold State.rampFails
    split
    · dsimp only
      split
      · split
        · exact State.planRefused_keeps stopped n _ why
        · exact State.recycleFails_keeps stopped n _
      · exact State.planRefused_keeps stopped n _ why
      · exact stopped
    · exact h
  unfold State.refuse
  dsimp only
  split
  · exact State.answer_keeps fails n who o why
  · exact State.answer_keeps h n who o why

theorem State.askOrder_keeps (n : TxId) (who : Asker) (o : Order) : (s.askOrder n who o).Bookings Q := by
  have slotted : (s.slot n who o).Bookings Q := h
  have deferred : (s.defer n who o).Bookings Q := by
    unfold State.defer
    split
    · exact slotted
    · split_ifs
      · exact h
      · exact State.refuse_keeps h n who o _
      · exact slotted
      · exact State.answer_keeps slotted n _ _ _
  unfold State.askOrder
  split
  · split
    · split
      · exact State.refuse_keeps h n who o _
      · split_ifs
        · exact h
        · exact deferred
        · exact h.of_eq (s.sendNow_bookings n who o)
    · split
      · exact h
      · exact State.refuse_keeps h n who o _
  · exact h

theorem State.zoneActs_keeps (a : AntId) : (s.zoneActs a).Bookings Q := by
  have off (n : TxId) : (s.rfOffUnlessOff n .zone).Bookings Q := by
    unfold State.rfOffUnlessOff
    split
    · exact h
    · exact State.askOrder_keeps h n .zone .rfOff
  unfold State.zoneActs
  split
  · split
    · exact State.causeReaches_keeps (off _) _ .zoneOpen
    · exact h
  · exact h

theorem State.zoneUse_keeps (was : Bool) (z : ZoneId) : (s.zoneUse was z).Bookings Q := by
  have opens : (s.zoneOpens z).Bookings Q :=
    State.each_keeps (P := State.Bookings Q) (fun a _ ht => State.zoneActs_keeps ht a) _ h
  unfold State.zoneUse
  dsimp only
  split_ifs
  · exact h
  · exact opens
  · exact h
  · exact h

theorem State.rederiveZones_keeps : s.rederiveZones.Bookings Q :=
  State.each_keeps (P := State.Bookings Q) (fun z _ ht => State.zoneUse_keeps ht _ z) allZones h

end OnlyEnds

end Sys2Proof.Machine
end

section
/-! PROOFS. DEFINE-ANT: its refusals, the stored record with its zone and actuators, and the removal (R4 to R6, R9, R11, R13 to
R16). -/

namespace Sys2Proof.Machine
open Sys2Proof Sys2Proof.Claims

/-! ## Refusals (R11, R13, R14) -/

theorem State.reqDefineAnt_missing {s : State} {number k : Nat} {a : AntId} {f : AntFields} (halted : s.txs.hall = .halted)
    (item : itemOf 40 number = some a) (missing : antMissing f = some k) :
    s.reqDefineAnt number f = s.refused .malformed k := by
  simp only [State.reqDefineAnt, halted, if_true, item, missing]

theorem State.reqDefineAnt_range {s : State} {number k : Nat} {a : AntId} {f : AntFields} (halted : s.txs.hall = .halted)
    (item : itemOf 40 number = some a) (present : antMissing f = none) (bad : antFieldFault f = some k) :
    s.reqDefineAnt number f = s.refused .range k := by
  simp only [State.reqDefineAnt, halted, if_true, item, present, bad]

/-- A record is built where no required field is missing. -/
theorem antMissing_of_record {f : AntFields} {d : AntDef} (built : antRecord f = some d) : antMissing f = none := by
  unfold antRecord at built
  split at built
  next r lo hi z reach rating low high zone list =>
    obtain ⟨k, given, _⟩ := Option.bind_eq_some_iff.mp zone
    simp only [antMissing, rating, low, high, given, list]
    rfl
  · cases built

/-- A record within its ranges that meets a conflict of R13. -/
theorem State.reqDefineAnt_conflict {s : State} {number k : Nat} {a : AntId} {f : AntFields} {d : AntDef}
    (halted : s.txs.hall = .halted) (item : itemOf 40 number = some a) (fits : antFieldFault f = none)
    (built : antRecord f = some d) (meets : s.antConflict a d = some k) :
    s.reqDefineAnt number f = s.refused .conflict k := by
  simp only [State.reqDefineAnt, halted, if_true, item, antMissing_of_record built, fits, built, meets]

/-- A record within its ranges that meets no conflict is stored. -/
theorem State.reqDefineAnt_accepted {s : State} {number : Nat} {a : AntId} {f : AntFields} {d : AntDef}
    (halted : s.txs.hall = .halted) (item : itemOf 40 number = some a) (fits : antFieldFault f = none)
    (built : antRecord f = some d) (free : s.antConflict a d = none) : s.reqDefineAnt number f =
      (s.storeAnt a d).ok (.antDef number d ((s.storeAnt a d).beamDefined a) ((s.storeAnt a d).zoneInUse d)) := by
  simp only [State.reqDefineAnt, halted, if_true, item, antMissing_of_record built, fits, built, free]

/-- The first required field of DEFINE-ANT that is absent. -/
theorem antMissing_cases (f : AntFields) :
    (f.rating = none → antMissing f = some 2) ∧
    (f.rating ≠ none → f.bandLow = none → antMissing f = some 3) ∧
    (f.rating ≠ none → f.bandLow ≠ none → f.bandHigh = none → antMissing f = some 4) ∧
    (f.rating ≠ none → f.bandLow ≠ none → f.bandHigh ≠ none → f.zone = none → antMissing f = some 5) ∧
    (f.rating ≠ none → f.bandLow ≠ none → f.bandHigh ≠ none → f.zone ≠ none → f.reach = none → antMissing f = some 6) := by
  simp only [ne_eq, ← Option.isNone_iff_eq_none, ← Option.not_isSome, Bool.not_eq_true']
  refine ⟨fun a => ?_, fun a b => ?_, fun a b c => ?_, fun a b c d => ?_, fun a b c d e => ?_⟩ <;>
    simp_all [antMissing, firstBad]

/-! ## The conflicts of R13 -/

theorem Pos.row_eq_some {p : Pos} {n : TxId} : p.row = some n ↔ p = .atp (.tx n) ∨ p = .travelling (.tx n) := by
  unfold Pos.row
  split <;> simp_all

theorem Pos.isTravelling_iff (p : Pos) : p.isTravelling = true ↔ ∃ q, p = .travelling q := by
  cases p <;> simp [Pos.isTravelling]

/-- The conflict of a beam drive that would go while it travels (R13). -/
def State.beamConflict (s : State) (a : AntId) (d : AntDef) : Option Nat :=
  if d.beams = 1 ∧ (s.pos (.beam a)).isTravelling = true then some (num a) else none

theorem State.antConflict_left {s : State} {a : AntId} {d : AntDef} {n : TxId} (left : n ∉ d.reach)
    (row : s.pos (.sel a) = .atp (.tx n) ∨ s.pos (.sel a) = .travelling (.tx n)) : s.antConflict a d = some (num n) := by
  simp [State.antConflict, Pos.row_eq_some.mpr row, left]

theorem State.antConflict_reached {s : State} {a : AntId} {d : AntDef}
    (reached : ∀ n, ¬ (n ∉ d.reach ∧ (s.pos (.sel a) = .atp (.tx n) ∨ s.pos (.sel a) = .travelling (.tx n)))) :
    s.antConflict a d = s.beamConflict a d := by
  unfold State.antConflict State.beamConflict
  split
  next n row =>
    have lists : n ∈ d.reach := by
      by_contra left
      exact reached n ⟨left, Pos.row_eq_some.mp row⟩
    rw [if_pos (by simpa using lists)]
  · rfl

/-! ## The zones that the records derive (R6) -/

theorem State.mem_derivedZones (s : State) (z : ZoneId) (b : AntId) :
    b ∈ (s.derivedZones[z]).members ↔ ∃ r, s.antDef b = some r ∧ r.zone = z := by
  simp only [State.derivedZones, Fin.getElem_fin, Vector.getElem_ofFn, State.definedAnt, allAnt, List.mem_filter,
    List.mem_finRange, true_and, State.antDefined]
  cases s.antDef b <;> simp

theorem State.derivedZones_inUse (s : State) (z : ZoneId) :
    (s.derivedZones[z]).inUse = true ↔ ∃ b r, s.antDef b = some r ∧ r.zone = z := by
  have used : (s.derivedZones[z]).inUse = !(s.derivedZones[z]).members.isEmpty := by simp [State.derivedZones]
  have exist : (s.derivedZones[z]).members.isEmpty = false ↔ ∃ b, b ∈ (s.derivedZones[z]).members := by
    rw [← Bool.not_eq_true, List.isEmpty_iff]
    exact ⟨List.exists_mem_of_ne_nil _, fun ⟨b, hb⟩ => List.ne_nil_of_mem hb⟩
  simp only [used, Bool.not_eq_true', exist, State.mem_derivedZones]

theorem State.derivedZones_congr {s t : State} (h : t.hds.ant = s.hds.ant) : t.derivedZones = s.derivedZones := by
  have records : t.antDef = s.antDef := by funext a; simp only [State.antDef, h]
  have defined : t.antDefined = s.antDefined := by funext a; simp only [State.antDefined, records]
  simp only [State.derivedZones, State.definedAnt, defined, records]

/-! ## An accepted definition -/

/-- The table, the banks and the clock once the antenna's actuators follow its record (R5). -/
theorem State.beamFollows_keeps (a : AntId) (d : AntDef) (s : State) :
    let t := s.beamFollows a d
    t.actDefined (.beam a) = decide (2 ≤ d.beams) ∧ t.actDefined (.sel a) = s.actDefined (.sel a) ∧
      t.sch.staged = s.sch.staged ∧ t.sch.active = s.sch.active ∧ t.clk = s.clk := by
  simp only [State.beamFollows]
  split
  next more =>
    split
    next defined =>
      have shown (t : State) (same : t.swb = s.swb) : t.actDefined (.beam a) = decide (2 ≤ d.beams) := by
        rw [State.actDefined, State.entry, same, decide_eq_true more]; exact defined
      split
      · refine ⟨shown _ (by simp), ?_, by simp, by simp, by simp⟩
        simp only [State.actDefined, State.entry, State.setPos_swb]
      · exact ⟨shown s rfl, rfl, rfl, rfl, rfl⟩
    · have beam : (s.actEnters (.beam a)).entry (.beam a) = some .initial := by
        have table : (s.actEnters (.beam a)).entry (.beam a) = (s.setEntry (.beam a) (some .initial)).entry (.beam a) := by
          simp only [State.actEnters, State.entry, State.setPos_swb]
        rw [table, State.setEntry_entry]
      have sel : (s.actEnters (.beam a)).entry (.sel a) = s.entry (.sel a) := by
        have table : (s.actEnters (.beam a)).entry (.sel a) = (s.setEntry (.beam a) (some .initial)).entry (.sel a) := by
          simp only [State.actEnters, State.entry, State.setPos_swb]
        rw [table, State.setEntry_entry_ne (by simp)]
      refine ⟨?_, ?_, ?_, ?_, ?_⟩
      · rw [State.actDefined, beam, decide_eq_true more]; rfl
      · rw [State.actDefined, sel, State.actDefined]
      all_goals simp [State.actEnters]
  next single =>
    obtain ⟨staged, active, clk, others⟩ := s.actLeaves_keeps (.beam a)
    refine ⟨?_, others (.sel a) (by simp), staged, active, clk⟩
    rw [State.actDefined, State.actLeaves_entry, decide_eq_false single]
    rfl

theorem State.antEnters_keeps (a : AntId) (s : State) :
    let t := s.antEnters a
    t.actDefined (.sel a) = true ∧ t.sch = s.sch ∧ t.clk = s.clk := by
  refine ⟨?_, by simp [State.antEnters, State.actEnters], by simp [State.antEnters, State.actEnters]⟩
  have table : (s.antEnters a).entry (.sel a) =
      (((s.setRun a (some .initial)).setTrips a []).setEntry (.sel a) (some .initial)).entry (.sel a) := by
    simp only [State.antEnters, State.actEnters, State.entry, State.setPos_swb]
  rw [State.actDefined, table, State.setEntry_entry]
  rfl

/-- The antenna's actuators, the banks and the clock once the record is placed. -/
theorem State.antPlaced_keeps (a : AntId) (d : AntDef) (s : State) :
    let t := s.antPlaced a d
    t.actDefined (.beam a) = decide (2 ≤ d.beams) ∧ (s.antDefined a = false → t.actDefined (.sel a) = true) ∧
      t.sch.staged = s.sch.staged ∧ t.sch.active = s.sch.active ∧ t.clk = s.clk := by
  cases defined : s.antDefined a with
  | true =>
    obtain ⟨beam, _, staged, active, clk⟩ := (s.withAntDef a (some d)).beamFollows_keeps a d
    simp only [State.antPlaced, defined, if_true]
    exact ⟨beam, fun h => Bool.noConfusion h, staged, active, clk⟩
  | false =>
    obtain ⟨sel, sch, clk⟩ := (s.withAntDef a (some d)).antEnters_keeps a
    obtain ⟨beam, kept, staged, active, clk'⟩ := ((s.withAntDef a (some d)).antEnters a).beamFollows_keeps a d
    simp only [State.antPlaced, defined, Bool.false_eq_true, if_false]
    exact ⟨beam, fun _ => kept.trans sel, staged.trans (congrArg Sch.staged sch), active.trans (congrArg Sch.active sch),
      clk'.trans clk⟩

/-- The zones that a definition opens leave the core of the outline. -/
theorem State.antStored_core (a : AntId) (d : AntDef) (s : State) :
    (s.antStored a d).outline.core = (s.antPlaced a d).outline.core := by
  unfold State.antStored
  split <;> simp

/-- The antenna's actuators, the banks and the clock before SCH is told. -/
theorem State.antStored_keeps (a : AntId) (d : AntDef) (s : State) :
    let t := s.antStored a d
    t.actDefined (.beam a) = decide (2 ≤ d.beams) ∧ (s.antDefined a = false → t.actDefined (.sel a) = true) ∧
      (t.sch.staged = s.sch.staged ∧ t.sch.active = s.sch.active) ∧ t.clk = s.clk ∧ t.snaps = s.snaps ∧ t.pins = s.pins := by
  obtain ⟨beam, sel, staged, active, clk⟩ := s.antPlaced_keeps a d
  have core := s.antStored_core a d
  have defined (act : ActId) : (s.antStored a d).actDefined act = (s.antPlaced a d).actDefined act :=
    congrArg (fun v : CoreView => v.defined act) core
  have staged' : (s.antStored a d).sch.staged = (s.antPlaced a d).sch.staged := congrArg CoreView.staged core
  have active' : (s.antStored a d).sch.active = (s.antPlaced a d).sch.active := congrArg CoreView.active core
  have clk' : (s.antStored a d).clk = (s.antPlaced a d).clk := congrArg CoreView.clk core
  have still := s.antStored_still a d
  have zones := (s.antPlaced a d).rederiveZones_still
  have placed := s.antPlaced_still a d
  refine ⟨(defined _).trans beam, fun h => (defined _).trans (sel h), ⟨staged'.trans staged, active'.trans active⟩,
    clk'.trans clk, ?_, ?_⟩
  · rw [State.snaps_of_still still, State.snaps_of_still zones]; exact (State.snaps_of_still placed :)
  · rw [State.pins_of_still still, State.pins_of_still zones]; exact (State.pins_of_still placed :)

end Sys2Proof.Machine
end

section
/-! PROOFS. What an accepted DEFINE-ANT and an accepted removal of an antenna leave, and O11 (R11, R13 to R16). -/

namespace Sys2Proof.Machine
open Sys2Proof Sys2Proof.Claims

/-! ## An accepted definition -/

/-- The zone table is the one that the stored records derive (R6). -/
theorem State.storeAnt_zones (a : AntId) (d : AntDef) (s : State) :
    (s.storeAnt a d).hds.zones = (s.storeAnt a d).derivedZones := by
  have records : (s.antPlaced a d).hds.ant = (s.storeAnt a d).hds.ant := by
    rw [State.storeAnt_hds, State.hds_of_still (s.antPlaced_still a d)]; rfl
  rw [← State.derivedZones_congr records, State.storeAnt_hds]

theorem State.storeAnt_members (a : AntId) (d : AntDef) (s : State) (z : ZoneId) (b : AntId) :
    b ∈ ((s.storeAnt a d).hds.zones[z]).members ↔ ∃ r, (s.storeAnt a d).antDef b = some r ∧ r.zone = z := by
  rw [State.storeAnt_zones, State.mem_derivedZones]

theorem State.storeAnt_inUse (a : AntId) (d : AntDef) (s : State) (z : ZoneId) :
    ((s.storeAnt a d).hds.zones[z]).inUse = true ↔ ∃ b r, (s.storeAnt a d).antDef b = some r ∧ r.zone = z := by
  rw [State.storeAnt_zones, State.derivedZones_inUse]

theorem State.storeAnt_antDef (a : AntId) (d : AntDef) (s : State) : (s.storeAnt a d).antDef a = some d := by
  simp [State.antDef, State.storeAnt_hds]

/-- An accepted definition (R5, R6, R9, R11, R15, R16). -/
theorem State.storeAnt_spec (a : AntId) (d : AntDef) (s : State) :
    let t := s.storeAnt a d
    (t.hds.ant = s.hds.ant.set a (some d) ∧ t.hds.tx = s.hds.tx ∧ t.hds.hall = s.hds.hall) ∧ minimaStand t ∧
      t.actDefined (.beam a) = decide (2 ≤ d.beams) ∧ (s.antDefined a = false → t.actDefined (.sel a) = true) ∧
      banksFollow s t ∧ t.clk = s.clk ∧ t.snaps = s.snaps ∧ t.pins = s.pins := by
  obtain ⟨beam, sel, ⟨staged, active⟩, clk, snaps, pins⟩ := s.antStored_keeps a d
  obtain ⟨_, _, swb', _, _, _, clk', snaps', pins', _⟩ := (s.antStored a d).described_blocks
  have table (act : ActId) : (s.storeAnt a d).actDefined act = (s.antStored a d).actDefined act := by
    rw [State.storeAnt_eq]
    cases act <;> simp only [State.actDefined, State.entry, swb']
  refine ⟨?_, ?_, (table _).trans beam, fun new => (table _).trans (sel new), ?_, ?_, ?_, ?_⟩
  · rw [State.storeAnt_hds]; exact ⟨rfl, rfl, rfl⟩
  · rw [State.storeAnt_eq]; exact State.minimaStand_tellSch _
  · rw [State.storeAnt_eq]; exact banksFollow_described staged active
  · rw [State.storeAnt_eq, clk', clk]
  · rw [State.storeAnt_eq, snaps', snaps]
  · rw [State.storeAnt_eq, pins', pins]

/-- The body of the reply: the beam drive and the zone as they stand after the change (R11). -/
theorem State.storeAnt_body (a : AntId) (d : AntDef) (number : Nat) (s : State) :
    Body.antDef number d ((s.storeAnt a d).beamDefined a) ((s.storeAnt a d).zoneInUse d) =
      .antDef number d (decide (2 ≤ d.beams)) true := by
  have used : (s.storeAnt a d).zoneInUse d = true := by
    rw [State.zoneInUse, State.storeAnt_zones, State.derivedZones_inUse]
    exact ⟨a, d, s.storeAnt_antDef a d, rfl⟩
  rw [State.beamDefined_of_antDef (s.storeAnt_antDef a d), used]

/-! ## A removal -/

theorem State.antBar_owner {s : State} {a : AntId} {o : Own} (owned : s.owner a = some o) :
    s.antBar a = some (num o.tx) := by simp only [State.antBar, owned]

theorem State.antBar_selector {s : State} {a : AntId} {n : TxId} (unowned : s.owner a = none)
    (row : s.pos (.sel a) = .atp (.tx n) ∨ s.pos (.sel a) = .travelling (.tx n)) : s.antBar a = some (num n) := by
  rcases row with row | row <;> simp only [State.antBar, unowned, row]

theorem State.antBar_none {s : State} {a : AntId} (unowned : s.owner a = none) (apart : ∀ n, s.pos (.sel a) ≠ .atp (.tx n))
    (rests : ∀ p, s.pos (.sel a) ≠ .travelling p) : s.antBar a = none := by
  simp only [State.antBar, unowned]
  split
  next n stands => exact absurd stands (apart n)
  next n moves => exact absurd moves (rests _)
  next p _ moves => exact absurd moves (rests p)
  · rfl

/-- The actuators of ANa, its bookings, the banks and the clock once its claims, actuators and bookings have gone (R14, R131). -/
theorem State.antCleared_keeps (a : AntId) (s : State) :
    let t := s.antCleared a
    t.entry (.sel a) = none ∧ t.entry (.beam a) = none ∧ t.sch.staged = s.sch.staged ∧ t.sch.active = s.sch.active ∧
      t.clk = s.clk ∧ t.Bookings fun b => b.path ≠ some a := by
  have withdrawn := congrArg Outline.core (s.withdrawAll_outline a .service)
  obtain ⟨staged₁, active₁, clk₁, _⟩ := (s.withdrawAll a .service).actLeaves_keeps (.sel a)
  obtain ⟨staged₂, active₂, clk₂, others⟩ := ((s.withdrawAll a .service).actLeaves (.sel a)).actLeaves_keeps (.beam a)
  obtain ⟨staged₃, active₃, clk₃, defined⟩ :=
    (((s.withdrawAll a .service).actLeaves (.sel a)).actLeaves (.beam a)).removeBookings_keeps fun b => decide (b.path = some a)
  have sel := others (.sel a) (by simp)
  have selGone := defined (.sel a)
  have beamGone := defined (.beam a)
  rw [sel, State.actDefined, State.actDefined, State.actLeaves_entry] at selGone
  rw [State.actDefined, State.actDefined, State.actLeaves_entry] at beamGone
  unfold State.antCleared
  refine ⟨by simpa using selGone, by simpa using beamGone, ?_, ?_, ?_, fun b standing => ?_⟩
  · rw [staged₃, staged₂, staged₁]; exact (congrArg CoreView.staged withdrawn :)
  · rw [active₃, active₂, active₁]; exact (congrArg CoreView.active withdrawn :)
  · rw [clk₃, clk₂, clk₁]; exact (congrArg CoreView.clk withdrawn :)
  · simpa using (State.removeBookings_mem standing).2

/-- The run-time records emptied beside what has gone. -/
theorem State.withoutAnt_keeps (a : AntId) (s : State) :
    let t := s.withoutAnt a
    t.run a = none ∧ t.trips a = [] ∧ t.swb = (s.antCleared a).swb ∧ t.sch = (s.antCleared a).sch ∧
      t.clk = (s.antCleared a).clk ∧ t.snaps = s.snaps ∧ t.pins = s.pins := by
  have still := s.antCleared_still a
  refine ⟨?_, State.setTrips_trips a [] _, ?_, ?_, ?_, ?_, ?_⟩
  · have record : (s.withoutAnt a).run a = (((s.antCleared a).withAntDef a none).setRun a none).run a := by
      simp only [State.withoutAnt, State.run, State.setTrips_amx]
    rw [record, State.setRun_run]
  all_goals simp only [State.withoutAnt, State.withAntDef, State.setTrips_swb, State.setRun_swb, State.setTrips_sch,
    State.setRun_sch, State.setTrips_clk, State.setRun_clk, State.setTrips_snaps, State.setRun_snaps, State.setTrips_pins,
    State.setRun_pins]
  · exact State.snaps_of_still still
  · exact State.pins_of_still still

/-- What two states with the same core share. -/
theorem State.blocks_of_core {s t : State} (core : t.outline.core = s.outline.core) :
    (∀ a, (t.run a).isSome = (s.run a).isSome) ∧ (∀ a, t.trips a = s.trips a) ∧
      (∀ act, (t.entry act).isSome = (s.entry act).isSome) ∧ t.sch.staged = s.sch.staged ∧ t.sch.active = s.sch.active ∧
      t.clk = s.clk :=
  ⟨fun a => congrArg (fun v : CoreView => v.runs a) core, fun a => congrArg (fun v : CoreView => v.trips[a]) core,
    fun act => congrArg (fun v : CoreView => v.defined act) core, congrArg CoreView.staged core, congrArg CoreView.active core,
    congrArg CoreView.clk core⟩

/-- What a removal has taken away, and what it leaves, before SCH is told. -/
theorem State.antRemoved_keeps (a : AntId) (s : State) :
    let t := (s.withoutAnt a).rederiveZones
    t.run a = none ∧ t.trips a = [] ∧ t.entry (.sel a) = none ∧ t.entry (.beam a) = none ∧
      (t.sch.staged = s.sch.staged ∧ t.sch.active = s.sch.active) ∧ t.clk = s.clk ∧ t.snaps = s.snaps ∧ t.pins = s.pins ∧
      t.Bookings fun b => b.path ≠ some a := by
  obtain ⟨sel, beam, staged, active, clk, bookings⟩ := s.antCleared_keeps a
  obtain ⟨run, trips, swb, sch, clk', snaps, pins⟩ := s.withoutAnt_keeps a
  obtain ⟨runs, lists, table, staged', active', clk''⟩ := State.blocks_of_core (s.withoutAnt a).rederiveZones_core
  have still := (s.withoutAnt a).rederiveZones_still
  have selGone : (s.withoutAnt a).entry (.sel a) = none := by rw [State.entry, swb]; exact sel
  have beamGone : (s.withoutAnt a).entry (.beam a) = none := by rw [State.entry, swb]; exact beam
  refine ⟨?_, ?_, ?_, ?_, ⟨?_, ?_⟩, ?_, ?_, ?_, State.rederiveZones_keeps (bookings.of_eq ?_)⟩
  · simpa [run] using runs a
  · rw [lists, trips]
  · simpa [selGone] using table (.sel a)
  · simpa [beamGone] using table (.beam a)
  · rw [staged', sch, staged]
  · rw [active', sch, active]
  · rw [clk'', clk', clk]
  · rw [State.snaps_of_still still, snaps]
  · rw [State.pins_of_still still, pins]
  · rw [sch]

/-- The zone table is the one that the remaining records derive (R6). -/
theorem State.removeAnt_zones (a : AntId) (s : State) : (s.removeAnt a).hds.zones = (s.removeAnt a).derivedZones := by
  have records : (s.withoutAnt a).hds.ant = (s.removeAnt a).hds.ant := by
    rw [State.removeAnt_hds, State.withoutAnt_hds]
  rw [← State.derivedZones_congr records, State.removeAnt_hds]

theorem State.removeAnt_inUse (a : AntId) (s : State) (z : ZoneId) :
    ((s.removeAnt a).hds.zones[z]).inUse = true ↔ ∃ b r, (s.removeAnt a).antDef b = some r ∧ r.zone = z := by
  rw [State.removeAnt_zones, State.derivedZones_inUse]

/-- An accepted removal (R6, R9, R14 to R16). -/
theorem State.removeAnt_spec (a : AntId) (s : State) :
    let t := s.removeAnt a
    (t.hds.ant = s.hds.ant.set a none ∧ t.hds.tx = s.hds.tx ∧ t.hds.hall = s.hds.hall) ∧ minimaStand t ∧ t.run a = none ∧
      t.trips a = [] ∧ (∀ b ∈ t.sch.bookings, b.path ≠ some a) ∧ t.entry (.sel a) = none ∧ t.entry (.beam a) = none ∧
      banksFollow s t ∧ t.clk = s.clk ∧ t.snaps = s.snaps ∧ t.pins = s.pins := by
  obtain ⟨run, trips, sel, beam, ⟨staged, active⟩, clk, snaps, pins, bookings⟩ := s.antRemoved_keeps a
  obtain ⟨_, amx', swb', rfp', _, _, clk', snaps', pins', bookings'⟩ := (s.withoutAnt a).rederiveZones.described_blocks
  refine ⟨?_, ?_, ?_, ?_, ?_, ?_, ?_, ?_, ?_, ?_, ?_⟩
  · rw [State.removeAnt_hds]; exact ⟨rfl, rfl, rfl⟩
  · rw [State.removeAnt_eq]; exact State.minimaStand_tellSch _
  · rw [State.removeAnt_eq, State.run, amx']; exact run
  · rw [State.removeAnt_eq, State.trips, rfp']; exact trips
  · rw [State.removeAnt_eq, bookings']; exact bookings
  · rw [State.removeAnt_eq, State.entry, swb']; exact sel
  · rw [State.removeAnt_eq, State.entry, swb']; exact beam
  · rw [State.removeAnt_eq]; exact banksFollow_described staged active
  · rw [State.removeAnt_eq, clk', clk]
  · rw [State.removeAnt_eq, snaps', snaps]
  · rw [State.removeAnt_eq, pins', pins]

section Replied
variable (port : Port) (tag kind : Byte) (res : Result) (t : State)

theorem replied_antDef : (replied port tag kind res t).antDef = t.antDef := State.antDef_congr (replied_hds ..)

theorem replied_run (a : AntId) : (replied port tag kind res t).run a = t.run a := by simp only [State.run, replied_amx]

theorem replied_trips (a : AntId) : (replied port tag kind res t).trips a = t.trips a := by
  simp only [State.trips, replied_rfp]

theorem replied_actDefined (act : ActId) : (replied port tag kind res t).actDefined act = t.actDefined act := by
  simp only [State.actDefined, replied_entry]

end Replied

end Sys2Proof.Machine

namespace Sys2Proof.Proofs
open Sys2Proof Sys2Proof.Machine Sys2Proof.Claims

/-- DEFINE-ANT is answered what its meaning answers. -/
theorem exec_defineAnt {s : State} (free : portFree .a s) {tag : Byte} {number : Nat} {f : AntFields} {t : State}
    {res : Result} (h : s.reqDefineAnt number f = ⟨t, res⟩) :
    exec (.defineAnt .a tag number f) s = .next (replied .a tag 0x02 res t) :=
  exec_request (.defineAnt number f) rfl free (s.permitted_a _) h

/-- DEFINE-ANT with REMOVE is answered what its meaning answers. -/
theorem exec_defineAntRemove {s : State} (free : portFree .a s) {tag : Byte} {number : Nat} {t : State}
    {res : Result} (h : s.reqDefineAntRemove number = ⟨t, res⟩) :
    exec (.defineAntRemove .a tag number) s = .next (replied .a tag 0x02 res t) :=
  exec_request (.defineAntRemove number) rfl free (s.permitted_a _) h

/-- The refusals of both forms of DEFINE-ANT, in their order. -/
theorem defineAnt_refusals (s : State) (tag : Byte) (number : Nat) (f : AntFields) (free : portFree .a s) :
    let refuses (why : Reason) (k : Nat) : Prop :=
      exec (.defineAnt .a tag number f) s = .next (replied .a tag 0x02 (.refused why k) s)
    (s.txs.hall ≠ .halted → refuses .state 1 ∧
      exec (.defineAntRemove .a tag number) s = .next (replied .a tag 0x02 (.refused .state 1) s)) ∧
    (s.txs.hall = .halted →
      (number = 0 ∨ 40 < number → refuses .range 1 ∧
        exec (.defineAntRemove .a tag number) s = .next (replied .a tag 0x02 (.refused .range 1) s)) ∧
      (1 ≤ number → number ≤ 40 → (∀ k, antMissing f = some k → refuses .malformed k) ∧
        ∀ k, antMissing f = none → antFieldFault f = some k → refuses .range k)) := by
  refine ⟨fun running => ⟨?_, ?_⟩, fun halted => ⟨fun outside => ⟨?_, ?_⟩, fun low high => ?_⟩⟩
  · exact exec_defineAnt free (by simp only [State.reqDefineAnt, running, if_false, State.refused])
  · exact exec_defineAntRemove free (by simp only [State.reqDefineAntRemove, running, if_false, State.refused])
  · exact exec_defineAnt free
      (by simp only [State.reqDefineAnt, halted, if_true, itemOf_eq_none.mpr outside, State.refused])
  · exact exec_defineAntRemove free
      (by simp only [State.reqDefineAntRemove, halted, if_true, itemOf_eq_none.mpr outside, State.refused])
  · obtain ⟨a, item⟩ : ∃ a, itemOf 40 number = some a := by
      refine Option.ne_none_iff_exists'.mp fun none => ?_
      rcases itemOf_eq_none.mp none with _ | _ <;> omega
    exact ⟨fun k missing => exec_defineAnt free (State.reqDefineAnt_missing halted item missing),
      fun k present bad => exec_defineAnt free (State.reqDefineAnt_range halted item present bad)⟩

/-- Settles O11: the refusals in their order; a definition by the conflicts of R13 and by what it writes before SCH is told
(`antStored`); a removal by what bars it, or by what it takes away (`withoutAnt`). -/
theorem defineAntStoresOrRemoves : Obligations.DefineAntStoresOrRemoves := by
  refine ⟨fun s tag number f free => ?_, fun s tag number f a d free halted item fits built => ?_,
    fun s tag number a free halted item => ?_⟩
  · obtain ⟨state, refusals⟩ := defineAnt_refusals s tag number f free
    obtain ⟨rating, bandLow, bandHigh, zone, reach⟩ := antMissing_cases f
    refine ⟨state, fun halted => ⟨(refusals halted).1, fun low high => ?_⟩⟩
    obtain ⟨missing, range⟩ := (refusals halted).2 low high
    exact ⟨fun a => missing _ (rating a), fun a b => missing _ (bandLow a b), fun a b c => missing _ (bandHigh a b c),
      fun a b c d => missing _ (zone a b c d), fun a b c d e => missing _ (reach a b c d e), range⟩
  · refine ⟨fun n left => ?_, fun reached beam => ?_, fun reached rests => ?_⟩
    · exact exec_defineAnt free
        (State.reqDefineAnt_conflict halted item fits built (State.antConflict_left left.1 left.2))
    · have conflict : s.beamConflict a d = some (num a) := if_pos ⟨beam.1, (Pos.isTravelling_iff _).mpr beam.2⟩
      exact exec_defineAnt free
        (State.reqDefineAnt_conflict halted item fits built ((State.antConflict_reached reached).trans conflict))
    · have conflict : s.beamConflict a d = none :=
        if_neg fun beam => rests ⟨beam.1, (Pos.isTravelling_iff _).mp beam.2⟩
      have answer := State.reqDefineAnt_accepted halted item fits built ((State.antConflict_reached reached).trans conflict)
      rw [State.storeAnt_body, State.ok] at answer
      obtain ⟨⟨ant, tx, hall⟩, minima, beam, sel, banks, clk, snaps, pins⟩ := s.storeAnt_spec a d
      refine ⟨_, exec_defineAnt free answer, ⟨_, rfl, rfl, rfl⟩, ?_⟩
      simp only [replied_hds, replied_antDef, replied_actDefined, replied_clk, replied_snaps, replied_pins]
      exact ⟨ant, tx, hall, s.storeAnt_members a d, s.storeAnt_inUse a d, replied_minimaStand _ _ _ _ _ minima, beam, sel,
        banksFollow_replied banks _ _ _ _, clk, snaps, pins⟩
  · have removes {t : State} {res : Result} := exec_defineAntRemove (tag := tag) (number := number) (t := t) (res := res) free
    have defined (h : s.antDefined a = true) : ∃ d, s.antDef a = some d := Option.isSome_iff_exists.mp h
    refine ⟨fun undefined => ?_, fun o h owned => ?_, fun n h unowned row => ?_, fun d was unowned apart rests => ?_⟩
    · have none : s.antDef a = none := by simpa [State.antDefined] using undefined
      exact removes
        (by simp only [State.reqDefineAntRemove, halted, if_true, item, none, State.ok])
    · obtain ⟨d, was⟩ := defined h
      exact removes
        (by simp only [State.reqDefineAntRemove, halted, if_true, item, was, State.antBar_owner owned, State.refused])
    · obtain ⟨d, was⟩ := defined h
      exact removes
        (by simp only [State.reqDefineAntRemove, halted, if_true, item, was, State.antBar_selector unowned row,
          State.refused])
    · have runs := removes (t := s.removeAnt a)
        (res := .accepted (.antUndefined number (some ((s.removeAnt a).zoneInUse d))))
        (by simp only [State.reqDefineAntRemove, halted, if_true, item, was, State.antBar_none unowned apart rests, State.ok])
      obtain ⟨⟨ant, tx, hall⟩, minima, run, trips, bookings, sel, beam, banks, clk, snaps, pins⟩ := s.removeAnt_spec a
      refine ⟨_, runs, ?_, ?_⟩
      · rw [replied_hds]; exact ⟨_, rfl, rfl, rfl⟩
      · simp only [replied_hds, replied_antDef, replied_run, replied_trips, replied_sch, replied_entry, replied_clk,
          replied_snaps, replied_pins]
        exact ⟨s.removeAnt_inUse a d.zone, ant, tx, hall, replied_minimaStand _ _ _ _ _ minima, run, trips, bookings, sel,
          beam, banksFollow_replied banks _ _ _ _, clk, snaps, pins⟩

end Sys2Proof.Proofs
end

section
/-! PROOFS. SCH's work on a handed second leaves the clock, to the millisecond (R25, R55, R57, R62, R114). -/

namespace Sys2Proof.Machine
open Sys2Proof Sys2Proof.Claims

theorem State.clk_of_core {s t : State} (h : t.outline.core = s.outline.core) : t.clk = s.clk := congrArg CoreView.clk h

theorem State.clk_of_besideBanks {s t : State} (h : t.besideBanks = s.besideBanks) : t.clk = s.clk :=
  (congrArg State.clk h :)

/-! ## The tests on the time (R55, R57) -/

theorem State.atTimeTest_besideBanks (s : State) : s.atTimeTest.besideBanks = s.besideBanks := by
  unfold State.atTimeTest
  split
  · split <;> simp
  · rfl

theorem State.expiryTest_besideBanks (s : State) : s.expiryTest.besideBanks = s.besideBanks := by
  unfold State.expiryTest
  split
  · split
    · rw [State.post_besideBanks]; simp only [State.besideBanks]
    · rfl
  · rfl

/-! ## Bookkeeping (R63, R77) -/

@[simp] theorem State.newRecord_outline (n : TxId) (r : OccRec) (s : State) : (s.newRecord n r).outline = s.outline := rfl

@[simp] theorem State.recordDone_outline (n : TxId) (id : TargetId) (why : DoneReason) (s : State) :
    (s.recordDone n id why).outline = s.outline := by
  unfold State.recordDone
  split
  · dsimp only
    split
    · split <;> simp
    · rfl
  · rfl

theorem State.endLive_outline (n : TxId) (s : State) : (s.endLive n).1.outline = s.outline := by
  unfold State.endLive
  split
  · split <;> simp
  · rfl

theorem State.expireBookings_outline (n : TxId) (s : State) : (s.expireBookings n).outline = s.outline :=
  State.each_outline (s.expiredBookings n) (fun b t => t.bookingLeaves b.id .ended) (fun _ t => by simp) s

theorem State.noteDisabled_outline (n : TxId) (s : State) : (s.noteDisabled n).outline = s.outline := by
  unfold State.noteDisabled
  dsimp only
  split
  · split <;> simp
  · rfl

@[simp] theorem State.bookkeep_outline (n : TxId) (s : State) : (s.bookkeep n).1.outline = s.outline :=
  (State.noteDisabled_outline n _).trans ((State.expireBookings_outline n _).trans (s.endLive_outline n))

/-! ## Claims (R114, R128, R129) -/

@[simp] theorem State.reserve_outline (a : AntId) (c : Claim) (s : State) : (s.reserve a c).outline = s.outline := by
  unfold State.reserve
  dsimp only
  split <;> simp

@[simp] theorem State.displace_outline (a : AntId) (d : Claim) (s : State) : (s.displace a d).outline = s.outline := by
  simp [State.displace]

theorem State.enterQueue_outline {a : AntId} {c : Claim} {s t : State} (h : s.enterQueue a c = some t) :
    t.outline = s.outline := by
  unfold State.enterQueue at h
  split at h
  · split at h
    · cases h; simp
    · split at h
      · split at h
        · cases h; simp
        · cases h
      · cases h
  · cases h

theorem State.entered_outline (a : AntId) (c : Claim) (s : State) : (s.entered a c).1.outline = s.outline := by
  unfold State.entered
  split
  next t enters => exact State.enterQueue_outline enters
  · rfl

theorem State.judgeClaim_outline (a : AntId) (c : Claim) (s : State) : (s.judgeClaim a c).1.outline = s.outline := by
  unfold State.judgeClaim
  extract_lets unowned emptyQueue obstacle
  split
  · simp
  · split
    · split
      next t enters => simp [State.enterQueue_outline enters]
      · rfl
    · split
      · exact s.entered_outline a c
      · rfl

@[simp] theorem State.claim_outline (a : AntId) (c : Claim) (s : State) : (s.claim a c).1.outline = s.outline := by
  unfold State.claim
  split_ifs
  · rfl
  · rfl
  · rfl
  · rw [State.judgeClaim_outline]; split <;> simp

@[simp] theorem State.submitClaim_outline (n : TxId) (s : State) : (s.submitClaim n).outline = s.outline := by
  unfold State.submitClaim
  split
  · split
    · dsimp only
      split <;> simp
    · rfl
  · rfl

@[simp] theorem State.claimIfNeeded_outline (n : TxId) (s : State) : (s.claimIfNeeded n).outline = s.outline := by
  unfold State.claimIfNeeded
  split
  · split
    · split <;> simp
    · rfl
  · rfl

theorem State.resubmit_outline (s : State) : s.resubmit.outline = s.outline := by
  unfold State.resubmit
  split
  · refine State.each_outline _ _ (fun n t => ?_) _
    split
    · split <;> simp
    · rfl
  · rfl

/-! ## The decision (R64 to R70) -/

@[simp] theorem State.changeover_core (n : TxId) (c : Changeover) (s : State) :
    (s.changeover n c).outline.core = s.outline.core := by
  unfold State.changeover
  split
  · rfl
  · simp [State.takeOverRamp]

@[simp] theorem State.changeoverToNone_core (n : TxId) (s : State) :
    (s.changeoverToNone n).outline.core = s.outline.core := by simp [State.changeoverToNone]

@[simp] theorem State.withdrawForRetarget_outline (n : TxId) (path : Option AntId) (s : State) :
    (s.withdrawForRetarget n path).outline = s.outline := by
  unfold State.withdrawForRetarget
  split
  · split <;> simp
  · rfl

@[simp] theorem State.retarget_outline (n : TxId) (c : Changeover) (s : State) : (s.retarget n c).outline = s.outline := by
  unfold State.retarget
  split
  · split <;> simp
  · rfl

@[simp] theorem State.drawn_outline (n : TxId) (s : State) : (s.drawn n).outline = s.outline := by
  unfold State.drawn; split <;> rfl

@[simp] theorem State.startRamp_core (n : TxId) (k : RampKind) (s : State) :
    (s.startRamp n k).outline.core = s.outline.core := by simp [State.startRamp]

@[simp] theorem State.reshape_core (n : TxId) (s : State) : (s.reshape n).outline.core = s.outline.core := by
  have recomposed : (s.recomposed n).1.outline = s.outline := by unfold State.recomposed; split <;> simp
  unfold State.reshape State.driveTo
  dsimp only
  split
  · rw [recomposed]
  · split
    · split_ifs <;> simp [recomposed]
    · split <;> simp [recomposed]
    · rw [recomposed]

@[simp] theorem State.link_core (n : TxId) (c : Cand) (s : State) : (s.link n c).outline.core = s.outline.core := by
  simp [State.link, State.matched]

@[simp] theorem State.miss_outline (n : TxId) (c : Cand) (why : MissCause) (s : State) :
    (s.miss n c why).outline = s.outline := by simp [State.miss]

@[simp] theorem State.pend_outline (n : TxId) (c : Cand) (s : State) : (s.pend n c).outline = s.outline := by
  unfold State.pend; split <;> simp

@[simp] theorem State.startToward_core (n : TxId) (c : Cand) (ended : Option TargetId) (s : State) :
    (s.startToward n c ended).outline.core = s.outline.core := by
  have gap (t : State) : (t.gapNotice n c ended).outline = t.outline := by
    unfold State.gapNotice
    split
    · dsimp only; split <;> simp
    · rfl
  simp [State.startToward, gap]

@[simp] theorem State.uncovered_core (n : TxId) (next : Option Cand) (ended : Option TargetId) (s : State) :
    (s.uncovered n next ended).outline.core = s.outline.core := by
  unfold State.uncovered
  split
  · split <;> simp
  · split_ifs <;> simp

@[simp] theorem State.idleDarken_core (n : TxId) (s : State) : (s.idleDarken n).outline.core = s.outline.core := by
  unfold State.idleDarken
  dsimp only
  split
  · split <;> simp
  · rfl

@[simp] theorem State.serveTarget_core (n : TxId) (ended : Option TargetId) (s : State) :
    (s.serveTarget n ended).outline.core = s.outline.core := by
  unfold State.serveTarget State.takeUp
  split
  · split_ifs <;> simp
  · simp

@[simp] theorem State.decideTx_core (n : TxId) (ended : Option TargetId) (s : State) :
    (s.decideTx n ended).outline.core = s.outline.core := by
  unfold State.decideTx; split <;> simp

@[simp] theorem State.decideHalting_core (n : TxId) (s : State) : (s.decideHalting n).outline.core = s.outline.core := by
  unfold State.decideHalting
  split
  · split <;> simp
  · simp

@[simp] theorem State.retargetCheck_core (n : TxId) (p : Plan) (s : State) :
    (s.retargetCheck n p).outline.core = s.outline.core := by
  have turn (t : State) (q : Plan) : (t.retargetTo n q).outline = t.outline := by
    unfold State.retargetTo
    dsimp only
    split
    · rfl
    · split <;> simp
  unfold State.retargetCheck
  split
  · rfl
  · dsimp only
    have ended (b : Bool) : (if b then s.abandon n .targetEnded else s).outline = s.outline := by split <;> simp
    split
    · rw [turn, ended]
    · rw [ended]

@[simp] theorem State.decisionStage_core (n : TxId) (ended : Option TargetId) (s : State) :
    (s.decisionStage n ended).outline.core = s.outline.core := by
  unfold State.decisionStage
  split
  · rfl
  · split
    · simp
    · split <;> simp

/-! ## The work on a second -/

theorem State.evaluate_core (s : State) : s.evaluate.outline.core = s.outline.core :=
  State.each_core _ _ (fun n t => by rw [State.evaluateTx, State.decisionStage_core, State.bookkeep_outline]) s

/-- SCH's work on a second leaves the clock, the oscillator's phase too. -/
@[simp] theorem State.handSecond_clk (s : State) : s.handSecond.clk = s.clk :=
  calc s.handSecond.clk
    _ = s.atTimeTest.expiryTest.evaluate.clk := State.clk_of_core (congrArg Outline.core (State.resubmit_outline _))
    _ = s.atTimeTest.expiryTest.clk := State.clk_of_core (State.evaluate_core _)
    _ = s.atTimeTest.clk := State.clk_of_besideBanks (State.expiryTest_besideBanks _)
    _ = s.clk := State.clk_of_besideBanks s.atTimeTest_besideBanks

@[simp] theorem State.handed_clk (s : State) : s.handed.clk = s.clk := by
  unfold State.handed; split <;> simp

end Sys2Proof.Machine
end

section
/-! PROOFS. What each operation of CLK does to the clock and to the rest of the state (R19 to R25). -/

namespace Sys2Proof.Machine
open Sys2Proof Sys2Proof.Claims

/-! ## What the operations of the clock leave alone -/

/-- What no block's own work changes, the clock left out: what the operations of the clock leave alone. -/
def State.besideClk (s : State) : Still := { s.still with clk := .powerOn }

theorem State.besideClk_of_still {s t : State} (h : t.still = s.still) : t.besideClk = s.besideClk :=
  congrArg (fun v => { v with clk := .powerOn }) h

theorem State.hds_of_besideClk {s t : State} (h : t.besideClk = s.besideClk) : t.hds = s.hds := congrArg Still.hds h

theorem State.snaps_of_besideClk {s t : State} (h : t.besideClk = s.besideClk) : t.snaps = s.snaps := congrArg Still.snaps h

theorem State.pins_of_besideClk {s t : State} (h : t.besideClk = s.besideClk) : t.pins = s.pins := congrArg Still.pins h

@[simp] theorem State.updClk_besideClk (f : Clock → Clock) (s : State) : (s.updClk f).besideClk = s.besideClk := rfl

@[simp] theorem State.elapse_besideClk (k : Nat) (s : State) : (s.elapse k).besideClk = s.besideClk := rfl

@[simp] theorem State.post_besideClk (nt : Notice) (s : State) : (s.post nt).besideClk = s.besideClk := rfl

@[simp] theorem State.handed_besideClk (s : State) : s.handed.besideClk = s.besideClk := besideClk_of_still s.handed_still

@[simp] theorem State.handSecond_besideClk (s : State) : s.handSecond.besideClk = s.besideClk :=
  besideClk_of_still s.handSecond_still

@[simp] theorem State.toClock_besideClk (st : ClkState) (cause : ClkCause) (s : State) :
    (s.toClock st cause).besideClk = s.besideClk := by
  unfold State.toClock; split <;> rfl

@[simp] theorem State.applySet_besideClk (v : TimeSet) (s : State) : (s.applySet v).besideClk = s.besideClk := by
  simp [State.applySet]

/-! ## A second advance (R19, R20) -/

theorem Clock.advance_unset {c : Clock} (unset : c.state = .unset) :
    c.advance = { c with elapsed := (c.elapsed + 1) % 4294967296 } := if_pos unset

theorem Clock.advance_set {c : Clock} (running : c.state ≠ .unset) : c.advance = secondBegun c := by
  unfold Clock.advance secondBegun nextTime
  dsimp only
  rw [if_neg running]
  split_ifs <;> rfl

/-! ## The work handed to SCH (R25) -/

theorem State.handed_unset {s : State} (unset : s.clk.state = .unset) : s.handed = s := if_pos unset

theorem State.handed_set {s : State} (running : s.clk.state ≠ .unset) : s.handed = s.handSecond := if_neg running

/-! ## A change of clock state (R21) -/

theorem State.toClock_same {st : ClkState} {s : State} (same : s.clk.state = st) (cause : ClkCause) :
    s.toClock st cause = s := if_pos same

theorem State.toClock_new {st : ClkState} {s : State} (new : s.clk.state ≠ st) (cause : ClkCause) :
    s.toClock st cause = ({ s with clk := { s.clk with state := st } }).post (.clockState s.clk.state st cause) := if_neg new

/-- The clock is changed and keeps its state. -/
theorem State.updClk_toClock_same {st : ClkState} {f : Clock → Clock} {s : State} (same : s.clk.state = st)
    (kept : (f s.clk).state = s.clk.state) (cause : ClkCause) : (s.updClk f).toClock st cause = s.updClk f :=
  State.toClock_same (s := s.updClk f) (kept.trans same) cause

/-- The clock is changed and then takes another state. -/
theorem State.updClk_toClock {st : ClkState} {f : Clock → Clock} {s : State} (new : s.clk.state ≠ st)
    (kept : (f s.clk).state = s.clk.state) (cause : ClkCause) : (s.updClk f).toClock st cause =
      ({ s with clk := { f s.clk with state := st } }).post (.clockState s.clk.state st cause) := by
  have changed := State.toClock_new (s := s.updClk f) (fun same => new (kept.symm.trans same)) cause
  rw [changed, show (s.updClk f).clk.state = s.clk.state from kept]
  rfl

@[simp] theorem State.toClock_clk (st : ClkState) (cause : ClkCause) (s : State) :
    (s.toClock st cause).clk = { s.clk with state := st } := by
  by_cases same : s.clk.state = st
  · rw [State.toClock_same same, ← same]
  · rw [State.toClock_new same, State.post_clk]

/-! ## A time set (R23) -/

/-- The clock once a set is applied (R23): FREE, with the oscillator's phase set. -/
def Clock.afterSet (v : TimeSet) (c : Clock) : Clock :=
  { timeTaken v c with state := .free, phase := 0, tail := false, seen := none }

@[simp] theorem State.applySet_clk (v : TimeSet) (s : State) : (s.applySet v).clk = s.clk.afterSet v := by
  simp [State.applySet, State.updClk, Clock.take, Clock.afterSet, timeTaken]

/-- A set applied hands SCH its value, after the CLOCK-STATE notice where the clock was not FREE (R21, R25). -/
theorem State.applySet_eq (v : TimeSet) (s : State) :
    s.applySet v =
      State.handSecond (if s.clk.state = .free then { s with clk := s.clk.afterSet v }
        else State.post (.clockState s.clk.state .free .set) { s with clk := s.clk.afterSet v }) := by
  have free : (s.applySet v).clk.state = ClkState.free := by rw [State.applySet_clk]; rfl
  unfold State.applySet at free ⊢
  rw [State.handed_clk] at free
  rw [State.handed_set (by rw [free]; decide)]
  congr 1
  by_cases was : s.clk.state = .free
  · rw [if_pos was]
    rw [State.updClk_toClock_same was rfl]
    simp only [State.updClk, Clock.take, Clock.afterSet, timeTaken, was]
  · rw [if_neg was]
    exact State.updClk_toClock was rfl _

/-! ## The oscillator's second (R19) -/

/-- The clock once the oscillator has marked a second (R19, R22). -/
def Clock.ticked (c : Clock) : Clock :=
  { c.advance with phase := c.phase - 1000, tail := decide (c.state = .locked), seen := none }

theorem Clock.advance_phase (c : Clock) (k : Nat) : { c with phase := k }.advance = { c.advance with phase := k } := by
  unfold Clock.advance
  dsimp only
  split_ifs <;> rfl

theorem Clock.advance_state (c : Clock) : c.advance.state = c.state := by
  unfold Clock.advance
  dsimp only
  split_ifs <;> rfl

theorem State.oscillatorTick_eq (s : State) :
    s.oscillatorTick = State.handed { s.elapse (1000 - s.clk.phase) with clk := s.clk.ticked } := by
  have phase : s.clk.phase + (1000 - s.clk.phase) - 1000 = s.clk.phase - 1000 := by omega
  unfold State.oscillatorTick State.updClk Clock.ticked
  simp only [State.elapse, Clock.advance_phase, phase]
  rfl

@[simp] theorem State.oscillatorTick_clk (s : State) : s.oscillatorTick.clk = s.clk.ticked := by
  rw [State.oscillatorTick_eq, State.handed_clk]

@[simp] theorem State.oscillatorTick_besideClk (s : State) : s.oscillatorTick.besideClk = s.besideClk := by
  rw [State.oscillatorTick_eq, State.handed_besideClk]; rfl

theorem State.oscillatorSecond_closed {s : State} (closed : s.clk.state = .locked → s.clk.tail = false) :
    s.oscillatorSecond = s.oscillatorTick := by
  unfold State.oscillatorSecond
  rw [if_neg]
  rintro ⟨locked, isOpen⟩
  simp [closed locked] at isOpen

/-! ## The pulse window (R22) -/

/-- The clock at the close of a window with no pulse in it (R22). -/
def Clock.closed (c : Clock) : Clock := { c with tail := false, missing := bumpTo 3 c.missing }

/-- The first and the second missing pulse are counted. -/
theorem State.missedPulse_counted {s : State} (few : s.clk.missing < 2) :
    s.missedPulse = { s with clk := { s.clk with tail := false, missing := s.clk.missing + 1 } } := by
  have count : bumpTo 3 s.clk.missing = s.clk.missing + 1 := by unfold bumpTo; split <;> omega
  unfold State.missedPulse State.updClk
  simp only [count]
  rw [if_neg (by omega)]

/-- The third missing pulse enters HOLDOVER (R22). -/
theorem State.missedPulse_third {s : State} (locked : s.clk.state = .locked) (third : s.clk.missing = 2)
    (none : s.clk.pend = none) : s.missedPulse =
      ({ s with clk := { s.clk with state := .holdover, tail := false, missing := 3 } }).post
        (.clockState .locked .holdover .missing) := by
  simp [State.missedPulse, State.updClk, State.toClock, bumpTo, locked, third, none, State.post]

/-- The third missing pulse with a set pending: HOLDOVER is entered and the set applied (R24). -/
theorem State.missedPulse_set {s : State} {v : TimeSet} (locked : s.clk.state = .locked) (third : s.clk.missing = 2)
    (pend : s.clk.pend = some v) : s.missedPulse =
      (({ s with clk := { s.clk with state := .holdover, tail := false, missing := 3 } }).post
        (.clockState .locked .holdover .missing)).applySet v := by
  simp [State.missedPulse, State.updClk, State.toClock, bumpTo, locked, third, pend, State.post]

@[simp] theorem State.missedPulse_besideClk (s : State) : s.missedPulse.besideClk = s.besideClk := by
  unfold State.missedPulse
  dsimp only
  split
  · split <;> simp
  · simp

theorem State.windowCloses_unlocked {s : State} (other : s.clk.state ≠ .locked) : s.windowCloses = s := if_neg other

theorem State.windowCloses_open {s : State} (locked : s.clk.state = .locked) (isOpen : s.clk.tail = true) :
    s.windowCloses = (s.elapse (50 - s.clk.phase)).missedPulse := by simp [State.windowCloses, locked, isOpen]

theorem State.windowCloses_besideClk (s : State) : s.windowCloses.besideClk = s.besideClk := by
  unfold State.windowCloses
  split
  · dsimp only
    split <;> simp
  · rfl

/-- The close of a window in which two pulses at most are missing then (R22). -/
theorem State.windowCloses_counted {s : State} (locked : s.clk.state = .locked) (isOpen : s.clk.tail = true)
    (early : s.clk.phase ≤ 50) (few : s.clk.missing < 2) :
    s.windowCloses = { s.elapse (50 - s.clk.phase) with
      clk := { s.clk with phase := 50, tail := false, missing := s.clk.missing + 1 } } := by
  have instant : s.clk.phase + (50 - s.clk.phase) = 50 := by omega
  rw [State.windowCloses_open locked isOpen, State.missedPulse_counted (s := s.elapse (50 - s.clk.phase)) few]
  simp only [State.elapse, instant]

/-! ## A span passes (R19, R22) -/

theorem Chan.tick_tick (a b : Nat) (isOpen : Bool) (c : Chan) : (c.tick a isOpen).tick b isOpen = c.tick (a + b) isOpen := by
  obtain ⟨running, remaining, duration⟩ := c
  cases running <;> cases isOpen <;> simp [Chan.tick, Nat.sub_sub]

theorem TxTimers.tick_tick (a b : Nat) (isOpen : Bool) (t : TxTimers) :
    (t.tick a isOpen).tick b isOpen = t.tick (a + b) isOpen := by
  simp only [TxTimers.tick, Chan.tick_tick]

theorem State.gateOpen_ramp (n : TxId) (s : State) :
    s.gateOpen (.tx n .ramp) = rampGate s.txs.ctx[n] s.csq.plans[n] := rfl

/-- Two spans that pass one after the other, the clock changed between them. -/
theorem State.elapse_elapse (a b : Nat) (c : Clock) (s : State) :
    State.elapse b { s.elapse a with clk := c } = { s.elapse (a + b) with clk := { c with phase := c.phase + b } } := by
  simp only [State.elapse, State.gateOpen_ramp, Fin.getElem_fin, Vector.getElem_ofFn, TxTimers.tick_tick, Chan.tick_tick]

/-- A span in which neither the close of an open window nor a second falls due. -/
theorem State.passing_quiet {s : State} {left : Nat}
    (quiet : if s.clk.state = .locked ∧ s.clk.tail = true then s.clk.phase + left ≤ 50 else s.clk.phase + left < 1000)
    (k : Nat) : s.passing k left = s.elapse left := by
  cases k with
  | zero => rfl
  | succ k =>
    unfold State.passing
    split at quiet
    next h => rw [if_pos h, if_neg (by omega)]
    next h => rw [if_neg h, if_neg (by omega)]

theorem State.pass_quiet {s : State} {left : Nat}
    (quiet : if s.clk.state = .locked ∧ s.clk.tail = true then s.clk.phase + left ≤ 50 else s.clk.phase + left < 1000) :
    s.pass left = s.elapse left := State.passing_quiet quiet _

/-- A span in which an open window closes, and no more falls due. -/
theorem State.pass_closing {s : State} {left : Nat} (locked : s.clk.state = .locked) (isOpen : s.clk.tail = true)
    (late : 50 < s.clk.phase + left)
    (quiet : let t := s.windowCloses
      ¬ (t.clk.state = .locked ∧ t.clk.tail = true) ∧ t.clk.phase + (left - (50 - s.clk.phase)) < 1000) :
    s.pass left = s.windowCloses.elapse (left - (50 - s.clk.phase)) := by
  have closes : s.pass left = s.windowCloses.passing (2 * ((s.clk.phase + left) / 1000) + 1) (left - (50 - s.clk.phase)) := by
    rw [State.pass, State.passing, if_pos ⟨locked, isOpen⟩, if_pos late]
  rw [closes, State.passing_quiet]
  rw [if_neg quiet.1]
  exact quiet.2

/-! ## A pulse (R21, R22) -/

theorem State.pulse_unset {s : State} {k : Nat} (unset : (s.pass k).clk.state = .unset) : s.pulse k = s.pass k := by
  simp only [State.pulse, unset]

theorem State.pulse_locked {s : State} {k : Nat} (locked : (s.pass k).clk.state = .locked) :
    s.pulse k = (s.pass k).lockedPulse := by simp only [State.pulse, locked]

theorem State.pulse_locking {s : State} {k : Nat}
    (other : (s.pass k).clk.state = .free ∨ (s.pass k).clk.state = .holdover) : s.pulse k = (s.pass k).lockingPulse := by
  rcases other with h | h <;> simp only [State.pulse, h]

/-- The clock that a pulse in its window leaves locked, with the time its window has left (R21, R22). -/
def Clock.struck (w : Option Nat) (c : Clock) : Clock :=
  { c with state := .locked, phase := 0, tail := false, seen := w, missing := 0 }

/-- A pulse locks the clock; half a second or more after the last advance it is a second advance, which is worked (R21, R25). -/
theorem State.lockingPulse_eq {s : State} (other : s.clk.state = .free ∨ s.clk.state = .holdover) :
    s.lockingPulse =
      if 500 ≤ s.clk.phase then
        (({ s with clk := (secondBegun s.clk).struck none }).post (.clockState s.clk.state .locked .pulse)).handSecond
      else ({ s with clk := s.clk.struck none }).post (.clockState s.clk.state .locked .pulse) := by
  have set : s.clk.state ≠ .unset := by rcases other with h | h <;> simp [h]
  have unlocked : s.clk.state ≠ .locked := by rcases other with h | h <;> simp [h]
  unfold State.lockingPulse
  dsimp only
  split
  · rw [Clock.advance_set set, State.updClk_toClock unlocked rfl, State.handed_set (by simp)]
    rfl
  · exact State.updClk_toClock unlocked rfl _

/-- A pulse on time with no set pending: it confirms a second begun, or begins one, which is worked (R22, R25). -/
theorem State.onTimePulse_confirms {s : State} (locked : s.clk.state = .locked) (none : s.clk.pend = none) :
    s.onTimePulse =
      if s.clk.begun then { s with clk := s.clk.struck (some s.clk.windowLeft) }
      else State.handSecond { s with clk := (secondBegun s.clk).struck (some s.clk.windowLeft) } := by
  unfold State.onTimePulse Clock.pulsed
  simp only [none]
  split
  · simp only [State.updClk, Clock.struck, ← locked]
  · rw [State.handed_set] <;> simp [State.updClk, Clock.struck, Clock.advance_set, secondBegun, locked]

/-- A pulse on time with a set pending: the set is applied, and worked (R24, R25). -/
theorem State.onTimePulse_applies {s : State} {v : TimeSet} (locked : s.clk.state = .locked) (pend : s.clk.pend = some v) :
    s.onTimePulse = State.handSecond { s with
      clk := (timeTaken v (if s.clk.begun then s.clk else secondBegun s.clk)).struck (some s.clk.windowLeft) } := by
  unfold State.onTimePulse Clock.pulsed
  simp only [pend]
  rw [State.handed_set]
  · congr 1
    split <;> simp [State.updClk, Clock.struck, Clock.take, timeTaken, Clock.advance_set, secondBegun, locked]
  · split <;> simp [State.updClk, Clock.take, Clock.advance_set, secondBegun, locked]

end Sys2Proof.Machine
end

section
/-! PROOFS. The clock stays within its ranges (R19 to R24): the operations of CLK keep it so, and no other block writes it. -/

namespace Sys2Proof.Machine
open Sys2Proof Sys2Proof.Claims

/-! ## The operations of the clock (R19 to R24) -/

/-- A time set whose parts are in their ranges (R19, R23). -/
def TimeSet.inRange (v : TimeSet) : Prop := v.day < 65536 ∧ v.sec < 86400 ∧ v.offset < 7

theorem clockLegal_secondBegun {c : Clock} (h : clockLegal c) (set : c.state ≠ .unset) : clockLegal (secondBegun c) := by
  obtain ⟨day, sec, offset, missing, stray, _, _, rest⟩ := h
  have next : (nextTime c).1 < 65536 ∧ (nextTime c).2.1 < 86400 ∧ (nextTime c).2.2 < 7 := by
    unfold nextTime; split_ifs <;> refine ⟨?_, ?_, ?_⟩ <;> dsimp only <;> omega
  exact ⟨next.1, next.2.1, next.2.2, missing, stray, Nat.mod_lt _ (by decide), fun unset => absurd unset set, rest⟩

theorem Clock.ticked_state (c : Clock) : c.ticked.state = c.state := by simp only [Clock.ticked, Clock.advance_state]

theorem clockLegal_ticked {c : Clock} (h : clockLegal c) : clockLegal c.ticked := by
  have advanced : clockLegal c.advance := by
    by_cases unset : c.state = .unset
    · obtain ⟨day, sec, offset, missing, stray, _, rest⟩ := h
      rw [Clock.advance_unset unset]
      exact ⟨day, sec, offset, missing, stray, Nat.mod_lt _ (by decide), rest⟩
    · rw [Clock.advance_set unset]; exact clockLegal_secondBegun h unset
  have state := c.advance_state
  unfold Clock.ticked
  generalize c.advance = d at advanced state
  obtain ⟨day, sec, offset, missing, stray, elapsed, unset, locked, pend, _, pended⟩ := advanced
  exact ⟨day, sec, offset, missing, stray, elapsed, unset, locked, pend,
    fun isOpen => state.trans (of_decide_eq_true isOpen), pended⟩

theorem clockLegal_afterSet {c : Clock} (h : clockLegal c) {v : TimeSet} (range : v.inRange) : clockLegal (c.afterSet v) := by
  obtain ⟨day, sec, offset⟩ := range
  obtain ⟨-, -, -, -, stray, elapsed, -⟩ := h
  refine ⟨day, sec, offset, by simp [Clock.afterSet, timeTaken], stray, elapsed, ?_⟩
  simp [Clock.afterSet, timeTaken]

/-- A clock that keeps no set but in LOCKED may be locked by a pulse. -/
theorem clockLegal_struck {c : Clock} (h : clockLegal c) (w : Option Nat) : clockLegal (c.struck w) := by
  obtain ⟨day, sec, offset, -, stray, elapsed, -, -, -, -, pended⟩ := h
  refine ⟨day, sec, offset, by simp [Clock.struck], stray, elapsed, ?_⟩
  simpa [Clock.struck] using pended

theorem clockLegal_timeTaken {c : Clock} (h : clockLegal c) (locked : c.state = .locked) {v : TimeSet} (range : v.inRange) :
    clockLegal (timeTaken v c) := by
  obtain ⟨day, sec, offset⟩ := range
  obtain ⟨-, -, -, -, stray, elapsed, -⟩ := h
  refine ⟨day, sec, offset, by simp [Claims.timeTaken], stray, elapsed, ?_⟩
  simp [Claims.timeTaken, locked]

/-- A pending set is in range. -/
theorem clockLegal_pend_inRange {c : Clock} (h : clockLegal c) {v : TimeSet} (pend : c.pend = some v) : v.inRange := by
  obtain ⟨-, -, -, -, -, -, -, -, -, -, pended⟩ := h
  exact pended v pend

theorem clockLegal_missing_lt {c : Clock} (h : clockLegal c) (locked : c.state = .locked) : c.missing < 3 := by
  obtain ⟨-, -, -, -, -, -, -, few, -⟩ := h
  exact few locked

/-! ## The operations over the state -/

theorem State.oscillatorTick_legal {s : State} (h : clockLegal s.clk) : clockLegal s.oscillatorTick.clk := by
  rw [State.oscillatorTick_clk]; exact clockLegal_ticked h

/-- A missing pulse in LOCKED (R22, R24). -/
theorem State.missedPulse_legal {s : State} (h : clockLegal s.clk) (locked : s.clk.state = .locked) :
    clockLegal s.missedPulse.clk := by
  have few := clockLegal_missing_lt h locked
  obtain ⟨day, sec, offset, -, stray, elapsed, unset, -, pend, -, pended⟩ := id h
  by_cases third : s.clk.missing = 2
  · cases set : s.clk.pend with
    | none =>
      rw [State.missedPulse_third locked third set, State.post_clk]
      refine ⟨day, sec, offset, le_refl 3, stray, elapsed, ?_⟩
      simp [set]
    | some v =>
      rw [State.missedPulse_set locked third set, State.applySet_clk]
      exact clockLegal_afterSet (c := s.clk) h (clockLegal_pend_inRange h set)
  · rw [State.missedPulse_counted (by omega)]
    exact ⟨day, sec, offset, by dsimp only; omega, stray, elapsed, unset, fun _ => by dsimp only; omega, pend,
      fun isOpen => Bool.noConfusion isOpen, pended⟩

theorem State.windowCloses_legal {s : State} (h : clockLegal s.clk) : clockLegal s.windowCloses.clk := by
  by_cases locked : s.clk.state = .locked
  · unfold State.windowCloses
    rw [if_pos locked]
    dsimp only
    split
    · exact State.missedPulse_legal (s := s.elapse _) h locked
    · refine State.missedPulse_legal (s := s.oscillatorTick.elapse _) (State.oscillatorTick_legal h) ?_
      exact (congrArg Clock.state s.oscillatorTick_clk).trans ((Clock.ticked_state _).trans locked)
  · rw [State.windowCloses_unlocked locked]; exact h

theorem State.passing_legal {s : State} (h : clockLegal s.clk) (k left : Nat) : clockLegal (s.passing k left).clk := by
  induction k generalizing left s with
  | zero => exact h
  | succ k ih =>
    unfold State.passing
    split
    · split
      · exact ih (State.windowCloses_legal h) _
      · exact h
    · split
      · exact ih (State.oscillatorTick_legal h) _
      · exact h

theorem State.lockingPulse_legal {s : State} (h : clockLegal s.clk)
    (other : s.clk.state = .free ∨ s.clk.state = .holdover) : clockLegal s.lockingPulse.clk := by
  have set : s.clk.state ≠ .unset := by rcases other with h | h <;> simp [h]
  rw [State.lockingPulse_eq other]
  split
  · rw [State.handSecond_clk, State.post_clk]; exact clockLegal_struck (clockLegal_secondBegun h set) _
  · rw [State.post_clk]; exact clockLegal_struck h _

theorem State.lockedPulse_legal {s : State} (h : clockLegal s.clk) (locked : s.clk.state = .locked) :
    clockLegal s.lockedPulse.clk := by
  have set : s.clk.state ≠ .unset := by simp [locked]
  unfold State.lockedPulse
  split
  · cases pend : s.clk.pend with
    | none =>
      rw [State.onTimePulse_confirms locked pend]
      split
      · exact clockLegal_struck h _
      · rw [State.handSecond_clk]; exact clockLegal_struck (clockLegal_secondBegun h set) _
    | some v =>
      rw [State.onTimePulse_applies locked pend, State.handSecond_clk]
      refine clockLegal_struck (clockLegal_timeTaken ?_ ?_ (clockLegal_pend_inRange h pend)) _
      · split
        · exact h
        · exact clockLegal_secondBegun h set
      · split <;> exact locked
  · obtain ⟨day, sec, offset, missing, stray, rest⟩ := h
    refine ⟨day, sec, offset, missing, ?_, rest⟩
    show bumpTo 65535 s.clk.stray ≤ 65535
    unfold bumpTo; split <;> omega

theorem State.pulse_legal {s : State} (h : clockLegal s.clk) (k : Nat) : clockLegal (s.pulse k).clk := by
  have passed : clockLegal (s.pass k).clk := State.passing_legal h _ k
  cases state : (s.pass k).clk.state with
  | unset => rw [State.pulse_unset state]; exact passed
  | free => rw [State.pulse_locking (.inl state)]; exact State.lockingPulse_legal passed (.inl state)
  | locked => rw [State.pulse_locked state]; exact State.lockedPulse_legal passed state
  | holdover => rw [State.pulse_locking (.inr state)]; exact State.lockingPulse_legal passed (.inr state)

theorem State.oscillatorSecond_legal {s : State} (h : clockLegal s.clk) : clockLegal s.oscillatorSecond.clk := by
  unfold State.oscillatorSecond
  split
  · exact State.oscillatorTick_legal (State.windowCloses_legal h)
  · exact State.oscillatorTick_legal h

/-! ## SET-TIME (R23) -/

theorem optWithin_iff (lo hi : Nat) (o : Option Nat) : optWithin lo hi o = true ↔ ∀ x, o = some x → lo ≤ x ∧ x ≤ hi := by
  cases o <;> simp [optWithin, within]

theorem timeFault_day {day sec : Nat} {offset : Option Nat} (above : 65535 < day) : timeFault day sec offset = some 1 := by
  simp [timeFault, firstBad, within, above]

theorem timeFault_sec {day sec : Nat} {offset : Option Nat} (below : day ≤ 65535) (above : 86399 < sec) :
    timeFault day sec offset = some 2 := by
  simp [timeFault, firstBad, within, below, above]

theorem timeFault_offset {day sec o : Nat} (d : day ≤ 65535) (t : sec ≤ 86399) (above : 6 < o) :
    timeFault day sec (some o) = some 3 := by
  simp [timeFault, firstBad, within, optWithin, d, t, above]

theorem timeFault_none_iff {day sec : Nat} {offset : Option Nat} :
    timeFault day sec offset = none ↔ day ≤ 65535 ∧ sec ≤ 86399 ∧ ∀ o, offset = some o → o ≤ 6 := by
  have last : optWithin 0 6 offset = true ↔ ∀ o, offset = some o → o ≤ 6 := by simp [optWithin_iff]
  rw [← last]
  simp [timeFault, firstBad, within]

/-- The set that a SET-TIME in range carries, an absent OFFSET being the present one. -/
theorem timeSet_inRange {day sec : Nat} {offset : Option Nat} {c : Clock} (h : clockLegal c)
    (fits : timeFault day sec offset = none) : TimeSet.inRange ⟨day, sec, offset.getD c.offset⟩ := by
  obtain ⟨d, t, o⟩ := timeFault_none_iff.mp fits
  obtain ⟨-, -, present, -⟩ := h
  refine ⟨Nat.lt_succ_of_le d, Nat.lt_succ_of_le t, ?_⟩
  cases offset with
  | none => exact present
  | some x => exact Nat.lt_succ_of_le (o x rfl)

theorem State.reqSetTime_legal {s : State} (h : clockLegal s.clk) (day sec : Nat) (offset : Option Nat) :
    clockLegal (s.reqSetTime day sec offset).st.clk := by
  unfold State.reqSetTime
  split
  · exact h
  next fits =>
    have range := timeSet_inRange h fits
    unfold State.takeTime State.ok
    dsimp only
    split
    next locked =>
      obtain ⟨day, sec, offset, missing, stray, elapsed, unset, few, -, tail, -⟩ := h
      exact ⟨day, sec, offset, missing, stray, elapsed, unset, few, fun _ => locked, tail, fun v pend => by cases pend; exact range⟩
    · rw [State.applySet_clk]; exact clockLegal_afterSet h range

/-! ## The other requests -/

/-- A clock that is the same to the second, the phase of the oscillator left out. -/
theorem clockLegal_of_still {s t : State} (same : t.still = s.still) (h : clockLegal s.clk) : clockLegal t.clk := by
  have clk : ({ t.clk with phase := 0 } : Clock) = { s.clk with phase := 0 } := congrArg Still.clk same
  have legal : clockLegal { s.clk with phase := 0 } := h
  rw [← clk] at legal
  exact legal

theorem clockLegal_of_eq {s t : State} (same : t.clk = s.clk) (h : clockLegal s.clk) : clockLegal t.clk := same ▸ h

theorem State.reqDefineTx_clk (number : Nat) (f : TxFields) (s : State) : (s.reqDefineTx number f).st.clk = s.clk := by
  have stored (n : TxId) (d : TxDef) : (s.storeTx n d).clk = s.clk := by
    obtain ⟨-, -, -, -, -, clk, -⟩ := s.storeTx_spec n d; exact clk
  unfold State.reqDefineTx State.ok State.refused
  split_ifs
  · split
    · rfl
    · split
      · rfl
      · rfl
      · split
        · rfl
        · exact stored _ _
  · rfl

theorem State.reqDefineTxRemove_clk (number : Nat) (s : State) : (s.reqDefineTxRemove number).st.clk = s.clk := by
  have removed (n : TxId) : (s.removeTx n).clk = s.clk := by
    obtain ⟨-, -, -, -, -, -, -, -, -, clk, -⟩ := s.removeTx_spec n; exact clk
  unfold State.reqDefineTxRemove State.ok State.refused
  split_ifs
  · split
    · rfl
    · split_ifs
      · split
        · rfl
        · exact removed _
      · rfl
  · rfl

theorem State.reqDefineAnt_clk (number : Nat) (f : AntFields) (s : State) : (s.reqDefineAnt number f).st.clk = s.clk := by
  have stored (a : AntId) (d : AntDef) : (s.storeAnt a d).clk = s.clk := by
    obtain ⟨-, -, -, -, -, clk, -⟩ := s.storeAnt_spec a d; exact clk
  unfold State.reqDefineAnt State.ok State.refused
  split_ifs
  · split
    · rfl
    · split
      · rfl
      · rfl
      · split
        · rfl
        · split
          · rfl
          · exact stored _ _
  · rfl

theorem State.reqDefineAntRemove_clk (number : Nat) (s : State) : (s.reqDefineAntRemove number).st.clk = s.clk := by
  have removed (a : AntId) : (s.removeAnt a).clk = s.clk := by
    obtain ⟨-, -, -, -, -, -, -, -, clk, -⟩ := s.removeAnt_spec a; exact clk
  unfold State.reqDefineAntRemove State.ok State.refused
  split_ifs
  · split
    · rfl
    · split
      · split
        · rfl
        · exact removed _
      · rfl
  · rfl

theorem State.reqDefineHall_clk (f : HallFields) (s : State) : (s.reqDefineHall f).st.clk = s.clk := by
  have stored (d : HallDef) : (s.storeHall d).clk = s.clk := (congrArg State.clk (s.storeHall_besideBanks d) :)
  unfold State.reqDefineHall State.ok State.refused
  split_ifs
  · split
    · rfl
    · split
      · rfl
      · exact stored _
  · rfl

/-- A latching of slots writes the slots alone. -/
theorem State.latchSlot_eq (n : TxId) (s : State) : s.latchSlot n = { s with snaps := (s.latchSlot n).snaps } := by
  unfold State.latchSlot; split <;> rfl

theorem State.reqLatch_clk (which : Option (List Nat)) (s : State) : (s.reqLatch which).st.clk = s.clk := by
  have latched (l : List TxId) : (s.latchAll l).st.clk = s.clk :=
    State.each_view State.clk l (fun n t => by rw [t.latchSlot_eq n]) s
  unfold State.reqLatch
  split
  · exact latched _
  · split
    · split
      · rfl
      · exact latched _
    · rfl

theorem State.reqReadSnapshot_clk (number : Nat) (s : State) : (s.reqReadSnapshot number).st.clk = s.clk := by
  unfold State.reqReadSnapshot State.ok State.refused
  split
  · rfl
  · split
    · split <;> rfl
    · rfl

theorem State.reqSetHoldPoint_clk (which : Option Nat) (hp : HoldPoint) (s : State) :
    (s.reqSetHoldPoint which hp).st.clk = s.clk := by
  unfold State.reqSetHoldPoint State.withTx
  split
  · rfl
  · split
    · rfl
    · split <;> rfl

/-- RESTART takes the RESTART values, and then only starts channels, sweeps again, posts and enters a hall state (R186). -/
theorem State.restarted_still (s : State) : s.restarted.still = s.restartValues.still := by
  unfold State.restarted
  dsimp only
  rw [State.enterHall_still, State.each_still _ _ State.postIfOpen_still, State.resweep_still,
    State.each_still _ _ fun n t => t.startChan_still _ _]

/-- A request that is taken keeps the clock legal, by its owning block. -/
theorem State.serveRequest_legal {s : State} (h : clockLegal s.clk) (port : Port) (r : Request) :
    clockLegal (s.serveRequest port r).st.clk := by
  cases r with
  | setTime d t o => exact State.reqSetTime_legal h d t o
  | defineTx k f => exact clockLegal_of_eq (s.reqDefineTx_clk k f) h
  | defineTxRemove k => exact clockLegal_of_eq (s.reqDefineTxRemove_clk k) h
  | defineAnt k f => exact clockLegal_of_eq (s.reqDefineAnt_clk k f) h
  | defineAntRemove k => exact clockLegal_of_eq (s.reqDefineAntRemove_clk k) h
  | defineHall f => exact clockLegal_of_eq (s.reqDefineHall_clk f) h
  | latch w => exact clockLegal_of_eq (s.reqLatch_clk w) h
  | readSnapshot k => exact clockLegal_of_eq (s.reqReadSnapshot_clk k) h
  | setHoldPoint w hp => exact clockLegal_of_eq (s.reqSetHoldPoint_clk w hp) h
  | restart =>
    have kept : clockLegal s.restarted.clk := clockLegal_of_still s.restarted_still h
    exact kept
  | _ => exact clockLegal_of_still (by simp [State.serveRequest]) h

/-! ## Ports -/

theorem State.takeRequest_legal {s : State} (h : clockLegal s.clk) (port : Port) (f : InFrame) :
    clockLegal (s.takeRequest port f).clk := by
  have judged : clockLegal (s.judgeRequest port f.req).st.clk := by
    unfold State.judgeRequest
    split
    · exact h
    · split
      · exact State.serveRequest_legal h port _
      · exact h
  exact clockLegal_of_eq (State.updPort_clk ..) judged

theorem State.frameArrives_legal {s : State} (h : clockLegal s.clk) (port : Port) (f : InFrame) :
    clockLegal (s.frameArrives port f).clk := by
  unfold State.frameArrives
  split
  · exact clockLegal_of_eq (State.updPort_clk ..) h
  · split
    · exact clockLegal_of_eq (State.updPort_clk ..) h
    · exact State.takeRequest_legal h port f

theorem State.takeWaiting_legal {s : State} (h : clockLegal s.clk) (port : Port) : clockLegal (s.takeWaiting port).clk := by
  unfold State.takeWaiting
  split
  · have ready (f : PortState → PortState) : clockLegal (s.updPort port f).clk := clockLegal_of_eq (State.updPort_clk ..) h
    exact State.takeRequest_legal (s := State.stopChan _ (s.updPort port _)) (ready _) port _
  · exact h

theorem State.gapAfter_legal {s : State} (h : clockLegal s.clk) (port : Port) (was : RxState) (o : RxOut) :
    clockLegal (s.gapAfter port was o).clk := by
  unfold State.gapAfter
  split
  · exact h
  · split
    · exact h
    · exact clockLegal_of_still (s.retrigger_still _) h
  · exact h
  · exact h

theorem State.discardFrame_legal {s : State} (h : clockLegal s.clk) (port : Port) : clockLegal (s.discardFrame port).clk :=
  clockLegal_of_eq (State.updPort_clk ..) h

theorem State.byteReceived_legal {s : State} (h : clockLegal s.clk) (port : Port) (b : Byte) :
    clockLegal (s.byteReceived port b).clk := by
  have gap (f : PortState → PortState) (was : RxState) (o : RxOut) : clockLegal ((s.updPort port f).gapAfter port was o).clk :=
    State.gapAfter_legal (clockLegal_of_eq (State.updPort_clk ..) h) port was o
  unfold State.byteReceived
  split
  · unfold State.byteRefused
    dsimp only
    split
    · exact State.discardFrame_legal (gap _ _ _) port
    · exact gap _ _ _
  · dsimp only
    split
    · exact gap _ _ _
    · exact gap _ _ _
    · exact State.discardFrame_legal (gap _ _ _) port
    · exact State.frameArrives_legal (gap _ _ _) port _

theorem State.gapExpired_legal {s : State} (h : clockLegal s.clk) (port : Port) : clockLegal (s.gapExpired port).clk := by
  have upd (f : PortState → PortState) : clockLegal (s.updPort port f).clk := clockLegal_of_eq (State.updPort_clk ..) h
  unfold State.gapExpired
  split
  · exact upd _
  · split
    · exact h
    · exact State.discardFrame_legal (upd _) port

theorem State.onExpiry_legal {s : State} (h : clockLegal s.clk) (ch : ChanId) {f : State → State}
    (keeps : ∀ t : State, clockLegal t.clk → clockLegal (f t).clk) : clockLegal (s.onExpiry ch f).clk := by
  unfold State.onExpiry
  split
  next t expired => exact keeps t (clockLegal_of_still (State.expire_still expired) h)
  · exact h

/-! ## The EMERGENCY line -/

/-- An assertion of the EMERGENCY line changes its level, and the rest is the blocks' own work (R104, R123, R176). -/
theorem State.emergency_still (s : State) :
    s.emergency.still = State.still { s with pins := { s.pins with emergency := true } } := by
  unfold State.emergency
  dsimp only
  rw [State.stopSurvey_still, State.eachTx_still _ fun n v => v.causeReaches_still n .emergency,
    State.each_still _ _ fun n v => by simp, State.toHall_still]

theorem State.emergencyEnds_clk (s : State) : s.emergencyEnds.clk = s.clk := by
  unfold State.emergencyEnds
  dsimp only
  split <;> rfl

/-! ## Every command -/

/-- The commands that bring an event to a port, to the clock or to an input line. Every other one is a request's frame, or the
work of the blocks themselves, on reports, expiries and decisions of their own. -/
def bringsEvent : Instr → Bool
  | .powerOn | .portByte .. | .frameGapExpiry _ | .waitingFrameTaken _ | .frameTransmit _ | .secondPulse _
  | .oscillatorSecond | .pulseWindowClose | .syncRisingEdge | .syncInputOff | .emergencyAsserted | .emergencyReleased
  | .gateLineOff _ | .gateLineOn _ => true
  | _ => false

/-- A command that is the blocks' own work leaves what none of them writes. -/
theorem exec_still_of_inner {c : Instr} (frame : frameOf c = none) (inner : bringsEvent c = false) (s : State) :
    ∃ t, exec c s = .next t ∧ t.still = s.still := by
  cases c with
  | sweepStep => exact ⟨_, rfl, s.sweepStep_still⟩
  | bankRecheck => exact ⟨_, rfl, s.recheckBank_still⟩
  | syncQualifierExpiry => exact ⟨_, rfl, s.onExpiry_still _ _ State.syncEdge_still⟩
  | accept n => exact ⟨_, rfl, s.report_still n _ _ (State.accepted_still n)⟩
  | reject n reason => exact ⟨_, rfl, s.report_still n _ _ (State.rejected_still n)⟩
  | state n r => exact ⟨_, rfl, s.report_still n _ _ (State.digest_still n r)⟩
  | meter n x y => exact ⟨_, rfl, s.report_still n _ _ fun t => t.known_still n _ (State.meter_still n x y)⟩
  | tuned n f => exact ⟨_, rfl, s.report_still n _ _ fun t => t.known_still n _ (State.tuned_still n f)⟩
  | tuneFail n k => exact ⟨_, rfl, s.report_still n _ _ fun t => t.known_still n _ (State.tuneFailed_still n k)⟩
  | trip n u => exact ⟨_, rfl, s.report_still n _ _ fun t => t.known_still n _ (State.tripReport_still n _)⟩
  | fault n u => exact ⟨_, rfl, s.report_still n _ _ fun t => t.known_still n _ (State.unitFault_still n _)⟩
  | deferredOrderSend n => exact ⟨_, rfl, s.sendDeferred_still n⟩
  | orderAcceptExpiry n => exact ⟨_, rfl, s.onExpiry_still _ _ (State.lineLost_still n true)⟩
  | lineSilenceExpiry n => exact ⟨_, rfl, s.onExpiry_still _ _ (State.lineLost_still n false)⟩
  | warmUpExpiry n => exact ⟨_, rfl, s.onExpiry_still _ _ (State.warmUpEnds_still n)⟩
  | tuneExpiry n => exact ⟨_, rfl, s.onExpiry_still _ _ (State.tuneEnds_still n)⟩
  | rampExpiry n => exact ⟨_, rfl, s.onExpiry_still _ _ (State.rampStepped_still n)⟩
  | rfOffConfirmationExpiry n => exact ⟨_, rfl, s.onExpiry_still _ _ (State.rfOffUnconfirmed_still n)⟩
  | recycleExpiry n => exact ⟨_, rfl, s.onExpiry_still _ _ (State.recycleExpired_still n)⟩
  | phaseBegin n ph => exact ⟨_, rfl, s.phaseBegins_still n ph⟩
  | retargetEffect n => exact ⟨_, rfl, s.retargetEffect_still n⟩
  | moveHandover => exact ⟨_, rfl, s.handover_still⟩
  | antennaOffer a => exact ⟨_, rfl, s.offer_still a⟩
  | busOrderSend => exact ⟨_, rfl, s.serve_still⟩
  | moving k => exact ⟨_, rfl, s.fromBus_still k _ State.movingFrom_still⟩
  | arrived k p => exact ⟨_, rfl, s.fromBus_still k _ fun act t => by split <;> simp⟩
  | stuck k p => exact ⟨_, rfl, s.fromBus_still k _ fun act t => by split <;> simp⟩
  | position k p => exact ⟨_, rfl, s.fromBus_still k _ fun act t => by split <;> simp⟩
  | busAnswerExpiry => exact ⟨_, rfl, s.onExpiry_still _ _ State.answerExpired_still⟩
  | travelExpiry act => exact ⟨_, rfl, s.onExpiry_still _ _ (State.travelExpired_still act)⟩
  | allQuerySend => exact ⟨_, rfl, s.sendAllQuery_still⟩
  | surveyEnd => exact ⟨_, rfl, s.surveyEnds_still⟩
  | hallAllOff => exact ⟨_, rfl, s.haltedIfOff_still⟩
  | _ => simp [frameOf, bringsEvent] at frame inner

/-- A command that brings an event keeps the clock legal. -/
theorem exec_legal_of_event {c : Instr} (event : bringsEvent c = true) {s : State} (h : clockLegal s.clk) :
    ∃ t, exec c s = .next t ∧ clockLegal t.clk := by
  cases c with
  | powerOn => exact ⟨_, rfl, by rw [s.poweredOn_blocksPowered.clk]; exact clockLegal_powerOn⟩
  | portByte port b => exact ⟨_, rfl, State.byteReceived_legal h port b⟩
  | frameGapExpiry port => exact ⟨_, rfl, State.onExpiry_legal h _ fun t legal => State.gapExpired_legal legal port⟩
  | waitingFrameTaken port => exact ⟨_, rfl, State.takeWaiting_legal h port⟩
  | frameTransmit port => exact ⟨_, rfl, clockLegal_of_eq (State.updPort_clk ..) h⟩
  | secondPulse k => exact ⟨_, rfl, State.pulse_legal h k⟩
  | oscillatorSecond => exact ⟨_, rfl, State.oscillatorSecond_legal h⟩
  | pulseWindowClose => exact ⟨_, rfl, State.windowCloses_legal h⟩
  | syncRisingEdge =>
    refine ⟨_, rfl, clockLegal_of_eq ?_ h⟩
    unfold State.syncRises
    split <;> rfl
  | syncInputOff => exact ⟨_, rfl, h⟩
  | emergencyAsserted =>
    refine ⟨_, rfl, ?_⟩
    split
    · exact h
    · exact clockLegal_of_still (State.emergency_still s) h
  | emergencyReleased =>
    refine ⟨_, rfl, clockLegal_of_eq ?_ h⟩
    split
    · exact s.emergencyEnds_clk
    · rfl
  | gateLineOff z =>
    refine ⟨_, rfl, ?_⟩
    split
    · exact clockLegal_of_still (State.zoneOpens_still z _) h
    · exact h
  | gateLineOn z =>
    refine ⟨_, rfl, ?_⟩
    split
    · exact clockLegal_of_still (State.zoneCloses_still z _) h
    · exact h
  | _ => exact nomatch event

/-- Every command keeps the clock legal. -/
theorem exec_legal {s : State} (h : clockLegal s.clk) (c : Instr) : ∃ t, exec c s = .next t ∧ clockLegal t.clk := by
  cases event : bringsEvent c with
  | true => exact exec_legal_of_event event h
  | false =>
    cases frame : frameOf c with
    | some f =>
      obtain ⟨port, tag, r⟩ := f
      exact ⟨_, exec_of_frameOf frame s, State.frameArrives_legal h port _⟩
    | none =>
      obtain ⟨t, next, still⟩ := exec_still_of_inner frame event s
      exact ⟨t, next, clockLegal_of_still still h⟩

end Sys2Proof.Machine

namespace Sys2Proof.Proofs
open Sys2Proof Sys2Proof.Machine Sys2Proof.Claims

/-- Settles O13: a millisecond moves the oscillator's phase alone, and every command keeps the clock legal. -/
theorem everyStepKeepsTheClockLegal : Obligations.EveryStepKeepsTheClockLegal := by
  intro s t legal next
  unfold step at next
  split at next
  · cases next
    exact clockLegal_of_still s.idle_still legal
  next c rest _ =>
    obtain ⟨u, next', kept⟩ := exec_legal (s := s.withPending rest) legal c
    obtain rfl : u = t := by rw [next] at next'; cases next'; rfl
    exact kept

end Sys2Proof.Proofs
end

section
/-! PROOFS. The oscillator's second, the second pulse in each clock state, and the close of the pulse window, in the terms of the
state before them (R19 to R25). -/

namespace Sys2Proof.Machine
open Sys2Proof Sys2Proof.Claims

/-! ## The oscillator's second -/

theorem Clock.ticked_unset {c : Clock} (unset : c.state = .unset) : c.ticked =
    { c with elapsed := (c.elapsed + 1) % 4294967296, phase := c.phase - 1000, tail := false, seen := none } := by
  simp [Clock.ticked, Clock.advance_unset unset, unset]

theorem Clock.ticked_set {c : Clock} (set : c.state ≠ .unset) : c.ticked =
    { secondBegun c with phase := c.phase - 1000, tail := decide (c.state = .locked), seen := none } := by
  rw [Clock.ticked, Clock.advance_set set]

/-- Outside UNSET the oscillator's second is a second advance, worked at once (R19, R25). -/
theorem State.oscillatorTick_set {s : State} (set : s.clk.state ≠ .unset) :
    s.oscillatorTick = State.handSecond { s.elapse (1000 - s.clk.phase) with clk := s.clk.ticked } := by
  rw [State.oscillatorTick_eq, State.handed_set ((Clock.ticked_state s.clk).trans_ne set)]

/-- In UNSET the oscillator's second is counted, and nothing is handed on (R19, R25). -/
theorem State.oscillatorTick_unset {s : State} (unset : s.clk.state = .unset) :
    s.oscillatorTick = { s.elapse (1000 - s.clk.phase) with clk := s.clk.ticked } := by
  rw [State.oscillatorTick_eq, State.handed_unset ((Clock.ticked_state s.clk).trans unset)]

/-! ## The pulse that locks the clock (R21) -/

/-- A pulse in FREE or HOLDOVER within a second of the base, half a second or more after it. -/
theorem State.pulse_locking_late {s : State} {k : Nat} (other : s.clk.state = .free ∨ s.clk.state = .holdover)
    (late : 500 ≤ s.clk.phase + k) (within : s.clk.phase + k < 1000) :
    s.pulse k = (({ s.elapse k with clk := (secondBegun s.clk).struck none }).post
      (.clockState s.clk.state .locked .pulse)).handSecond := by
  have unlocked : ¬ (s.clk.state = .locked ∧ s.clk.tail = true) := by rcases other with h | h <;> simp [h]
  have passes : s.pass k = s.elapse k := State.pass_quiet (by rwa [if_neg unlocked])
  rw [State.pulse_locking (by rwa [passes]), passes, State.lockingPulse_eq (s := s.elapse k) other]
  exact if_pos late

/-- A pulse in FREE or HOLDOVER less than half a second after the base. -/
theorem State.pulse_locking_early {s : State} {k : Nat} (other : s.clk.state = .free ∨ s.clk.state = .holdover)
    (early : s.clk.phase + k < 500) :
    s.pulse k = ({ s.elapse k with clk := s.clk.struck none }).post (.clockState s.clk.state .locked .pulse) := by
  have unlocked : ¬ (s.clk.state = .locked ∧ s.clk.tail = true) := by rcases other with h | h <;> simp [h]
  have passes : s.pass k = s.elapse k := State.pass_quiet (by rw [if_neg unlocked]; omega)
  rw [State.pulse_locking (by rwa [passes]), passes, State.lockingPulse_eq (s := s.elapse k) other]
  exact if_neg (by show ¬ 500 ≤ s.clk.phase + k; omega)

/-! ## The pulse in LOCKED (R22) -/

/-- The pulse comes again in the window of an earlier one (R22; log 5). -/
def Clock.again (c : Clock) (instant : Nat) : Prop :=
  c.tail = false ∧ instant < 1000 ∧ ∃ w, c.seen = some w ∧ instant ≤ w

/-- What the clock shows at an instant of its second. -/
theorem Clock.windowOpen_iff {c : Clock} {k : Nat} (early : c.phase + k < 1000) :
    Clock.windowOpen { c with phase := c.phase + k } = true ↔ c.again (c.phase + k) := by
  cases seen : c.seen <;> simp [Clock.windowOpen, Clock.again, seen, early]

theorem State.pulse_locked_quiet {s : State} {k : Nat} (locked : s.clk.state = .locked)
    (quiet : if s.clk.tail = true then s.clk.phase + k ≤ 50 else s.clk.phase + k < 1000) :
    s.pulse k = (s.elapse k).lockedPulse := by
  have passes : s.pass k = s.elapse k := State.pass_quiet (by simpa [locked] using quiet)
  rw [State.pulse_locked (by rwa [passes]), passes]

/-- A pulse outside any window is a stray (R22). -/
theorem State.pulse_stray {s : State} {k : Nat} (locked : s.clk.state = .locked) (closed : s.clk.tail = false)
    (alone : ¬ s.clk.again (s.clk.phase + k)) (early : s.clk.phase + k < 950) :
    s.pulse k = { s.elapse k with clk := { (s.elapse k).clk with stray := oneMore s.clk.stray } } := by
  have shut : (s.elapse k).clk.windowOpen = false :=
    Bool.eq_false_iff.mpr fun isOpen => alone ((Clock.windowOpen_iff (by omega)).mp isOpen)
  have off : (s.elapse k).clk.onTime = false := by
    simp only [Clock.onTime, shut]
    simp [State.elapse, closed, early]
  rw [State.pulse_locked_quiet locked (by rw [closed]; simp; omega), State.lockedPulse, off]
  rfl

/-- The pulse is on time at an instant (R22): again in an earlier pulse's window, ahead of the nominal instant, or after it. -/
def Clock.punctual (c : Clock) (instant : Nat) : Prop :=
  c.again instant ∨ (¬ c.again instant ∧ c.tail = false) ∧ 950 ≤ instant ∧ instant < 1000 ∨ c.tail = true ∧ instant ≤ 50

theorem Clock.punctual_cases {c : Clock} {instant : Nat} (h : c.punctual instant) :
    c.again instant ∧ c.tail = false ∧ instant < 1000 ∨ ¬ c.again instant ∧ c.tail = false ∧ 950 ≤ instant ∧ instant < 1000 ∨
      ¬ c.again instant ∧ c.tail = true ∧ instant ≤ 50 := by
  rcases h with again | ⟨⟨alone, closed⟩, near⟩ | ⟨isOpen, near⟩
  · exact .inl ⟨again, again.1, again.2.1⟩
  · exact .inr (.inl ⟨alone, closed, near⟩)
  · exact .inr (.inr ⟨fun again => by simp [again.1] at isOpen, isOpen, near⟩)

/-- The clock that begins the second an on-time pulse is about, where it has not begun (R22). -/
def Clock.atPulse (c : Clock) (begun : Bool) : Clock := if begun then c else secondBegun c

/-- A pulse on time: the second has begun unless the pulse is ahead of it, and the set pending is applied (R22, R24). -/
theorem State.pulse_punctual {s : State} {k : Nat} (locked : s.clk.state = .locked)
    (onTime : s.clk.punctual (s.clk.phase + k)) :
    ∃ begun, (begun = true ↔ ¬ (¬ s.clk.again (s.clk.phase + k) ∧ s.clk.tail = false)) ∧
      (s.elapse k).clk.begun = begun ∧
      (s.clk.pend = none → s.pulse k =
        if begun then { s.elapse k with clk := s.clk.struck (some (s.elapse k).clk.windowLeft) }
        else State.handSecond { s.elapse k with clk := (secondBegun s.clk).struck (some (s.elapse k).clk.windowLeft) }) ∧
      ∀ v, s.clk.pend = some v → s.pulse k = State.handSecond { s.elapse k with
        clk := (timeTaken v (s.clk.atPulse begun)).struck (some (s.elapse k).clk.windowLeft) } := by
  have opens (early : s.clk.phase + k < 1000) := Clock.windowOpen_iff (c := s.clk) (k := k) early
  have tail : (s.elapse k).clk.tail = s.clk.tail := rfl
  have facts : (s.elapse k).clk.onTime = true ∧
      ((s.elapse k).clk.begun = true ↔ ¬ (¬ s.clk.again (s.clk.phase + k) ∧ s.clk.tail = false)) ∧
      (if s.clk.tail = true then s.clk.phase + k ≤ 50 else s.clk.phase + k < 1000) := by
    rcases Clock.punctual_cases onTime with ⟨again, closed, early⟩ | ⟨alone, closed, near, early⟩ | ⟨alone, isOpen, near⟩
    · have shows : (s.elapse k).clk.windowOpen = true := (opens early).mpr again
      simp [Clock.onTime, Clock.begun, shows, again, closed, early]
    · have shows : (s.elapse k).clk.windowOpen = false := Bool.eq_false_iff.mpr fun h => alone ((opens early).mp h)
      have late : 950 ≤ (s.elapse k).clk.phase := near
      simp [Clock.onTime, Clock.begun, shows, tail, late, alone, closed, early]
    · have late : (s.elapse k).clk.phase ≤ 50 := near
      simp [Clock.onTime, Clock.begun, tail, late, alone, isOpen, near]
  obtain ⟨strikes, begun, quiet⟩ := facts
  have runs : s.pulse k = (s.elapse k).onTimePulse := by
    rw [State.pulse_locked_quiet locked quiet, State.lockedPulse, if_pos strikes]
  refine ⟨_, begun, rfl, fun none => ?_, fun v pend => ?_⟩
  · rw [runs, State.onTimePulse_confirms (s := s.elapse k) locked none]
    rfl
  · rw [runs, State.onTimePulse_applies (s := s.elapse k) locked pend]
    cases (s.elapse k).clk.begun <;> rfl

/-! ## The pulse after a window left open (R22; log 5) -/

/-- The window closes, and the pulse is a stray of the next one. -/
theorem State.pulse_late_stray {s : State} {k : Nat} (locked : s.clk.state = .locked) (isOpen : s.clk.tail = true)
    (unseen : s.clk.seen = none) (base : s.clk.phase ≤ 50) (late : 50 < s.clk.phase + k) (early : s.clk.phase + k < 950)
    (few : s.clk.missing < 2) : s.pulse k = { s.elapse k with
      clk := { s.clk with
        phase := s.clk.phase + k, tail := false, missing := s.clk.missing + 1, stray := oneMore s.clk.stray } } := by
  have closes := State.windowCloses_counted locked isOpen base few
  have rest : 50 + (k - (50 - s.clk.phase)) = s.clk.phase + k := by omega
  have span : 50 - s.clk.phase + (k - (50 - s.clk.phase)) = k := by omega
  have passes : s.pass k = { s.elapse k with
      clk := { s.clk with phase := s.clk.phase + k, tail := false, missing := s.clk.missing + 1 } } := by
    rw [State.pass_closing locked isOpen late (by rw [closes]; exact ⟨by simp, by dsimp only; omega⟩), closes,
      State.elapse_elapse, span]
    dsimp only
    rw [rest]
  have off : (s.pass k).clk.onTime = false := by
    simp [passes, Clock.onTime, Clock.windowOpen, unseen, early]
  rw [State.pulse_locked (by rw [passes]; exact locked), State.lockedPulse, off, passes]
  rfl

/-- The third missing pulse with a set pending, at the close of its window. -/
theorem State.windowCloses_set {s : State} {v : TimeSet} (locked : s.clk.state = .locked) (isOpen : s.clk.tail = true)
    (third : s.clk.missing = 2) (pend : s.clk.pend = some v) :
    s.windowCloses.clk = s.clk.afterSet v := by
  have clk : s.windowCloses.clk = Clock.afterSet v { (s.elapse (50 - s.clk.phase)).clk with
      state := .holdover, tail := false, missing := 3 } := by
    rw [State.windowCloses_open locked isOpen,
      State.missedPulse_set (s := s.elapse (50 - s.clk.phase)) locked third pend, State.applySet_clk]
    rfl
  exact clk

/-- The close of the window applied a pending set, and the pulse locks the clock again (R21, R24). -/
theorem State.pulse_late_set {s : State} {k : Nat} {v : TimeSet} (locked : s.clk.state = .locked)
    (isOpen : s.clk.tail = true) (base : s.clk.phase ≤ 50) (late : 50 < s.clk.phase + k) (early : s.clk.phase + k < 1050)
    (third : s.clk.missing = 2) (pend : s.clk.pend = some v) :
    (s.pulse k).clk =
      (if 550 ≤ s.clk.phase + k then secondBegun (s.clk.afterSet v) else s.clk.afterSet v).struck none := by
  have closes := State.windowCloses_set locked isOpen third pend
  have quiet : ¬ (s.windowCloses.clk.state = .locked ∧ s.windowCloses.clk.tail = true) ∧
      s.windowCloses.clk.phase + (k - (50 - s.clk.phase)) < 1000 := by
    rw [closes]
    exact ⟨by simp [Clock.afterSet], by simp only [Clock.afterSet]; omega⟩
  have free : (s.pass k).clk.state = .free := by
    rw [State.pass_closing locked isOpen late quiet]
    exact congrArg Clock.state closes
  have clk : (s.pass k).clk = { s.clk.afterSet v with phase := k - (50 - s.clk.phase) } := by
    rw [State.pass_closing locked isOpen late quiet, State.elapse, closes]
    simp [Clock.afterSet]
  rw [State.pulse_locking (.inl free), State.lockingPulse_eq (.inl free), clk]
  have half : 500 ≤ k - (50 - s.clk.phase) ↔ 550 ≤ s.clk.phase + k := by omega
  simp only [half]
  split
  · rw [State.handSecond_clk]; rfl
  · rfl

end Sys2Proof.Machine

namespace Sys2Proof.Proofs
open Sys2Proof Sys2Proof.Machine Sys2Proof.Claims

theorem exec_secondPulse {s t : State} {k : Nat} (h : s.pulse k = t) : exec (.secondPulse k) s = .next t := h ▸ rfl

theorem exec_oscillatorSecond {s t : State} (h : s.oscillatorSecond = t) : exec .oscillatorSecond s = .next t := h ▸ rfl

theorem exec_pulseWindowClose {s t : State} (h : s.windowCloses = t) : exec .pulseWindowClose s = .next t := h ▸ rfl

/-- R19, R20, R25: the oscillator's second. -/
theorem oscillatorSecond_advances (s : State) (closed : s.clk.state = .locked → s.clk.tail = false) :
    ∃ t, exec .oscillatorSecond s = .next t ∧
      t.clk.elapsed = (s.clk.elapsed + 1) % 4294967296 ∧
      timeOf t.clk = (if s.clk.state = .unset then timeOf s.clk else nextTime s.clk) ∧
      t.clk.state = s.clk.state ∧ t.clk.missing = s.clk.missing ∧ t.clk.stray = s.clk.stray ∧ t.clk.pend = s.clk.pend ∧
      (s.clk.state = .unset → t.sch = s.sch ∧ t.csq = s.csq ∧ t.txs = s.txs ∧ t.amx = s.amx ∧ t.swb = s.swb ∧
        t.rfp = s.rfp ∧ t.lnk = s.lnk) ∧
      t.hds = s.hds ∧ t.snaps = s.snaps ∧ t.pins = s.pins := by
  have beside := s.oscillatorTick_besideClk
  have rest := And.intro (State.hds_of_besideClk beside)
    (And.intro (State.snaps_of_besideClk beside) (State.pins_of_besideClk beside))
  refine ⟨s.oscillatorTick, exec_oscillatorSecond (State.oscillatorSecond_closed closed), ?_⟩
  rw [State.oscillatorTick_clk]
  by_cases unset : s.clk.state = .unset
  · rw [Clock.ticked_unset unset, State.oscillatorTick_unset unset, if_pos unset]
    exact ⟨rfl, rfl, rfl, rfl, rfl, rfl, fun _ => ⟨rfl, rfl, rfl, rfl, rfl, rfl, rfl⟩, rfl, rfl, rfl⟩
  · rw [Clock.ticked_set unset, if_neg unset]
    exact ⟨rfl, rfl, rfl, rfl, rfl, rfl, fun h => absurd h unset, rest⟩

/-- R21, R25: the pulse that locks the clock. -/
theorem secondPulse_locks {s : State} {k : Nat} (other : s.clk.state = .free ∨ s.clk.state = .holdover)
    (within : s.clk.phase + k < 1000) :
    ∃ t, exec (.secondPulse k) s = .next t ∧ t.clk.state = .locked ∧ t.clk.missing = 0 ∧
      timeOf t.clk = (if 500 ≤ s.clk.phase + k then nextTime s.clk else timeOf s.clk) ∧
      t.clk.elapsed = (if 500 ≤ s.clk.phase + k then (s.clk.elapsed + 1) % 4294967296 else s.clk.elapsed) ∧
      t.clk.stray = s.clk.stray ∧ t.hds = s.hds ∧ t.snaps = s.snaps ∧ t.pins = s.pins := by
  by_cases late : 500 ≤ s.clk.phase + k
  · let u := State.post (.clockState s.clk.state .locked .pulse) { s.elapse k with clk := (secondBegun s.clk).struck none }
    have beside : u.handSecond.besideClk = s.besideClk := u.handSecond_besideClk
    refine ⟨u.handSecond, exec_secondPulse (State.pulse_locking_late other late within), ?_⟩
    rw [State.handSecond_clk, if_pos late, if_pos late]
    exact ⟨rfl, rfl, rfl, rfl, rfl, State.hds_of_besideClk beside, State.snaps_of_besideClk beside,
      State.pins_of_besideClk beside⟩
  · refine ⟨_, exec_secondPulse (State.pulse_locking_early other (by omega)), ?_⟩
    rw [if_neg late, if_neg late]
    exact ⟨rfl, rfl, rfl, rfl, rfl, rfl, rfl, rfl⟩

/-- R22, R24, R25: the pulse that is on time. -/
theorem secondPulse_onTime {s : State} {k : Nat} (locked : s.clk.state = .locked)
    (onTime : s.clk.punctual (s.clk.phase + k)) :
    let ahead : Prop := ¬ s.clk.again (s.clk.phase + k) ∧ s.clk.tail = false
    ∃ t, exec (.secondPulse k) s = .next t ∧ t.clk.state = .locked ∧ t.clk.missing = 0 ∧ t.clk.pend = none ∧
      (∀ v, s.clk.pend = some v → timeOf t.clk = (v.day, v.sec, v.offset)) ∧
      (s.clk.pend = none → (ahead → timeOf t.clk = nextTime s.clk) ∧ (¬ ahead → timeOf t.clk = timeOf s.clk)) ∧
      (ahead → t.clk.elapsed = (s.clk.elapsed + 1) % 4294967296) ∧ (¬ ahead → t.clk.elapsed = s.clk.elapsed) ∧
      t.clk.stray = s.clk.stray ∧ t.hds = s.hds ∧ t.snaps = s.snaps ∧ t.pins = s.pins := by
  obtain ⟨begun, iff, -, confirms, applies⟩ := State.pulse_punctual locked onTime
  dsimp only
  rw [← not_iff_not, not_not] at iff
  rw [← iff]
  have beside (c : Clock) : State.besideClk (State.handSecond { s.elapse k with clk := c }) = s.besideClk :=
    State.handSecond_besideClk _
  cases pend : s.clk.pend with
  | none =>
    refine ⟨_, exec_secondPulse (confirms pend), ?_⟩
    cases begun with
    | true =>
      simp only [if_true]
      exact ⟨rfl, rfl, pend, fun v h => (by cases h), fun _ => ⟨fun h => absurd trivial h, fun _ => rfl⟩,
        fun h => absurd trivial h, fun _ => rfl, rfl, rfl, rfl, rfl⟩
    | false =>
      simp only [Bool.false_eq_true, if_false, State.handSecond_clk]
      exact ⟨rfl, rfl, pend, fun v h => (by cases h), fun _ => ⟨fun _ => rfl, fun h => absurd not_false h⟩,
        fun _ => rfl, fun h => absurd not_false h, rfl, State.hds_of_besideClk (beside _),
        State.snaps_of_besideClk (beside _), State.pins_of_besideClk (beside _)⟩
  | some v =>
    refine ⟨_, exec_secondPulse (applies v pend), ?_⟩
    rw [State.handSecond_clk]
    refine ⟨rfl, rfl, rfl, fun u h => by cases h; rfl, fun h => (by cases h), ?_, ?_, ?_,
      State.hds_of_besideClk (beside _), State.snaps_of_besideClk (beside _), State.pins_of_besideClk (beside _)⟩ <;>
      cases begun <;> simp [Clock.struck, timeTaken, Clock.atPulse, secondBegun]

/-- R22, R24: the close of the window. -/
theorem pulseWindow_closes (s : State) :
    (s.clk.state ≠ .locked → exec .pulseWindowClose s = .next s) ∧
    (s.clk.state = .locked → s.clk.tail = true → s.clk.phase ≤ 50 →
      (s.clk.missing < 2 → exec .pulseWindowClose s = .next
        { s.elapse (50 - s.clk.phase) with
          clk := { s.clk with phase := 50, tail := false, missing := s.clk.missing + 1 } }) ∧
      (s.clk.missing = 2 → s.clk.pend = none →
        ∃ t, exec .pulseWindowClose s = .next t ∧ t.clk.state = .holdover ∧ t.clk.missing = 3 ∧
          timeOf t.clk = timeOf s.clk ∧ t.txs = s.txs ∧ t.sch = s.sch ∧ t.hds = s.hds) ∧
      (∀ v, s.clk.missing = 2 → s.clk.pend = some v →
        ∃ t, exec .pulseWindowClose s = .next t ∧ t.clk.state = .free ∧ t.clk.missing = 0 ∧ t.clk.pend = none ∧
          timeOf t.clk = (v.day, v.sec, v.offset) ∧ t.hds = s.hds ∧ t.snaps = s.snaps)) := by
  refine ⟨fun other => exec_pulseWindowClose (State.windowCloses_unlocked other), fun locked isOpen base =>
    ⟨fun few => exec_pulseWindowClose (State.windowCloses_counted locked isOpen base few), fun third none => ?_, fun v third pend => ?_⟩⟩
  · refine ⟨_, exec_pulseWindowClose (State.windowCloses_open locked isOpen), ?_⟩
    rw [State.missedPulse_third (s := s.elapse (50 - s.clk.phase)) locked third none]
    exact ⟨rfl, rfl, rfl, rfl, rfl, rfl⟩
  · refine ⟨s.windowCloses, rfl, ?_⟩
    rw [State.windowCloses_set locked isOpen third pend]
    exact ⟨rfl, rfl, rfl, rfl, State.hds_of_besideClk s.windowCloses_besideClk,
      State.snaps_of_besideClk s.windowCloses_besideClk⟩

/-- Settles O14, by the oscillator's second, the pulse by clock state and instant, and the close of the window. -/
theorem secondsFollowOscillatorAndPulse : Obligations.SecondsFollowOscillatorAndPulse := by
  refine ⟨oscillatorSecond_advances, fun s k closed within => ⟨fun unset => ?_, fun other => secondPulse_locks other within⟩,
    fun s k locked => ⟨fun ahead early => ?_, fun onTime => secondPulse_onTime locked onTime, fun isOpen unseen base =>
      ⟨fun late early few => ?_, fun v late early third pend => ?_⟩⟩, pulseWindow_closes⟩
  · have passes : s.pass k = s.elapse k := State.pass_quiet (by simp [unset, within])
    exact exec_secondPulse ((State.pulse_unset (by rw [passes]; exact unset)).trans passes)
  · exact exec_secondPulse (State.pulse_stray locked ahead.2 ahead.1 early)
  · exact exec_secondPulse (State.pulse_late_stray locked isOpen unseen base late early few)
  · have clk := State.pulse_late_set locked isOpen base late early third pend
    refine ⟨s.pulse k, rfl, by rw [clk]; rfl, by rw [clk]; rfl, ?_, ?_, ?_, ?_⟩
    · rw [clk]; split <;> rfl
    · rw [clk]; split <;> rfl
    · rw [clk]; split <;> rfl
    · exact congrArg Prod.snd (s.pulse_queueAndHds k)

end Sys2Proof.Proofs
end

section
/-! PROOFS. SET-TIME and READ-TIME (R23, R26). -/

namespace Sys2Proof.Machine
open Sys2Proof Sys2Proof.Claims

/-! ## SET-TIME by its operands and the clock state (R23) -/

theorem State.reqSetTime_refused {s : State} {day sec k : Nat} {offset : Option Nat} (bad : timeFault day sec offset = some k) :
    s.reqSetTime day sec offset = s.refused .range k := by simp only [State.reqSetTime, bad]

/-- In LOCKED a set is held as the pending set, replacing any other. -/
theorem State.reqSetTime_held {s : State} {day sec : Nat} {offset : Option Nat} (fits : timeFault day sec offset = none)
    (locked : s.clk.state = .locked) : s.reqSetTime day sec offset =
      State.ok (.timeSet false s.clk.day s.clk.sec .locked)
        { s with clk := { s.clk with pend := some ⟨day, sec, offset.getD s.clk.offset⟩ } } := by
  simp only [State.reqSetTime, fits, State.takeTime, locked, if_true, State.updClk, decide_true, Bool.not_true]

/-- Outside LOCKED a set is applied at once. -/
theorem State.reqSetTime_applied {s : State} {day sec : Nat} {offset : Option Nat} (fits : timeFault day sec offset = none)
    (unlocked : s.clk.state ≠ .locked) : s.reqSetTime day sec offset =
      (s.applySet ⟨day, sec, offset.getD s.clk.offset⟩).ok (.timeSet true day sec .free) := by
  simp only [State.reqSetTime, fits, State.takeTime, unlocked, if_false, decide_false, Bool.not_false, State.applySet_clk]
  rfl

/-! ## READ-TIME (R26) -/

theorem State.reqReadTime_unset {s : State} (legal : clockLegal s.clk) (unset : s.clk.state = .unset) :
    s.reqReadTime = s.ok (.time 0 0 0 0 .unset s.clk.missing s.clk.stray s.clk.elapsed s.clk.pend) := by
  obtain ⟨-, -, -, -, -, -, zero, -⟩ := legal
  obtain ⟨day, sec, offset⟩ := zero unset
  simp only [State.reqReadTime, day, sec, offset, unset, if_true]

end Sys2Proof.Machine

namespace Sys2Proof.Proofs
open Sys2Proof Sys2Proof.Machine Sys2Proof.Claims

/-- SET-TIME on a free A-port is answered what its meaning answers. -/
theorem exec_setTime {s : State} (free : portFree .a s) {tag : Byte} {day sec : Nat} {offset : Option Nat} {t : State}
    {res : Result} (h : s.reqSetTime day sec offset = ⟨t, res⟩) :
    exec (.setTime .a tag day sec offset) s = .next (replied .a tag 0x08 res t) :=
  exec_request (.setTime day sec offset) rfl free (s.permitted_a _) h

/-- Settles O15: SET-TIME by its three answers, and READ-TIME, which answers the clock. -/
theorem timeIsSetAndRead : Obligations.TimeIsSetAndRead := by
  refine ⟨fun s tag day sec offset free => ⟨fun above => ?_, fun below above => ?_, fun o d t given above => ?_,
    fun d t o => ?_⟩, fun s port tag free => ⟨exec_read .readTime rfl free rfl rfl, fun legal unset => ?_⟩⟩
  · exact exec_setTime free (State.reqSetTime_refused (timeFault_day above))
  · exact exec_setTime free (State.reqSetTime_refused (timeFault_sec below above))
  · subst given
    exact exec_setTime free (State.reqSetTime_refused (timeFault_offset d t above))
  · have fits : timeFault day sec offset = none := timeFault_none_iff.mpr ⟨d, t, o⟩
    refine ⟨fun locked => exec_setTime free (State.reqSetTime_held fits locked), fun unlocked => ?_⟩
    have beside := s.applySet_besideClk ⟨day, sec, offset.getD s.clk.offset⟩
    refine ⟨_, exec_setTime free (State.reqSetTime_applied fits unlocked), ⟨_, rfl, rfl, rfl⟩, ⟨_, rfl, ?_⟩, ?_⟩
    · simp only [State.header, State.applySet_clk]
      exact ⟨rfl, rfl⟩
    · rw [replied_clk, replied_hds, replied_snaps, replied_pins, State.applySet_clk]
      exact ⟨rfl, rfl, rfl, rfl, rfl, rfl, State.hds_of_besideClk beside, State.snaps_of_besideClk beside,
        State.pins_of_besideClk beside⟩
  · exact exec_read .readTime rfl free rfl (State.reqReadTime_unset legal unset)

end Sys2Proof.Proofs
end

section
/-! PROOFS. The abandonment of a plan: its notice stays in the queues, and what plan it leaves (R121, R122, R192). -/

namespace Sys2Proof.Machine
open Sys2Proof Sys2Proof.Claims

/-! ## Notices that wait stay in the queues (R192) -/

/-- A notice waits in the queue of a port. -/
def State.waits (s : State) (port : Port) (nt : Notice) : Prop := ∃ d k, QEntry.notice d k nt ∈ (s.port port).queue

theorem State.waits_of_lnk {s t : State} {port : Port} {nt : Notice} (h : s.waits port nt) (same : t.lnk = s.lnk) :
    t.waits port nt := by
  have ports : t.port port = s.port port := by cases port <;> simp only [State.port, same]
  simpa only [State.waits, ports] using h

theorem State.post_queue (s : State) (port : Port) (nt : Notice) :
    ((s.post nt).port port).queue = enqueue s.clk.day s.clk.sec nt (s.port port).queue := by cases port <;> rfl

theorem mem_enqueue {day sec d k : Nat} {nt new : Notice} {q : List QEntry} (h : QEntry.notice d k nt ∈ q) :
    QEntry.notice d k nt ∈ enqueue day sec new q := by
  unfold enqueue
  split_ifs
  · exact List.mem_append_left _ h
  · exact List.mem_append_left _ h
  · exact List.mem_map.mpr ⟨_, h, rfl⟩

/-- A notice that is posted waits where there is room. -/
theorem State.post_waits {s : State} {port : Port} (nt : Notice)
    (room : ((s.port port).queue.filter QEntry.ordinary).length < 63) : (s.post nt).waits port nt := by
  refine ⟨s.clk.day, s.clk.sec, ?_⟩
  rw [State.post_queue, enqueue, if_pos room]
  exact List.mem_append_right _ (List.mem_singleton.mpr rfl)

section NoticesWait
variable {s : State} {port : Port} {nt : Notice} (h : s.waits port nt)
include h

theorem State.post_keeps_waits (new : Notice) : (s.post new).waits port nt := by
  obtain ⟨d, k, mem⟩ := h
  exact ⟨d, k, by rw [State.post_queue]; exact mem_enqueue mem⟩

theorem State.offer_keeps_waits (a : AntId) : (s.offer a).waits port nt := by
  unfold State.offer
  split
  · split
    · split
      · refine State.waits_of_lnk (State.post_keeps_waits ?_ _) (State.updPlan_lnk ..)
        exact State.waits_of_lnk h rfl
      · exact h
    · exact h
  · exact h

theorem State.withdrawClaim_keeps_waits (n : TxId) : (s.withdrawClaim n).waits port nt := by
  have kept (a : AntId) (f : AntRun → AntRun) : (s.updRun a f).waits port nt := State.waits_of_lnk h (State.updRun_lnk ..)
  unfold State.withdrawClaim State.withdrawFrom
  split
  · split
    · dsimp only
      split
      · exact State.offer_keeps_waits (kept _ _) _
      · exact kept _ _
    · exact h
  · exact h

theorem State.dropHeld_keeps_waits (p : Held → Bool) : (s.dropHeld p).waits port nt :=
  State.waits_of_lnk h (State.each_view State.lnk (s.amx.held.filter p) (f := State.retell) (fun _ _ => rfl) _)

theorem State.removePlan_keeps_waits (n : TxId) : (s.removePlan n).waits port nt :=
  State.waits_of_lnk (State.dropHeld_keeps_waits (State.withdrawClaim_keeps_waits h n) _) rfl

theorem State.bookingLeaves_keeps_waits (id : Nat) (c : BookEnd) : (s.bookingLeaves id c).waits port nt := by
  unfold State.bookingLeaves
  split
  · exact State.post_keeps_waits (State.waits_of_lnk h rfl) _
  · exact h

theorem State.targetBookingLeaves_keeps_waits (id : TargetId) (c : BookEnd) :
    (s.targetBookingLeaves id c).waits port nt := by
  unfold State.targetBookingLeaves
  split
  · split
    · exact State.bookingLeaves_keeps_waits h _ _
    · exact h
  · exact h

theorem State.recordLost_keeps_waits (n : TxId) (id : TargetId) (cause : Cause) : (s.recordLost n id cause).waits port nt := by
  have marked (st : OccStatus) : (s.setStatus n id st).waits port nt := State.waits_of_lnk h rfl
  unfold State.recordLost
  split
  · split
    · split
      · exact State.targetBookingLeaves_keeps_waits (State.post_keeps_waits (marked _) _) _ _
      · exact State.targetBookingLeaves_keeps_waits (State.post_keeps_waits (marked _) _) _ _
    · exact h
  · exact h

theorem State.recordLive_keeps_waits (n : TxId) (id : TargetId) : (s.recordLive n id).waits port nt := by
  unfold State.recordLive
  split
  · split
    · exact State.post_keeps_waits (State.waits_of_lnk h rfl) _
    · exact h
  · exact h

theorem State.stopRecycle_keeps_waits (n : TxId) : (s.stopRecycle n).waits port nt := by
  have left (t : State) : (t.leaveTripped n).lnk = t.lnk := by unfold State.leaveTripped; dsimp only; split <;> rfl
  refine State.waits_of_lnk h ?_
  unfold State.stopRecycle State.endTrip
  split
  · rw [left]; rfl
  · rfl

theorem State.planDone_keeps_waits (n : TxId) (p : Plan) : (s.planDone n p).waits port nt := by
  have owned (q : Setpoint) : (s.ownAs n q).waits port nt :=
    State.waits_of_lnk h (by unfold State.ownAs; split <;> rfl)
  unfold State.planDone
  dsimp only
  split <;> split <;> refine State.removePlan_keeps_waits ?_ n
  · exact State.recordLive_keeps_waits (owned _) n _
  · exact State.recordLive_keeps_waits h n _
  · exact owned _
  · exact h

theorem State.settlePlan_keeps_waits (n : TxId) : (s.settlePlan n).waits port nt := by
  unfold State.settlePlan
  split
  · split_ifs
    · exact h
    · exact State.planDone_keeps_waits h n _
    · exact State.post_keeps_waits (State.waits_of_lnk h rfl) _
    · exact h
  · exact h

theorem State.windDown_keeps_waits (n : TxId) (cause : Cause) (k : Nat) (hp : HoldPoint) :
    (s.windDown n cause k hp).waits port nt := State.settlePlan_keeps_waits (State.waits_of_lnk h (State.setPlan_lnk ..)) n

end NoticesWait

/-! ## What an abandonment leaves (R121, R122) -/

/-- PLAN-ABANDONED is told on every port that has room. -/
theorem State.abandon_told {s : State} {n : TxId} {p : Plan} (planned : s.plan n = some p) (cause : Cause) :
    told s (.planAbandoned n p.concerned cause p.phase (s.windable n)) (s.abandon n cause) := by
  intro port room
  have posted := State.post_waits (.planAbandoned n p.concerned cause p.phase (s.windable n)) room
  have dropped (q : Plan) := State.dropHeld_keeps_waits (State.withdrawClaim_keeps_waits
    (State.waits_of_lnk posted (State.setPlan_lnk n (some q) _)) n) fun h => decide (h.asker = .plan n)
  have lost (q : Plan) := State.recordLost_keeps_waits (dropped q) n
  unfold State.abandon
  rw [planned]
  dsimp only
  split <;> split
  · exact State.windDown_keeps_waits (State.stopRecycle_keeps_waits (lost _ _ _) n) ..
  · exact State.windDown_keeps_waits (State.stopRecycle_keeps_waits (dropped _) n) ..
  · exact State.removePlan_keeps_waits (State.stopRecycle_keeps_waits (lost _ _ _) n) n
  · exact State.removePlan_keeps_waits (State.stopRecycle_keeps_waits (dropped _) n) n

theorem State.recompute_windDown (s : State) (n : TxId) (p : Plan) : (s.recompute n p).windDown = p.windDown := by
  unfold State.recompute; dsimp only; split <;> rfl

theorem State.recompute_cause (s : State) (n : TxId) (p : Plan) : (s.recompute n p).cause = p.cause := by
  unfold State.recompute; dsimp only; split <;> rfl

theorem State.planDone_plan (n : TxId) (p : Plan) (s : State) : (s.planDone n p).plan n = none := by
  unfold State.planDone
  dsimp only
  split <;> split <;> exact State.removePlan_plan n _

/-- A plan that settling leaves is the plan that was, its hold reached or not. -/
theorem State.settlePlan_plan {s : State} {n : TxId} {p v : Plan} (planned : s.plan n = some p)
    (left : (s.settlePlan n).plan n = some v) : v = p ∨ v = { p with atHold := true } := by
  unfold State.settlePlan at left
  rw [planned] at left
  dsimp only at left
  split_ifs at left
  · exact .inl (Option.some.inj (left.symm.trans planned))
  · rw [State.planDone_plan] at left; cases left
  · exact .inr (Option.some.inj (left.symm.trans (State.setPlan_plan n _ s)))
  · exact .inl (Option.some.inj (left.symm.trans planned))

/-- The plan a wind-down stands as: one that winds down with its cause (R122). -/
theorem State.windDown_plan {s : State} {n : TxId} {cause : Cause} {k : Nat} {hp : HoldPoint} {v : Plan}
    (left : (s.windDown n cause k hp).plan n = some v) : v.windDown = true ∧ v.cause = some cause := by
  have down (p : Plan) : p.windDown = true ∧ p.cause = some cause →
      (s.recompute n p).windDown = true ∧ (s.recompute n p).cause = some cause := by
    rw [State.recompute_windDown, State.recompute_cause]; exact id
  rcases State.settlePlan_plan (State.setPlan_plan n _ s) left with rfl | rfl
  · exact down _ ⟨rfl, rfl⟩
  · exact down _ ⟨rfl, rfl⟩

/-- A plan that an abandonment leaves is a wind-down with its cause. -/
theorem State.abandon_plan {s : State} {n : TxId} {cause : Cause} {p v : Plan} (planned : s.plan n = some p)
    (left : (s.abandon n cause).plan n = some v) : v.windDown = true ∧ v.cause = some cause := by
  unfold State.abandon at left
  rw [planned] at left
  dsimp only at left
  split at left
  · exact State.windDown_plan left
  · rw [State.removePlan_plan] at left; cases left

end Sys2Proof.Machine
end

section
/-! PROOFS. The work on a handed second: what hands one, in what order it is worked, and the claims in RETRY (R25, R55, R57, R62,
R114, R129). -/

namespace Sys2Proof.Machine
open Sys2Proof Sys2Proof.Claims

/-- The work SCH does on a handed second, in its order. -/
theorem State.worked_eq (u : State) : worked u = u.handSecond := by
  have again : (fun (x : State) (n : TxId) => if (x.plan n).map (·.claim) = some .retry then x.submitClaim n else x) =
      fun x n => match x.plan n with
        | some p => if p.claim = .retry then x.submitClaim n else x
        | none => x := by
    funext x n
    cases x.plan n <;> simp
  unfold worked
  dsimp only
  rw [again]
  rfl

/-! ## Claims (R114, R129) -/

/-- A plan that has submitted a claim submits it again as it stands, with the claim second it has, and takes AMX's answer. -/
theorem State.submitClaim_again {s : State} {n : TxId} {p : Plan} {q : Setpoint} {a : AntId} {k : Nat}
    (planned : s.plan n = some p) (setp : p.setp = some q) (path : q.path = some a) (ant : p.claimAnt = some a)
    (since : p.claimSec = some k) (runs : p.phases.claim = .running) :
    let r := s.claim a ⟨n, q.priority, q.kind, q.wait, k⟩
    (r.2 = .granted → s.submitClaim n = r.1.updPlan n Plan.granted) ∧
    (r.2 = .reserved → s.submitClaim n = r.1.updPlan n fun x => { x with claim := .reserved }) ∧
    (r.2 = .busy → s.submitClaim n = r.1.updPlan n fun x => { x with claim := .retry }) ∧
    (r.2 = .unusable → s.submitClaim n = r.1.causeReaches n .service) := by
  have same : s.setPlan n (some { p with
      claimSec := some k, claimAnt := some a, phases := { p.phases with claim := .running } }) = s := by
    rw [← since, ← ant, ← runs, ← planned]
    simp [State.setPlan, State.plan]
  have target : targetPath p.setp = some a := by rw [setp]; exact path
  unfold State.submitClaim
  rw [planned]
  dsimp only
  split
  next u b given aimed =>
    obtain rfl : q = u := Option.some.inj (setp.symm.trans given)
    obtain rfl : a = b := Option.some.inj (target.symm.trans aimed)
    rw [if_pos ant, since, Option.getD_some, same]
    exact ⟨fun answer => by rw [answer], fun answer => by rw [answer], fun answer => by rw [answer],
      fun answer => by rw [answer]⟩
  next missing => exact absurd target (missing q a setp)

theorem State.claim_unusable {s : State} {a : AntId} {c : Claim} (h : (s.claim a c).2 = .unusable) : (s.claim a c).1 = s := by
  have entered (t : State) : (t.entered a c).2 ≠ .unusable := by unfold State.entered; split <;> simp
  have judged (t : State) : (t.judgeClaim a c).2 ≠ .unusable := by
    unfold State.judgeClaim
    extract_lets unowned emptyQueue obstacle
    split
    · simp
    · split
      · split <;> simp
      · split
        · exact entered t
        · simp
  unfold State.claim at h ⊢
  split_ifs at h ⊢
  · rfl
  · exact absurd h (judged _)

end Sys2Proof.Machine

namespace Sys2Proof.Proofs
open Sys2Proof Sys2Proof.Machine Sys2Proof.Claims

/-- R19, R25: the oscillator's second outside UNSET. -/
theorem oscillatorSecond_isWorked (s : State) (set : s.clk.state ≠ .unset)
    (closed : s.clk.state = .locked → s.clk.tail = false) :
    exec .oscillatorSecond s = .next (worked { s.elapse (1000 - s.clk.phase) with
      clk := { secondBegun s.clk with
        phase := s.clk.phase - 1000, tail := decide (s.clk.state = .locked), seen := none } }) := by
  refine exec_oscillatorSecond ?_
  rw [State.oscillatorSecond_closed closed, State.oscillatorTick_set set, Clock.ticked_set set, State.worked_eq]

/-- R22, R24, R25: a pulse on time before the nominal instant, the first of its window. -/
theorem secondPulse_ahead_isWorked {s : State} {k : Nat} (locked : s.clk.state = .locked) (closed : s.clk.tail = false)
    (alone : ∀ w, s.clk.seen = some w → w < s.clk.phase + k) (near : 950 ≤ s.clk.phase + k) (early : s.clk.phase + k < 1000) :
    (s.clk.pend = none → exec (.secondPulse k) s = .next (worked
      { s.elapse k with clk := (secondBegun s.clk).struck (some (1050 - (s.clk.phase + k))) })) ∧
    ∀ v, s.clk.pend = some v → exec (.secondPulse k) s = .next (worked
      { s.elapse k with clk := (timeTaken v (secondBegun s.clk)).struck (some (1050 - (s.clk.phase + k))) }) := by
  have unbegun : ¬ s.clk.again (s.clk.phase + k) := by
    rintro ⟨-, -, w, seen, before⟩
    exact absurd (alone w seen) (by omega)
  obtain ⟨begun, iff, shows, confirms, applies⟩ := State.pulse_punctual locked (.inr (.inl ⟨⟨unbegun, closed⟩, near, early⟩))
  obtain rfl : begun = false := by simpa [unbegun, closed] using iff
  have left : (s.elapse k).clk.windowLeft = 1050 - (s.clk.phase + k) := by
    have shut : (s.elapse k).clk.windowOpen = false :=
      Bool.eq_false_iff.mpr fun isOpen => unbegun ((Clock.windowOpen_iff early).mp isOpen)
    rw [Clock.windowLeft, shut]
    simp [State.elapse, closed]
  rw [left] at confirms applies
  simp only [State.worked_eq]
  exact ⟨fun none => exec_secondPulse (confirms none), fun v pend => exec_secondPulse (applies v pend)⟩

/-- R22, R24, R25: a pulse on time in a window left open by the oscillator's second. -/
theorem secondPulse_after_isWorked {s : State} {k : Nat} (locked : s.clk.state = .locked) (isOpen : s.clk.tail = true)
    (near : s.clk.phase + k ≤ 50) :
    (s.clk.pend = none →
      exec (.secondPulse k) s = .next { s.elapse k with clk := s.clk.struck (some (50 - (s.clk.phase + k))) }) ∧
    ∀ v, s.clk.pend = some v → exec (.secondPulse k) s = .next (worked
      { s.elapse k with clk := (timeTaken v s.clk).struck (some (50 - (s.clk.phase + k))) }) := by
  obtain ⟨begun, iff, -, confirms, applies⟩ := State.pulse_punctual locked (.inr (.inr ⟨isOpen, near⟩))
  obtain rfl : begun = true := by simpa [isOpen] using iff
  have left : (s.elapse k).clk.windowLeft = 50 - (s.clk.phase + k) := by
    simp [Clock.windowLeft, Clock.windowOpen, State.elapse, isOpen]
  rw [left] at confirms applies
  simp only [State.worked_eq]
  exact ⟨fun none => exec_secondPulse (confirms none), fun v pend => exec_secondPulse (applies v pend)⟩

/-- R23, R25: SET-TIME outside LOCKED. -/
theorem setTime_isWorked {s : State} (free : portFree .a s) (unlocked : s.clk.state ≠ .locked) {tag : Byte} {day sec : Nat}
    {offset : Option Nat} (fits : timeFault day sec offset = none) :
    let set : State := { s with clk := s.clk.afterSet ⟨day, sec, offset.getD s.clk.offset⟩ }
    exec (.setTime .a tag day sec offset) s = .next (replied .a tag 0x08 (.accepted (.timeSet true day sec .free))
      (worked (if s.clk.state = .free then set else set.post (.clockState s.clk.state .free .set)))) := by
  dsimp only
  rw [State.worked_eq, ← State.applySet_eq]
  exact exec_setTime free (State.reqSetTime_applied fits unlocked)

/-- R114, R128, R129: a claim in RETRY submitted again. -/
theorem claim_isSubmittedAgain {s : State} {n : TxId} {p : Plan} {q : Setpoint} {a : AntId} {k : Nat}
    (planned : s.plan n = some p) (setp : p.setp = some q) (path : q.path = some a) (ant : p.claimAnt = some a)
    (since : p.claimSec = some k) (runs : p.phases.claim = .running) :
    let r := s.claim a ⟨n, q.priority, q.kind, q.wait, k⟩
    let t := s.submitClaim n
    let stands (w : ClaimStanding) : Prop := t = r.1.updPlan n fun x => { x with claim := w }
    (r.2 = .granted →
      t = r.1.updPlan n fun x => { x with claim := .granted, phases := { x.phases with claim := .ended } }) ∧
    (r.2 = .reserved → stands .reserved) ∧ (r.2 = .busy → stands .retry) ∧
    (r.2 = .unusable → p.windDown = false → told s (.planAbandoned n p.concerned .service p.phase (s.windable n)) t ∧
      ∀ v, t.plan n = some v → v.windDown = true ∧ v.cause = some .service) := by
  obtain ⟨granted, reserved, busy, unusable⟩ := State.submitClaim_again planned setp path ant since runs
  refine ⟨granted, reserved, busy, fun answer going => ?_⟩
  have abandons : s.submitClaim n = s.abandon n .service := by
    rw [unusable answer, State.claim_unusable answer, State.causeReaches, planned]
    simp only [going, Bool.false_eq_true, if_false]
  rw [abandons]
  exact ⟨State.abandon_told planned .service, fun v left => State.abandon_plan planned left⟩

/-- Settles O60: each second advance and each applied set is worked once, on the state whose clock holds it; the claims in RETRY by
the answer of AMX. -/
theorem handedSecondsAreWorkedInOrder : Obligations.HandedSecondsAreWorkedInOrder := by
  refine ⟨oscillatorSecond_isWorked, fun s k => ⟨fun other closed late within => ?_,
    fun locked closed alone near early => secondPulse_ahead_isWorked locked closed alone near early,
    fun locked isOpen _ near => secondPulse_after_isWorked locked isOpen near⟩,
    fun s tag day sec offset free unlocked d t o => setTime_isWorked free unlocked (timeFault_none_iff.mpr ⟨d, t, o⟩),
    fun s n p q a k planned setp path _ ant since runs => claim_isSubmittedAgain planned setp path ant since runs⟩
  rw [State.worked_eq]
  exact exec_secondPulse (State.pulse_locking_late other late within)

end Sys2Proof.Proofs
end

section
/-! PROOFS. A millisecond passes on the channels (R28, R31), and the SYNC edge is qualified and handed to SCH (R32, R55, R56). -/

namespace Sys2Proof.Machine
open Sys2Proof Sys2Proof.Claims

/-! ## A span on a channel (R28, R31) -/

/-- Each channel counts by its own gate. -/
theorem State.elapse_chan (k : Nat) (s : State) (ch : ChanId) :
    (s.elapse k).chan ch = (s.chan ch).tick k (s.gateOpen ch) := by
  cases ch with
  | tx n c =>
    have unit : (s.elapse k).chan (.tx n c) = ((s.tim.tx[n]).tick k (s.gateOpen (.tx n .ramp))).get c := by
      simp [State.elapse, State.chan, Timers.get]
    rw [unit]
    cases c <;> rfl
  | travel act => cases act <;> simp [State.elapse, State.chan, Timers.get, State.gateOpen]
  | busAnswer => rfl
  | gap port => cases port <;> rfl
  | sync => rfl

/-! ## The changeover that the edge fires (R55, R56) -/

/-- The sources, bank, arming and generation that a changeover leaves as it ends the old generation's records. -/
theorem State.endGeneration_sch (old : Nat) (n : TxId) (s : State) :
    ({ (s.endGeneration old n).sch with occ := s.sch.occ } : Sch) = s.sch := by
  have done (id : TargetId) (t : State) :
      ({ (t.recordDone n id .changeover).sch with occ := s.sch.occ } : Sch) = { t.sch with occ := s.sch.occ } := by
    unfold State.recordDone
    split
    · dsimp only
      split
      · split <;> rfl
      · rfl
    · rfl
  exact State.each_view (fun t => ({ t.sch with occ := s.sch.occ } : Sch)) _ done s

/-- A SEALED bank is promoted with its entries and the next generation, and the arming is spent (R55). -/
theorem State.promote_sch (src : Trigger) (s : State) :
    ({ (s.promote src).sch with occ := s.sch.occ } : Sch) = { s.sch with
      active := some ⟨s.sch.staged.entries.map fun e => (e, false), s.sch.staged.season, nextGeneration s.sch.lastGen, false, false⟩
      staged := .emptyBank
      arming := .disarmed
      lastGen := nextGeneration s.sch.lastGen } := by
  have ends (old : Nat) (t : State) : ({ (t.eachTx (State.endGeneration old)).sch with occ := s.sch.occ } : Sch) =
      { t.sch with occ := s.sch.occ } :=
    State.eachTx_view (fun t => ({ t.sch with occ := s.sch.occ } : Sch))
      (fun n t => congrArg (fun v : Sch => { v with occ := s.sch.occ }) (t.endGeneration_sch old n)) t
  unfold State.promote
  dsimp only
  split
  · rw [ends]; rfl
  · rfl

theorem nextGeneration_eq (g : Nat) : nextGeneration g = if g < 65535 then g + 1 else 1 := by
  unfold nextGeneration
  split <;> split <;> omega

/-- What a trigger leaves of SCH (R55, R56). -/
theorem State.trigger_sch (src : Trigger) (s : State) :
    (s.trigger src).sch.arming = .disarmed ∧
    (s.sch.staged.state ≠ .sealed →
      (s.trigger src).sch.active = s.sch.active ∧ (s.trigger src).sch.staged = s.sch.staged) ∧
    (s.sch.staged.state = .sealed → (s.trigger src).sch.staged = .emptyBank ∧
      ∃ b, (s.trigger src).sch.active = some b ∧ b.entries = s.sch.staged.entries.map (fun e => (e, false)) ∧
        b.generation = (s.trigger src).sch.lastGen ∧
        b.generation = (if s.sch.lastGen < 65535 then s.sch.lastGen + 1 else 1)) := by
  unfold State.trigger
  by_cases isSealed : s.sch.staged.state = .sealed
  · rw [if_pos isSealed]
    have sch := s.promote_sch src
    have arming := congrArg Sch.arming sch
    have staged := congrArg Sch.staged sch
    have active := congrArg Sch.active sch
    have lastGen := congrArg Sch.lastGen sch
    dsimp only at arming staged active lastGen
    exact ⟨arming, fun other => absurd isSealed other,
      fun _ => ⟨staged, _, active, rfl, lastGen.symm, nextGeneration_eq _⟩⟩
  · rw [if_neg isSealed]
    exact ⟨rfl, fun _ => ⟨rfl, rfl⟩, fun h => absurd h isSealed⟩

/-! ## The qualifier (R32) -/

/-- The qualifier's expiry with the input on hands the edge to SCH. -/
theorem State.syncQualified {s : State} (running : (s.chan .sync).running = true) (on : s.pins.sync = true) :
    s.onExpiry .sync State.syncEdge = ((s.elapse (s.chan .sync).remaining).stopChan .sync).syncEdge :=
  State.onExpiry_running running on (by decide) State.syncEdge

/-- An expiry of a qualifier that is stopped, or frozen with the input off, is none (R28, R30). -/
theorem State.syncUnqualified {s : State} (idle : (s.chan .sync).running = false ∨ s.pins.sync = false) :
    s.onExpiry .sync State.syncEdge = s := by
  rcases idle with stopped | off
  · exact State.onExpiry_stopped stopped _
  · have frozen : s.gateOpen .sync = false := off
    simp [State.onExpiry, State.expire, frozen]

theorem State.syncEdge_besideBanks (s : State) : s.syncEdge.besideBanks = s.besideBanks := by
  unfold State.syncEdge; split <;> simp

end Sys2Proof.Machine

namespace Sys2Proof.Proofs
open Sys2Proof Sys2Proof.Machine Sys2Proof.Claims

/-- R32, R55, R56: the qualified edge. -/
theorem syncQualifierExpiry_fires {s : State} (running : (s.chan .sync).running = true) (on : s.pins.sync = true) :
    ∃ t, exec .syncQualifierExpiry s = .next t ∧ (t.chan .sync).running = false ∧ t.pins = s.pins ∧ t.hds = s.hds ∧
      t.txs = s.txs ∧ t.csq = s.csq ∧ t.amx = s.amx ∧ t.swb = s.swb ∧ t.rfp = s.rfp ∧
      (s.sch.arming ≠ .syncLine → t.sch = s.sch ∧ t.lnk = s.lnk) ∧
      (s.sch.arming = .syncLine → t.sch.arming = .disarmed ∧
        (s.sch.staged.state ≠ .sealed → t.sch.active = s.sch.active ∧ t.sch.staged = s.sch.staged) ∧
        (s.sch.staged.state = .sealed → t.sch.staged = .emptyBank ∧
          ∃ b, t.sch.active = some b ∧ b.entries = s.sch.staged.entries.map (fun e => (e, false)) ∧
            b.generation = t.sch.lastGen ∧ b.generation = (if s.sch.lastGen < 65535 then s.sch.lastGen + 1 else 1))) := by
  let u := (s.elapse (s.chan .sync).remaining).stopChan .sync
  have beside := u.syncEdge_besideBanks
  have stopped : u.syncEdge.chan .sync = .stopped :=
    (congrArg (fun t : State => t.chan .sync) beside).trans (State.stopChan_chan .sync _)
  have run : exec .syncQualifierExpiry s = .next u.syncEdge :=
    congrArg Host.Outcome.next (State.syncQualified running on)
  refine ⟨u.syncEdge, run, by rw [stopped]; rfl, (congrArg State.pins beside :), (congrArg State.hds beside :),
    (congrArg State.txs beside :), (congrArg State.csq beside :), (congrArg State.amx beside :),
    (congrArg State.swb beside :), (congrArg State.rfp beside :), fun other => ?_, fun armed => ?_⟩
  · have passes : u.syncEdge = u := if_neg other
    rw [passes]
    exact ⟨rfl, rfl⟩
  · have fires : u.syncEdge = u.trigger .syncLine := if_pos armed
    rw [fires]
    exact u.trigger_sch .syncLine

/-- Settles O16: a millisecond on each channel by its gate, and the SYNC line by its edges and its qualifier. -/
theorem timersCountAndSyncIsQualified : Obligations.TimersCountAndSyncIsQualified := by
  refine ⟨fun s ch idle => ⟨s.idle, ?_, ?_, rfl, rfl, rfl, rfl, rfl, rfl, rfl, rfl, rfl, rfl⟩,
    fun s => ⟨fun off => ?_, fun on => ?_, rfl, fun idle => congrArg Host.Outcome.next (State.syncUnqualified idle),
      syncQualifierExpiry_fires⟩⟩
  · unfold step
    rw [idle]
  · rw [State.idle, State.elapse_chan]
    simp only [Chan.tick, Bool.and_eq_true]
  · have rises : s.syncRises = State.startChan .sync 10 { s with pins := { s.pins with sync := true } } :=
      if_neg (by simp [off])
    exact congrArg Host.Outcome.next rises
  · have stays : s.syncRises = s := if_pos on
    exact congrArg Host.Outcome.next stays

end Sys2Proof.Proofs
end

section
/-! PROOFS. Snapshots (R33 to R35): what a copy holds, the slots a LATCH fills, and the answers of LATCH and READ-SNAPSHOT. -/

namespace Sys2Proof.Machine
open Sys2Proof Sys2Proof.Claims

/-! ## The contents of a copy (R34) -/

theorem mem_allTxChan (k : TxChan) : k ∈ allTxChan := by cases k <;> decide

theorem State.mem_timerViews {s : State} {n : TxId} {x : TimerView} :
    x ∈ s.timerViews n ↔ ∃ k, (s.chan (.tx n k)).running = true ∧
      x = ⟨k, (s.chan (.tx n k)).remaining, !s.gateOpen (.tx n k)⟩ := by
  simp only [State.timerViews, List.mem_map, List.mem_filter, mem_allTxChan, true_and, eq_comm (b := x)]

theorem Ctx.orderPending_iff (c : Ctx) :
    c.orderPending = true ↔ c.outstanding ≠ none ∨ c.deferred ≠ none ∨ c.unshown ≠ [] := by
  simp only [Ctx.orderPending, Bool.or_eq_true, Option.isSome_iff_ne_none, Bool.not_eq_true', List.isEmpty_eq_false_iff, or_assoc]

theorem State.copies_snapshotOf (s : State) (n : TxId) : copies s n (s.snapshotOf n) :=
  ⟨rfl, (s.ctx n).orderPending_iff, rfl, fun _ => State.mem_timerViews, rfl, Option.isSome_iff_ne_none⟩

theorem Order.shownBy_iff (o : Order) (r : StateReport) : o.shownBy r = true ↔ shows r o := by
  cases o <;> simp [Order.shownBy, shows]

theorem State.mem_noteState_unshown (s : State) (n : TxId) (r : StateReport) (o : Order) :
    o ∈ ((s.noteState n r).ctx n).unshown ↔ o ∈ (s.ctx n).unshown ∧ ¬ shows r o := by
  have filtered : ((s.noteState n r).ctx n).unshown = (s.ctx n).unshown.filter fun o => !o.shownBy r :=
    congrArg Ctx.unshown (State.updCtx_ctx n _ s)
  rw [filtered, List.mem_filter, ← o.shownBy_iff r, Bool.not_eq_true', Bool.not_eq_true]

/-! ## The slots after a LATCH (R33) -/

/-- What the slot of TXn holds after a LATCH: a copy held is kept, an unlatched slot takes one where TXn is named. -/
def State.slotAfter (s : State) (named : Bool) (n : TxId) : Option Snapshot :=
  match s.snaps[n] with
  | some c => some c
  | none => if named then some (s.snapshotOf n) else none

/-- The state after a LATCH of the transmitters named. -/
def State.latchedFor (s : State) (named : TxId → Bool) : State :=
  { s with snaps := Vector.ofFn fun n : Fin 16 => s.slotAfter (named n) n }

theorem State.slotAfter_false (s : State) (n : TxId) : s.slotAfter false n = s.snaps[n] := by
  unfold State.slotAfter
  split <;> simp_all

/-- A copy is taken of the state beside the slots, so the slots latched before it do not enter. -/
theorem State.latchSlot_snapshotOf (n m : TxId) (s : State) : (s.latchSlot n).snapshotOf m = s.snapshotOf m := by
  rw [s.latchSlot_eq n]
  rfl

theorem State.latchSlot_snaps (n m : TxId) (s : State) : (s.latchSlot n).snaps[m] = s.slotAfter (decide (m = n)) m := by
  unfold State.latchSlot State.slotAfter
  by_cases same : m = n
  · subst same
    cases held : s.snaps[m] with
    | some c => simp [held]
    | none => simp
  · cases s.snaps[n] with
    | some c => cases s.snaps[m] <;> simp [same]
    | none =>
      simp only [getElem_set_of_ne _ same]
      cases held : s.snaps[m] <;> simp [same]

/-- One slot latched, then others: the slots are those of one LATCH of them all. -/
theorem State.latchSlot_slotAfter (n m : TxId) (named : Bool) (s : State) :
    (s.latchSlot n).slotAfter named m = s.slotAfter (decide (m = n) || named) m := by
  simp only [State.slotAfter, State.latchSlot_snaps, State.latchSlot_snapshotOf]
  cases s.snaps[m] with
  | some c => rfl
  | none => cases decide (m = n) <;> rfl

theorem State.each_latchSlot (l : List TxId) (s : State) : s.each l State.latchSlot = s.latchedFor fun n => l.contains n := by
  induction l generalizing s with
  | nil =>
    have kept : s.snaps = Vector.ofFn fun n : Fin 16 => s.slotAfter false n :=
      Vector.ext fun i h => by rw [Vector.getElem_ofFn]; exact (s.slotAfter_false ⟨i, h⟩).symm
    exact congrArg (fun v => { s with snaps := v }) kept
  | cons n l ih =>
    calc (s.latchSlot n).each l State.latchSlot
      _ = (s.latchSlot n).latchedFor fun m => l.contains m := ih _
      _ = s.latchedFor fun m => (n :: l).contains m := by
        simp only [State.latchedFor, State.latchSlot_slotAfter, List.contains_cons, beq_eq_decide]
        rw [s.latchSlot_eq n]

theorem State.latchAll_eq (l : List TxId) (s : State) :
    s.latchAll l = (s.latchedFor fun n => l.contains n).ok (.latched (l.map s.latchLine)) := by
  rw [State.latchAll, State.each_latchSlot]

theorem State.definedTx_contains (s : State) (n : TxId) : s.definedTx.contains n = s.txDefined n := by
  rw [Bool.eq_iff_iff, List.contains_iff_mem]
  simp [State.definedTx, allTx]

/-! ## The list of a LATCH (R33) -/

theorem itemOf_num {n : Nat} (i : Fin n) : itemOf n (num i) = some i := itemOf_eq_some.mpr rfl

theorem itemsOf_num {n : Nat} (l : List (Fin n)) : itemsOf n (l.map num) = l := by
  simp [itemsOf, List.filterMap_map, itemOf_num]

theorem num_within {n : Nat} (i : Fin n) : within 1 n (num i) = true :=
  within_iff.mpr ⟨Nat.succ_pos _, i.isLt⟩

/-- A list of 1 to 16 transmitters is within range. -/
theorem latchList_fits {l : List TxId} (some' : l ≠ []) (short : l.length ≤ 16) :
    (within 1 16 (l.map num).length && (l.map num).all (within 1 16)) = true := by
  simp only [Bool.and_eq_true, within_iff, List.length_map, List.all_map, List.all_eq_true]
  exact ⟨⟨List.length_pos_iff.mpr some', short⟩, fun n _ => num_within n⟩

theorem State.reqLatch_range {l : List Nat} (bad : l = [] ∨ 16 < l.length ∨ ∃ k ∈ l, k = 0 ∨ 16 < k) (s : State) :
    s.reqLatch (some l) = s.refused .range 1 := by
  have misfit : (within 1 16 l.length && l.all (within 1 16)) = false := by
    rw [Bool.eq_false_iff, ne_eq, Bool.and_eq_true, within_iff, List.all_eq_true]
    rintro ⟨⟨least, most⟩, fits⟩
    obtain rfl | long | ⟨k, mem, out⟩ := bad
    · exact absurd least (by decide)
    · omega
    · obtain ⟨low, high⟩ := within_iff.mp (fits k mem)
      omega
  simp only [State.reqLatch, misfit, Bool.false_eq_true, if_false]

theorem State.firstUndefined_none {l : List TxId} {s : State} (defined : ∀ n ∈ l, s.txDefined n = true) :
    s.firstUndefined (l.map num) = none := by
  rw [State.firstUndefined, List.find?_eq_none]
  intro k mem
  obtain ⟨n, listed, rfl⟩ := List.mem_map.mp mem
  simp [itemOf_num, defined n listed]

theorem State.firstUndefined_some {l : List TxId} {s : State} (missing : ∃ n ∈ l, s.txDefined n = false) :
    ∃ n ∈ l, s.txDefined n = false ∧ s.firstUndefined (l.map num) = some (num n) := by
  obtain ⟨n, listed, undefined⟩ := missing
  have found : (s.firstUndefined (l.map num)).isSome := by
    rw [State.firstUndefined, List.find?_isSome]
    exact ⟨num n, List.mem_map_of_mem listed, by simp [itemOf_num, undefined]⟩
  obtain ⟨k, is⟩ := Option.isSome_iff_exists.mp found
  obtain ⟨m, mem, rfl⟩ := List.mem_map.mp (List.mem_of_find?_eq_some is)
  have bare := List.find?_some is
  simp only [itemOf_num, Bool.not_eq_true'] at bare
  exact ⟨m, mem, bare, is⟩

theorem State.reqLatch_all (s : State) :
    s.reqLatch none = (s.latchedFor s.txDefined).ok (.latched (s.definedTx.map s.latchLine)) := by
  have named : (fun n => s.definedTx.contains n) = s.txDefined := funext s.definedTx_contains
  rw [State.reqLatch, State.latchAll_eq, named]

theorem State.reqLatch_list {l : List TxId} {s : State} (some' : l ≠ []) (short : l.length ≤ 16)
    (defined : ∀ n ∈ l, s.txDefined n = true) : s.reqLatch (some (l.map num)) =
      (s.latchedFor fun n => l.contains n).ok (.latched (l.eraseDups.map s.latchLine)) := by
  have named : (fun n => l.eraseDups.contains n) = fun n => l.contains n := by
    funext n
    rw [Bool.eq_iff_iff, List.contains_iff_mem, List.contains_iff_mem, List.mem_eraseDups]
  simp only [State.reqLatch, latchList_fits some' short, if_true, State.firstUndefined_none defined, itemsOf_num,
    State.latchAll_eq, named]

theorem State.reqLatch_noSuch {l : List TxId} {s : State} (some' : l ≠ []) (short : l.length ≤ 16)
    (missing : ∃ n ∈ l, s.txDefined n = false) :
    ∃ n ∈ l, s.txDefined n = false ∧ s.reqLatch (some (l.map num)) = s.refused .noSuch (num n) := by
  obtain ⟨n, listed, undefined, is⟩ := State.firstUndefined_some missing
  exact ⟨n, listed, undefined, by simp only [State.reqLatch, latchList_fits some' short, if_true, is]⟩

/-! ## READ-SNAPSHOT (R35) -/

theorem State.reqReadSnapshot_range {k : Nat} (out : k = 0 ∨ 16 < k) (s : State) :
    s.reqReadSnapshot k = s.refused .range 1 := by
  simp only [State.reqReadSnapshot, itemOf_eq_none.mpr out]

theorem State.reqReadSnapshot_noSuch {k : Nat} {n : TxId} {s : State} (names : itemOf 16 k = some n)
    (undefined : s.txDefined n = false) : s.reqReadSnapshot k = s.refused .noSuch k := by
  simp only [State.reqReadSnapshot, names, undefined, Bool.false_eq_true, if_false]

theorem State.reqReadSnapshot_latched {k : Nat} {n : TxId} {s : State} {c : Snapshot} (names : itemOf 16 k = some n)
    (defined : s.txDefined n = true) (held : s.snaps[n] = some c) :
    s.reqReadSnapshot k = ({ s with snaps := s.snaps.set n none } : State).ok (.snapshot true c) := by
  simp only [State.reqReadSnapshot, names, defined, if_true]
  rw [held]

theorem State.reqReadSnapshot_present {k : Nat} {n : TxId} {s : State} (names : itemOf 16 k = some n)
    (defined : s.txDefined n = true) (bare : s.snaps[n] = none) :
    s.reqReadSnapshot k = s.ok (.snapshot false (s.snapshotOf n)) := by
  simp only [State.reqReadSnapshot, names, defined, if_true]
  rw [bare]

/-- With PANEL-TELEMETRY the P-port may send LATCH and READ-SNAPSHOT too (R190). -/
theorem State.permitted_telemetry {code : Byte} (kind : code = 0x0A ∨ code = 0x0B) {port : Port} {s : State}
    (may : port = .a ∨ s.hds.hall.panelTelemetry = true) : s.permitted port code = true := by
  obtain rfl | telemetry := may
  · exact s.permitted_a code
  · cases port with
    | a => exact s.permitted_a code
    | p =>
      simp only [State.permitted, telemetry, Bool.and_true, Bool.or_eq_true, decide_eq_true_eq]
      exact .inr kind

end Sys2Proof.Machine

namespace Sys2Proof.Proofs
open Sys2Proof Sys2Proof.Machine Sys2Proof.Claims

theorem exec_latch {s : State} {port : Port} (free : portFree port s) (may : port = .a ∨ s.hds.hall.panelTelemetry = true)
    {tag : Byte} {which : Option (List Nat)} {t : State} {res : Result} (h : s.reqLatch which = ⟨t, res⟩) :
    exec (.latch port tag which) s = .next (replied port tag 0x0A res t) :=
  exec_request (.latch which) rfl free (State.permitted_telemetry (.inl rfl) may) h

theorem exec_readSnapshot {s : State} {port : Port} (free : portFree port s)
    (may : port = .a ∨ s.hds.hall.panelTelemetry = true) {tag : Byte} {k : Nat} {t : State} {res : Result}
    (h : s.reqReadSnapshot k = ⟨t, res⟩) :
    exec (.readSnapshot port tag k) s = .next (replied port tag 0x0B res t) :=
  exec_request (.readSnapshot k) rfl free (State.permitted_telemetry (.inr rfl) may) h

/-- Settles O17: the copy by its fields, LATCH by its list (`each_latchSlot` for the slots), READ-SNAPSHOT by the slot it reads. -/
theorem snapshotsLatchAndUnlatch : Obligations.SnapshotsLatchAndUnlatch := by
  refine ⟨fun s n => ⟨s.copies_snapshotOf n, s.mem_noteState_unshown n⟩, fun s port tag free may => ?_,
    fun s port tag number n free may => ⟨fun k out => ?_, fun names undefined => ?_, fun c names defined held => ?_,
      fun names defined bare => ?_⟩⟩
  · intro line latched
    refine ⟨exec_latch free may s.reqLatch_all, fun l some' short defined => ?_, fun l bad => ?_,
      fun l some' short missing => ?_⟩
    · exact exec_latch free may (State.reqLatch_list some' short defined)
    · exact exec_latch free may (s.reqLatch_range bad)
    · obtain ⟨n, listed, undefined, is⟩ := State.reqLatch_noSuch some' short missing
      exact ⟨n, listed, undefined, exec_latch free may is⟩
  · exact exec_readSnapshot free may (s.reqReadSnapshot_range out)
  · exact exec_readSnapshot free may (State.reqReadSnapshot_noSuch names undefined)
  · exact exec_readSnapshot free may (State.reqReadSnapshot_latched names defined held)
  · exact exec_readSnapshot free may (State.reqReadSnapshot_present names defined bare)

end Sys2Proof.Proofs
end

section
/-! PROOFS. RESTART (R186): its stages, what each of them leaves alone, and the state it ends in. -/

namespace Sys2Proof.Machine
open Sys2Proof Sys2Proof.Claims

/-- An operation on each transmitter of a list without repetition, which concerns no other transmitter: what a view of one shows. -/
theorem State.each_at {β : Type} (view : TxId → State → β) {f : TxId → State → State} (g : β → β)
    (same : ∀ n t, view n (f n t) = g (view n t)) (other : ∀ n m t, m ≠ n → view m (f n t) = view m t) {l : List TxId}
    (once : l.Nodup) (m : TxId) (s : State) : view m (s.each l f) = if m ∈ l then g (view m s) else view m s := by
  induction l generalizing s with
  | nil => rfl
  | cons n l ih =>
    obtain ⟨absent, rest⟩ := List.nodup_cons.mp once
    have after : view m (s.each (n :: l) f) = if m ∈ l then g (view m (f n s)) else view m (f n s) := ih rest (f n s)
    by_cases here : m = n
    · subst here
      rw [after, if_neg absent, if_pos List.mem_cons_self, same]
    · rw [after, other n m s here]
      simp only [List.mem_cons, here, false_or]

theorem State.definedTx_nodup (s : State) : s.definedTx.Nodup := (List.nodup_finRange 16).filter _

theorem State.mem_definedTx {s : State} {n : TxId} : n ∈ s.definedTx ↔ s.txDefined n = true := by
  simp [State.definedTx, allTx]

theorem State.definedTx_congr {s t : State} (h : t.hds = s.hds) : t.definedTx = s.definedTx := by
  rw [State.definedTx, State.definedTx, State.txDefined_congr h]

/-- What no stage of RESTART after its first writes: the state with the timers, the STAGED bank, the contexts, the ports and the
all-call blanked. -/
def State.besideRestart (s : State) : State :=
  { s with
    tim := .stopped
    sch := { s.sch with staged := .emptyBank, recheckDue := false }
    txs := .powerOn
    swb := { s.swb with surveyed := false, counts := ⟨0, 0, 0⟩, allCallWaiting := false }
    lnk := .powerOn }

theorem State.entry_of_besideRestart {s t : State} (h : t.besideRestart = s.besideRestart) (act : ActId) :
    t.entry act = s.entry act := by
  cases act with
  | row n => exact (congrArg (fun u => u.swb.row[n]) h :)
  | sel a => exact (congrArg (fun u => u.swb.sel[a]) h :)
  | beam a => exact (congrArg (fun u => u.swb.beam[a]) h :)

theorem State.clk_of_besideRestart {s t : State} (h : t.besideRestart = s.besideRestart) : t.clk = s.clk :=
  (congrArg State.clk h :)

theorem State.blocks_of_besideRestart {s t : State} (h : t.besideRestart = s.besideRestart) :
    t.pins = s.pins ∧ t.snaps = s.snaps ∧ t.csq = s.csq ∧ t.amx = s.amx ∧ t.rfp = s.rfp :=
  ⟨(congrArg State.pins h :), (congrArg State.snaps h :), (congrArg State.csq h :), (congrArg State.amx h :),
    (congrArg State.rfp h :)⟩

theorem State.sch_of_besideRestart {s t : State} (h : t.besideRestart = s.besideRestart) :
    t.sch.active = s.sch.active ∧ t.sch.arming = s.sch.arming ∧ t.sch.lastGen = s.sch.lastGen ∧
      t.sch.bookings = s.sch.bookings ∧ t.sch.occ = s.sch.occ :=
  ⟨(congrArg (fun u => u.sch.active) h :), (congrArg (fun u => u.sch.arming) h :),
    (congrArg (fun u => u.sch.lastGen) h :), (congrArg (fun u => u.sch.bookings) h :),
    (congrArg (fun u => u.sch.occ) h :)⟩

theorem State.bus_of_besideRestart {s t : State} (h : t.besideRestart = s.besideRestart) :
    t.swb.queue = s.swb.queue ∧ t.swb.trans = s.swb.trans :=
  ⟨(congrArg (fun u => u.swb.queue) h :), (congrArg (fun u => u.swb.trans) h :)⟩

theorem State.hds_of_besideRestart {s t : State} (h : t.besideRestart = s.besideRestart) : t.hds = s.hds :=
  (congrArg State.hds h :)

/-! ## The survey a RESTART begins (R154, R175) -/

/-- TXn is sent a STATUS-ASK. -/
def State.statusAsked (n : TxId) (s : State) : State := s.sendNow n .txs .statusAsk

/-- A context once a STATUS-ASK has been sent to it. -/
def Ctx.asked (now : Nat) (c : Ctx) : Ctx :=
  { c with
    outstanding := some ⟨.statusAsk, now, .txs, c.state, c.drive⟩
    unshown := noteSent .statusAsk c.unshown
    sentSince := c.sentSince.note .statusAsk }

theorem State.statusAsked_ctx (n : TxId) (s : State) : (s.statusAsked n).ctx n = (s.ctx n).asked s.now :=
  State.sendNow_statusAsk_ctx n .txs s

theorem State.statusAsked_ctx_ne (n m : TxId) (other : m ≠ n) (s : State) : (s.statusAsked n).ctx m = s.ctx m :=
  State.updCtx_ctx_ne n m other _ _

/-- The survey record is written. -/
def State.surveyMarked (due : Bool) (q : Survey) (s : State) : State :=
  { s with sch := { s.sch with recheckDue := due }, txs := { s.txs with survey := some q } }

/-- An all-call waits to be sent. -/
def State.allCallQueued (s : State) : State :=
  { s with swb := { s.swb with surveyed := false, counts := ⟨0, 0, 0⟩, allCallWaiting := true } }

/-- A STATUS-ASK asked of the context is sent at once: its line is UP and free, and its key at REMOTE. -/
def Ctx.askable (c : Ctx) : Prop := c.lineUp = true ∧ c.source ≠ .localKey ∧ c.outstanding = none

theorem State.each_ask_free {l : List TxId} (once : l.Nodup) {s : State}
    (ready : ∀ n ∈ l, s.txDefined n = true ∧ (s.ctx n).askable) :
    (s.each l fun n u => u.askOrder n .txs .statusAsk) = s.each l State.statusAsked := by
  induction l generalizing s with
  | nil => rfl
  | cons n l ih =>
    obtain ⟨absent, rest⟩ := List.nodup_cons.mp once
    obtain ⟨defined, up, remote, free⟩ := ready n List.mem_cons_self
    have sent : s.askOrder n .txs .statusAsk = s.statusAsked n := State.askOrder_statusAsk_free defined up remote free
    have still : ∀ m ∈ l, (s.statusAsked n).txDefined m = true ∧ ((s.statusAsked n).ctx m).askable := fun m mem => by
      rw [s.statusAsked_ctx_ne n m (fun same => absent (same ▸ mem))]
      exact ready m (List.mem_cons_of_mem n mem)
    calc (s.askOrder n .txs .statusAsk).each l (fun n u => u.askOrder n .txs .statusAsk)
      _ = (s.statusAsked n).each l (fun n u => u.askOrder n .txs .statusAsk) := by rw [sent]
      _ = (s.statusAsked n).each l State.statusAsked := ih rest still

/-- With an actuator defined, an all-call waits. -/
theorem State.beginAllCall_queued {s : State} {act : ActId} (listed : act ∈ allAct) (defined : s.actDefined act = true) :
    s.beginAllCall = s.allCallQueued := by
  have some' : ({ s with swb := { s.swb with surveyed := false, counts := ⟨0, 0, 0⟩ } } : State).definedActs.isEmpty = false := by
    rw [List.isEmpty_eq_false_iff_exists_mem]
    refine ⟨act, List.mem_filter.mpr ⟨listed, ?_⟩⟩
    cases act <;> exact defined
  simp only [State.beginAllCall, some', Bool.false_eq_true, if_false]
  rfl

theorem row_mem_allAct (n : TxId) : ActId.row n ∈ allAct := by simp [allAct, allTx]

theorem State.statusAsked_swb (l : List TxId) (s : State) : (s.each l State.statusAsked).swb = s.swb :=
  State.each_view (f := State.statusAsked) State.swb l (fun _ _ => rfl) s

/-- The survey of a hall whose defined transmitters may all be asked, one of them with its row switch in the table. -/
theorem State.beginSurvey_asks {s : State} {n : TxId} (row : (s.entry (.row n)).isSome = true)
    (ready : ∀ m, (s.ctx m).askable) :
    ∃ due q, s.beginSurvey = ((s.surveyMarked due q).each s.definedTx State.statusAsked).allCallQueued := by
  have all : (s.definedTx.filter fun m => (s.ctx m).lineUp) = s.definedTx :=
    List.filter_eq_self.mpr fun m _ => (ready m).1
  refine ⟨s.recheckWanted, ⟨Vector.ofFn s.firstTurn, false, !s.recheckWanted, ⟨0, 0, 0⟩, 0, Vector.ofFn s.holding⟩, ?_⟩
  generalize asksOf : (⟨Vector.ofFn s.firstTurn, false, !s.recheckWanted, ⟨0, 0, 0⟩, 0, Vector.ofFn s.holding⟩ : Survey) = q
  have asks := State.each_ask_free (s := s.surveyMarked s.recheckWanted q) s.definedTx_nodup
    fun m mem => ⟨State.mem_definedTx.mp mem, ready m⟩
  have defined : ((s.surveyMarked s.recheckWanted q).each s.definedTx State.statusAsked).actDefined (.row n) = true := by
    simp only [State.actDefined, State.entry, State.statusAsked_swb]
    exact row
  calc s.beginSurvey
    _ = ((s.surveyMarked s.recheckWanted q).each (s.definedTx.filter fun m => (s.ctx m).lineUp)
          fun n u => u.askOrder n .txs .statusAsk).beginAllCall := by rw [← asksOf]; rfl
    _ = ((s.surveyMarked s.recheckWanted q).each s.definedTx State.statusAsked).beginAllCall := by rw [all, asks]
    _ = _ := State.beginAllCall_queued (row_mem_allAct n) defined

/-! ## The stages of RESTART (R186) -/

/-- The RESTART values, with line silence of each defined transmitter running. -/
def State.linesWatched (s : State) : State := s.restartValues.each s.definedTx fun n => State.startChan (.tx n .silence) 3000

/-- The sweep has begun again and the open zones are told. -/
def State.zonesTold (s : State) : State := (s.linesWatched.resweep).each allZones State.postIfOpen

theorem State.resweep_besideRestart {s : State} (h : s.sch.staged.state = .validating → s.sch.staged.entries ≠ []) :
    s.resweep.besideRestart = s.besideRestart ∧ s.resweep.txs = s.txs ∧ s.resweep.tim = s.tim ∧ s.resweep.lnk = s.lnk ∧
      s.resweep.sch.staged.entries = s.sch.staged.entries ∧ s.resweep.swb = s.swb := by
  unfold State.resweep
  split
  case isTrue sweeping =>
    have entries : s.sch.staged.entries.isEmpty = false := by simpa using h sweeping
    simp only [State.sweepBegins, entries, Bool.false_eq_true, if_false]
    exact ⟨rfl, rfl, rfl, rfl, rfl, rfl⟩
  case isFalse => exact ⟨rfl, rfl, rfl, rfl, rfl, rfl⟩

theorem State.postIfOpen_view {β : Type} (view : State → β) (h : ∀ t nt, view (State.post nt t) = view t) (z : ZoneId)
    (s : State) : view (s.postIfOpen z) = view s := by
  unfold State.postIfOpen
  split
  · exact h _ _
  · rfl

theorem State.linesWatched_tim (s : State) (n : TxId) : s.linesWatched.tim.tx[n] =
    if s.txDefined n = true then TxTimers.put .silence ⟨true, 3000, 3000⟩ .stopped else .stopped := by
  have stopped : s.restartValues.tim.tx[n] = .stopped := Vector.getElem_replicate ..
  have at_ := State.each_at (fun n t => t.tim.tx[n]) (f := fun n => State.startChan (.tx n .silence) 3000)
    (TxTimers.put .silence ⟨true, 3000, 3000⟩) (fun n t => Vector.getElem_set_self ..)
    (fun n m t other => getElem_set_of_ne _ other _) s.definedTx_nodup n s.restartValues
  simp only [State.mem_definedTx, stopped] at at_
  exact at_

theorem State.linesWatched_view {β : Type} (view : State → β)
    (keeps : ∀ n t, view (State.startChan (.tx n .silence) 3000 t) = view t) (s : State) :
    view s.linesWatched = view s.restartValues := State.each_view view _ keeps _

/-- What stands of the RESTART values once the zones are told. -/
theorem State.zonesTold_kept {s : State} (h : s.sch.staged.state = .validating → s.sch.staged.entries ≠ []) :
    s.zonesTold.besideRestart = s.restartValues.besideRestart ∧ s.zonesTold.txs = s.restartValues.txs ∧
      s.zonesTold.tim = s.linesWatched.tim ∧ s.zonesTold.sch.staged.entries = s.sch.staged.entries ∧
      s.zonesTold.swb = s.restartValues.swb := by
  have told {β : Type} (view : State → β) (keeps : ∀ t nt, view (State.post nt t) = view t) :
      view s.zonesTold = view s.linesWatched.resweep :=
    State.each_view view allZones (fun z t => State.postIfOpen_view view keeps z t) _
  have staged : s.linesWatched.sch.staged = s.sch.staged :=
    State.linesWatched_view (fun t => t.sch.staged) (fun _ _ => rfl) s
  obtain ⟨beside, txs, tim, -, entries, swb⟩ := s.linesWatched.resweep_besideRestart (by rw [staged]; exact h)
  exact ⟨(told State.besideRestart fun _ _ => rfl).trans (beside.trans (State.linesWatched_view State.besideRestart (fun _ _ => rfl) s)),
    (told State.txs fun _ _ => rfl).trans (txs.trans (State.linesWatched_view State.txs (fun _ _ => rfl) s)),
    (told State.tim fun _ _ => rfl).trans tim,
    (told (fun t => t.sch.staged.entries) fun _ _ => rfl).trans (entries.trans (congrArg StagedBank.entries staged)),
    (told State.swb fun _ _ => rfl).trans (swb.trans (State.linesWatched_view State.swb (fun _ _ => rfl) s))⟩

theorem State.post_port (s : State) (port : Port) (nt : Notice) : (s.post nt).port port =
    { s.port port with queue := enqueue s.clk.day s.clk.sec nt (s.port port).queue } := by cases port <;> rfl

theorem enqueue_short {q : List QEntry} (short : q.length < 63) (day sec : Nat) (nt : Notice) :
    enqueue day sec nt q = q ++ [.notice day sec nt] :=
  if_pos ((List.length_filter_le _ _).trans_lt short)

/-- A port with entries added at the end of its notice queue. -/
def PortState.told (l : List QEntry) (p : PortState) : PortState := { p with queue := p.queue ++ l }

theorem PortState.told_told (k l : List QEntry) (p : PortState) : (p.told k).told l = p.told (k ++ l) := by
  simp only [PortState.told, List.append_assoc]

theorem PortState.told_nil (p : PortState) : p.told [] = p := by simp only [PortState.told, List.append_nil]

theorem State.post_told {s : State} {port : Port} (short : (s.port port).queue.length < 63) (nt : Notice) :
    (s.post nt).port port = (s.port port).told [.notice s.clk.day s.clk.sec nt] := by
  rw [State.post_port, enqueue_short short, PortState.told]

theorem State.toHall_port {s : State} {port : Port} (short : (s.port port).queue.length < 63) (hall : HallState)
    (c : HallCause) : (s.toHall hall c).port port =
      (s.port port).told [.notice s.clk.day s.clk.sec (.hallState s.txs.hall hall c)] := by
  have same : (s.withHall hall).port port = s.port port := by cases port <;> rfl
  rw [State.toHall, State.post_told (by rw [same]; exact short), same]
  rfl

/-- The notices of the open zones of a list, in its order. -/
def State.openNotices (s : State) (l : List ZoneId) : List QEntry :=
  (l.filter fun z => decide (s.amx.zone[z] = some true)).map fun z =>
    .notice s.clk.day s.clk.sec (.zoneOpen z (s.zoneAnts z))

theorem State.openNotices_cons (s : State) (z : ZoneId) (l : List ZoneId) :
    s.openNotices (z :: l) = s.openNotices [z] ++ s.openNotices l := by
  rw [← List.singleton_append, State.openNotices, List.filter_append, List.map_append]
  rfl

theorem State.openNotices_length (s : State) (l : List ZoneId) : (s.openNotices l).length ≤ l.length := by
  rw [State.openNotices, List.length_map]
  exact List.length_filter_le _ _

theorem State.postIfOpen_port {s : State} {port : Port} (short : (s.port port).queue.length < 63) (z : ZoneId) :
    (s.postIfOpen z).port port = (s.port port).told (s.openNotices [z]) := by
  unfold State.postIfOpen
  split
  case isTrue isOpen =>
    rw [State.post_told short, State.openNotices, List.filter_singleton, decide_eq_true isOpen]
    rfl
  case isFalse shut =>
    rw [State.openNotices, List.filter_singleton, decide_eq_false shut]
    exact (PortState.told_nil _).symm

theorem State.each_postIfOpen_port {l : List ZoneId} {s : State} {port : Port}
    (short : (s.port port).queue.length + l.length ≤ 63) :
    (s.each l State.postIfOpen).port port = (s.port port).told (s.openNotices l) := by
  induction l generalizing s with
  | nil => exact (PortState.told_nil _).symm
  | cons z l ih =>
    rw [List.length_cons] at short
    have one := State.postIfOpen_port (show (s.port port).queue.length < 63 by omega) z
    have notices : (s.postIfOpen z).openNotices l = s.openNotices l :=
      State.postIfOpen_view (fun t => t.openNotices l) (fun _ _ => rfl) z s
    have most : (s.openNotices [z]).length ≤ 1 := s.openNotices_length [z]
    have room : ((s.postIfOpen z).port port).queue.length + l.length ≤ 63 := by
      rw [one, PortState.told, List.length_append]
      omega
    calc ((s.postIfOpen z).each l State.postIfOpen).port port
      _ = ((s.postIfOpen z).port port).told ((s.postIfOpen z).openNotices l) := ih room
      _ = (s.port port).told (s.openNotices (z :: l)) := by
        rw [notices, one, PortState.told_told, ← State.openNotices_cons]

/-- The notices of the zones that RESTART finds OPEN (R139). -/
def State.restartNotices (s : State) : List QEntry :=
  (allZones.filter fun z => (s.hds.zones[z]).inUse && !s.pins.gate[z]).map fun z =>
    .notice s.clk.day s.clk.sec (.zoneOpen z (s.hds.zones[z]).members)

theorem State.restartValues_openNotices (s : State) : s.restartValues.openNotices allZones = s.restartNotices := by
  have isOpen (z : ZoneId) : decide (s.restartValues.amx.zone[z] = some true) =
      ((s.hds.zones[z]).inUse && !s.pins.gate[z]) := by
    have sampled : s.restartValues.amx.zone[z] = s.zoneSampled z := Vector.getElem_ofFn ..
    rw [sampled, State.zoneSampled]
    cases (s.hds.zones[z]).inUse <;> simp
  simp only [State.openNotices, State.restartNotices, isOpen]
  rfl

theorem State.zonesTold_port {s : State} (h : s.sch.staged.state = .validating → s.sch.staged.entries ≠ []) (port : Port) :
    s.zonesTold.port port = ((s.port port).restarted).told s.restartNotices := by
  have staged : s.linesWatched.sch.staged = s.sch.staged :=
    State.linesWatched_view (fun t => t.sch.staged) (fun _ _ => rfl) s
  obtain ⟨beside, -, -, lnk, -⟩ := s.linesWatched.resweep_besideRestart (by rw [staged]; exact h)
  have ports : s.linesWatched.resweep.port port = (s.port port).restarted := by
    have lnk' : s.linesWatched.resweep.lnk = s.restartValues.lnk :=
      lnk.trans (State.linesWatched_view State.lnk (fun _ _ => rfl) s)
    cases port with
    | a => exact congrArg Lnk.a lnk'
    | p => exact congrArg Lnk.p lnk'
  have notices : s.linesWatched.resweep.openNotices allZones = s.restartNotices :=
    calc s.linesWatched.resweep.openNotices allZones
      _ = s.linesWatched.openNotices allZones :=
        (congrArg (fun t : State => t.openNotices allZones) beside :)
      _ = s.restartValues.openNotices allZones :=
        State.linesWatched_view (fun t => t.openNotices allZones) (fun _ _ => rfl) s
      _ = s.restartNotices := s.restartValues_openNotices
  have short : (s.linesWatched.resweep.port port).queue.length + allZones.length ≤ 63 := by
    rw [ports]
    simp [PortState.restarted, allZones]
  rw [State.zonesTold, State.each_postIfOpen_port short, ports, notices]

/-! ## The hall entered (R105, R186) -/

/-- The hall has taken its state; no survey has begun yet. -/
def State.hallEntered (s : State) : State := s.zonesTold.toHall s.hallAfterRestart .restart

theorem State.toHall_ctx (n : TxId) (hall : HallState) (c : HallCause) (s : State) : (s.toHall hall c).ctx n = s.ctx n := rfl

theorem State.toHall_besideRestart (hall : HallState) (c : HallCause) (s : State) :
    (s.toHall hall c).besideRestart = s.besideRestart := rfl

theorem State.hallEntered_blocks (s : State) : s.hallEntered.txs.hall = s.hallAfterRestart ∧
    s.hallEntered.tim = s.zonesTold.tim ∧ s.hallEntered.sch = s.zonesTold.sch ∧ s.hallEntered.swb = s.zonesTold.swb := by
  unfold State.hallEntered
  generalize s.zonesTold = t
  exact ⟨rfl, rfl, rfl, rfl⟩

theorem State.hallAfterRestart_congr {s t : State} (h : t.besideRestart = s.besideRestart) :
    t.hallAfterRestart = s.hallAfterRestart := by
  have pins : t.pins = s.pins := (congrArg State.pins h :)
  have hds : t.hds = s.hds := (congrArg State.hds h :)
  have clk : t.clk = s.clk := (congrArg State.clk h :)
  simp only [State.hallAfterRestart, pins, clk, State.definedTx_congr hds]

theorem State.hallAfterRestart_eq (s : State) : s.hallAfterRestart =
    if s.pins.emergency then .emergency
    else if (∃ n, s.txDefined n = true) ∧ s.clk.state ≠ .unset then .surveying else .halted := by
  have none : s.definedTx.isEmpty = true ↔ ¬ ∃ n, s.txDefined n = true := by
    simp only [List.isEmpty_iff, List.eq_nil_iff_forall_not_mem, State.mem_definedTx, not_exists]
  have swapped : (s.definedTx.isEmpty || decide (s.clk.state = .unset)) = true ↔
      ¬ ((∃ n, s.txDefined n = true) ∧ s.clk.state ≠ .unset) := by
    rw [Bool.or_eq_true, none, decide_eq_true_eq, not_and_or, not_not]
  simp only [State.hallAfterRestart, swapped, ite_not]

theorem State.defined_of_surveying {s : State} (h : s.hallAfterRestart = .surveying) : ∃ n, s.txDefined n = true := by
  rw [State.hallAfterRestart_eq] at h
  split at h
  · cases h
  · split at h
    case isTrue both => exact both.1
    case isFalse => cases h

theorem State.restartValues_row (s : State) (n : TxId) :
    s.restartValues.entry (.row n) = if s.txDefined n = true then some .initial else none := Vector.getElem_ofFn ..

theorem Ctx.restarted_askable (c : Ctx) : c.restarted.askable := by
  refine ⟨rfl, ?_, rfl⟩
  simp only [Ctx.restarted]
  cases c.stored <;> exact fun same => (by cases same)

section Restart
variable {s : State} (h : s.sch.staged.state = .validating → s.sch.staged.entries ≠ [])
include h

theorem State.hallEntered_ctx (n : TxId) : s.hallEntered.ctx n = (s.ctx n).restarted := by
  obtain ⟨-, txs, -⟩ := State.zonesTold_kept h
  rw [State.hallEntered, State.toHall_ctx, State.ctx, txs]
  exact Vector.getElem_ofFn ..

theorem State.hallEntered_besideRestart : s.hallEntered.besideRestart = s.restartValues.besideRestart := by
  obtain ⟨beside, -⟩ := State.zonesTold_kept h
  rw [State.hallEntered, State.toHall_besideRestart, beside]

/-- RESTART ends in the hall state entered, and with a survey begun where that is SURVEYING. -/
theorem State.restarted_cases :
    (s.hallAfterRestart ≠ .surveying ∧ s.restarted = s.hallEntered) ∨
    (s.hallAfterRestart = .surveying ∧ ∃ due q,
      s.restarted = ((s.hallEntered.surveyMarked due q).each s.definedTx State.statusAsked).allCallQueued) := by
  obtain ⟨told, -⟩ := State.zonesTold_kept h
  have hall : s.zonesTold.hallAfterRestart = s.hallAfterRestart := (State.hallAfterRestart_congr told).trans rfl
  have enters : s.restarted = if s.hallAfterRestart = .surveying then s.hallEntered.beginSurvey else s.hallEntered := by
    rw [State.hallEntered, ← hall]
    rfl
  by_cases surveying : s.hallAfterRestart = .surveying
  · rw [if_pos surveying] at enters
    obtain ⟨n, defined⟩ := State.defined_of_surveying surveying
    have beside := State.hallEntered_besideRestart h
    have row : (s.hallEntered.entry (.row n)).isSome = true := by
      rw [State.entry_of_besideRestart beside, State.restartValues_row, if_pos defined]
      rfl
    have ready (m : TxId) : (s.hallEntered.ctx m).askable := by
      rw [State.hallEntered_ctx h]
      exact Ctx.restarted_askable _
    have defs : s.hallEntered.definedTx = s.definedTx :=
      (State.definedTx_congr (State.hds_of_besideRestart beside)).trans (State.definedTx_congr rfl)
    obtain ⟨due, q, asks⟩ := State.beginSurvey_asks row ready
    rw [defs] at asks
    exact .inr ⟨surveying, due, q, enters.trans asks⟩
  · exact .inl ⟨surveying, enters.trans (if_neg surveying)⟩

/-- A view that no stage of the survey writes is that of the hall entered. -/
theorem State.restarted_view {β : Type} (view : State → β) (marks : ∀ due q t, view (State.surveyMarked due q t) = view t)
    (asks : ∀ n t, view (State.statusAsked n t) = view t) (queues : ∀ t, view (State.allCallQueued t) = view t) :
    view s.restarted = view s.hallEntered := by
  obtain ⟨-, is⟩ | ⟨-, due, q, is⟩ := State.restarted_cases h
  · rw [is]
  · rw [is, queues, State.each_view view _ asks, marks]

theorem State.restarted_besideRestart : s.restarted.besideRestart = s.restartValues.besideRestart :=
  (State.restarted_view h State.besideRestart (fun _ _ _ => rfl) (fun _ _ => rfl) fun _ => rfl).trans
    (State.hallEntered_besideRestart h)

theorem State.restarted_hall : s.restarted.txs.hall = s.hallAfterRestart := by
  obtain ⟨hall, -⟩ := s.hallEntered_blocks
  exact (State.restarted_view h (fun t => t.txs.hall) (fun _ _ _ => rfl) (fun _ _ => rfl) fun _ => rfl).trans hall

theorem State.restarted_entries : s.restarted.sch.staged.entries = s.sch.staged.entries := by
  obtain ⟨-, -, -, entries, -⟩ := State.zonesTold_kept h
  obtain ⟨-, -, sch, -⟩ := s.hallEntered_blocks
  rw [State.restarted_view h (fun t => t.sch.staged.entries) (fun _ _ _ => rfl) (fun _ _ => rfl) fun _ => rfl, sch, entries]

theorem State.restarted_surveyed : s.restarted.swb.surveyed = false := by
  obtain ⟨-, is⟩ | ⟨-, due, q, is⟩ := State.restarted_cases h
  · obtain ⟨-, -, -, -, told⟩ := State.zonesTold_kept h
    obtain ⟨-, -, -, swb⟩ := s.hallEntered_blocks
    rw [is, swb, told]
    rfl
  · rw [is]
    rfl

/-- The ports after RESTART: the notices of the open zones, and the hall state entered. -/
theorem State.restarted_port (port : Port) : s.restarted.port port = ((s.port port).restarted).told
    (s.restartNotices ++ [.notice s.clk.day s.clk.sec (.hallState s.txs.hall s.hallAfterRestart .restart)]) := by
  obtain ⟨beside, txs, -⟩ := State.zonesTold_kept h
  have clk : s.zonesTold.clk = s.clk := (State.clk_of_besideRestart beside).trans rfl
  have before : s.zonesTold.txs.hall = s.txs.hall := by rw [txs]; rfl
  have few : s.restartNotices.length ≤ 8 := by
    rw [State.restartNotices, List.length_map]
    exact (List.length_filter_le _ _).trans (by decide)
  have short : (s.zonesTold.port port).queue.length < 63 := by
    have queue : (s.zonesTold.port port).queue = s.restartNotices := by
      rw [State.zonesTold_port h]
      rfl
    rw [queue]
    omega
  calc s.restarted.port port
    _ = s.hallEntered.port port :=
      State.restarted_view h (fun t => t.port port) (fun _ _ _ => by cases port <;> rfl) (fun _ _ => by cases port <;> rfl)
        fun _ => by cases port <;> rfl
    _ = (s.zonesTold.port port).told
        [.notice s.zonesTold.clk.day s.zonesTold.clk.sec (.hallState s.zonesTold.txs.hall s.hallAfterRestart .restart)] := by
      rw [State.hallEntered, State.toHall_port short]
    _ = _ := by rw [State.zonesTold_port h, PortState.told_told, clk, before]

/-- A transmitter is asked for its status by RESTART. -/
def State.askedAtRestart (s : State) (n : TxId) : Prop := s.hallAfterRestart = .surveying ∧ s.txDefined n = true

/-- What RESTART leaves of a view of one transmitter that the survey's STATUS-ASK changes. -/
theorem State.restarted_at {β : Type} (view : TxId → State → β) (g : β → β)
    (same : ∀ n t, view n (State.statusAsked n t) = g (view n t))
    (other : ∀ n m t, m ≠ n → view m (State.statusAsked n t) = view m t)
    (marks : ∀ n due q t, view n (State.surveyMarked due q t) = view n t)
    (queues : ∀ n t, view n (State.allCallQueued t) = view n t) (n : TxId) :
    (s.askedAtRestart n → view n s.restarted = g (view n s.hallEntered)) ∧
      (¬ s.askedAtRestart n → view n s.restarted = view n s.hallEntered) := by
  obtain ⟨quiet, is⟩ | ⟨surveying, due, q, is⟩ := State.restarted_cases h
  · exact ⟨fun asked => absurd asked.1 quiet, fun _ => by rw [is]⟩
  · have at_ := State.each_at view g same other s.definedTx_nodup n (s.hallEntered.surveyMarked due q)
    rw [is, queues, at_, marks]
    exact ⟨fun asked => if_pos (State.mem_definedTx.mpr asked.2),
      fun unasked => if_neg fun mem => unasked ⟨surveying, State.mem_definedTx.mp mem⟩⟩

theorem State.restarted_ctx (n : TxId) :
    (s.askedAtRestart n → s.restarted.ctx n = ((s.ctx n).restarted).asked s.now) ∧
      (¬ s.askedAtRestart n → s.restarted.ctx n = (s.ctx n).restarted) := by
  have now : s.hallEntered.now = s.now := by
    simp only [State.now, State.clk_of_besideRestart (State.hallEntered_besideRestart h)]
    rfl
  obtain ⟨asked, unasked⟩ := State.restarted_at h (fun n t => (t.ctx n, t.now)) (fun x => (x.1.asked x.2, x.2))
    (fun n t => congrArg (·, t.now) (t.statusAsked_ctx n))
    (fun n m t other => congrArg (·, t.now) (t.statusAsked_ctx_ne n m other)) (fun _ _ _ _ => rfl) (fun _ _ => rfl) n
  simp only [now, State.hallEntered_ctx h, Prod.mk.injEq] at asked unasked
  exact ⟨fun a => (asked a).1, fun u => (unasked u).1⟩

/-- A part of a context that a STATUS-ASK does not write. -/
theorem State.restarted_part {β : Type} (part : Ctx → β) (kept : ∀ now c, part (Ctx.asked now c) = part c) (n : TxId) :
    part (s.restarted.ctx n) = part (s.ctx n).restarted := by
  obtain ⟨asked, unasked⟩ := State.restarted_ctx h n
  by_cases a : s.askedAtRestart n
  · rw [asked a, kept]
  · rw [unasked a]

theorem State.restarted_txTimers (n : TxId) :
    (s.askedAtRestart n → s.restarted.tim.tx[n] = TxTimers.put .accept ⟨true, 1000, 1000⟩ s.linesWatched.tim.tx[n]) ∧
      (¬ s.askedAtRestart n → s.restarted.tim.tx[n] = s.linesWatched.tim.tx[n]) := by
  obtain ⟨-, -, tim, -⟩ := State.zonesTold_kept h
  obtain ⟨-, same, -⟩ := s.hallEntered_blocks
  have entered : s.hallEntered.tim = s.linesWatched.tim := same.trans tim
  have at_ := State.restarted_at h (fun n t => t.tim.tx[n]) (TxTimers.put .accept ⟨true, 1000, 1000⟩)
    (fun n t => Vector.getElem_set_self ..) (fun n m t other => getElem_set_of_ne _ other _) (fun _ _ _ _ => rfl)
    (fun _ _ => rfl) n
  simpa only [entered] using at_

/-- The survey's STATUS-ASK starts the order accept channel and no other (R82). -/
theorem State.restarted_txChan (n : TxId) {ch : TxChan} (other : ch ≠ .accept) :
    s.restarted.chan (.tx n ch) = (s.linesWatched.tim.tx[n]).get ch := by
  have unwritten (v : Chan) (x : TxTimers) : (x.put .accept v).get ch = x.get ch := by
    cases ch with
    | accept => exact absurd rfl other
    | _ => rfl
  obtain ⟨asked, unasked⟩ := State.restarted_txTimers h n
  have chan : s.restarted.chan (.tx n ch) = (s.restarted.tim.tx[n]).get ch := rfl
  by_cases a : s.askedAtRestart n
  · rw [chan, asked a, unwritten]
  · rw [chan, unasked a]

theorem State.restarted_silence (n : TxId) :
    s.restarted.chan (.tx n .silence) = if s.txDefined n = true then ⟨true, 3000, 3000⟩ else .stopped := by
  rw [State.restarted_txChan h n (by decide), State.linesWatched_tim]
  split <;> rfl

theorem State.restarted_stopped (n : TxId) {ch : TxChan} (accept : ch ≠ .accept) (silence : ch ≠ .silence) :
    s.restarted.chan (.tx n ch) = .stopped := by
  rw [State.restarted_txChan h n accept, State.linesWatched_tim]
  cases ch with
  | accept => exact absurd rfl accept
  | silence => exact absurd rfl silence
  | _ => split <;> rfl

theorem State.restarted_accept (n : TxId) :
    (s.askedAtRestart n → s.restarted.chan (.tx n .accept) = ⟨true, 1000, 1000⟩) ∧
      (¬ s.askedAtRestart n → s.restarted.chan (.tx n .accept) = .stopped) := by
  obtain ⟨asked, unasked⟩ := State.restarted_txTimers h n
  have chan : s.restarted.chan (.tx n .accept) = (s.restarted.tim.tx[n]).accept := rfl
  refine ⟨fun a => ?_, fun u => ?_⟩
  · rw [chan, asked a]
    rfl
  · rw [chan, unasked u, State.linesWatched_tim]
    split <;> rfl

/-- No channel of the hall runs after RESTART. -/
theorem State.restarted_hallChan {ch : ChanId} (hallwide : ∀ n k, ch ≠ .tx n k) : s.restarted.chan ch = .stopped := by
  have kept (n : TxId) (k : TxChan) (ms : Nat) (t : State) : (State.startChan (.tx n k) ms t).chan ch = t.chan ch := by
    cases ch with
    | tx m j => exact absurd rfl (hallwide m j)
    | travel act => cases act <;> rfl
    | gap port => cases port <;> rfl
    | busAnswer => rfl
    | sync => rfl
  obtain ⟨-, -, tim, -⟩ := State.zonesTold_kept h
  obtain ⟨-, entered, -⟩ := s.hallEntered_blocks
  calc s.restarted.chan ch
    _ = s.hallEntered.chan ch :=
      State.restarted_view h (fun t => t.chan ch) (fun _ _ _ => rfl) (fun n t => kept n .accept 1000 t) fun _ => rfl
    _ = s.linesWatched.chan ch := by rw [State.chan, entered, tim, State.chan]
    _ = s.restartValues.chan ch := State.linesWatched_view (fun t => t.chan ch) (fun n t => kept n .silence 3000 t) s
    _ = .stopped := Timers.stopped_get ch

/-! ### What RESTART leaves of one transmitter and of one antenna -/

theorem State.restarted_records (n : TxId) : s.restarted.plan n = none ∧ s.restarted.occ n = ⟨none, none⟩ ∧
    s.restarted.prot n = Prot.initial ∧ s.restarted.snaps[n] = none ∧ s.restarted.pos (.row n) = .unknown ∧
    s.restarted.entry (.row n) = if s.txDefined n = true then some .initial else none := by
  have beside := State.restarted_besideRestart h
  obtain ⟨-, snaps, csq, amx, rfp⟩ := State.blocks_of_besideRestart beside
  obtain ⟨-, -, -, -, occ⟩ := State.sch_of_besideRestart beside
  rw [State.entry_of_besideRestart beside, State.plan, csq, State.occ, occ, State.prot, rfp, snaps, State.pos, amx]
  exact ⟨Vector.getElem_replicate .., Vector.getElem_replicate .., Vector.getElem_replicate .., Vector.getElem_replicate ..,
    Vector.getElem_replicate .., s.restartValues_row n⟩

theorem State.restarted_antenna (a : AntId) : s.restarted.trips a = [] ∧ s.restarted.pos (.sel a) = .unknown ∧
    s.restarted.pos (.beam a) = .unknown ∧
    s.restarted.entry (.sel a) = (if s.antDefined a = true then some .initial else none) ∧
    s.restarted.entry (.beam a) = (if s.beamDefined a = true then some .initial else none) ∧
    s.restarted.run a = if s.antDefined a = true then some ⟨.inService, none, [], []⟩ else none := by
  have beside := State.restarted_besideRestart h
  obtain ⟨-, -, -, amx, rfp⟩ := State.blocks_of_besideRestart beside
  rw [State.entry_of_besideRestart beside, State.entry_of_besideRestart beside, State.trips, rfp, State.pos, State.pos,
    State.run, amx]
  exact ⟨Vector.getElem_replicate .., Vector.getElem_replicate .., Vector.getElem_replicate .., Vector.getElem_ofFn ..,
    Vector.getElem_ofFn .., Vector.getElem_ofFn ..⟩

theorem State.restarted_zone (z : ZoneId) : s.restarted.amx.zone[z] = s.zoneSampled z := by
  obtain ⟨-, -, -, amx, -⟩ := State.blocks_of_besideRestart (State.restarted_besideRestart h)
  rw [amx]
  exact Vector.getElem_ofFn ..

theorem State.restarted_outstanding (n : TxId) :
    (s.askedAtRestart n → (s.restarted.ctx n).outstanding = some ⟨.statusAsk, s.now, .txs, .unknown, 0⟩) ∧
      (¬ s.askedAtRestart n → (s.restarted.ctx n).outstanding = none) := by
  obtain ⟨asked, unasked⟩ := State.restarted_ctx h n
  refine ⟨fun a => ?_, fun u => ?_⟩
  · rw [asked a]
    rfl
  · rw [unasked u]
    rfl

/-- What a context holds after RESTART, but for the STATUS-ASK of the survey (R80). -/
theorem State.restarted_context (n : TxId) :
    let c := s.restarted.ctx n
    c.state = .unknown ∧ c.rf = .unsure ∧ c.stored = (s.ctx n).stored ∧ c.trim = (s.ctx n).trim ∧ c.lineUp = true ∧
      c.drive = 0 ∧ c.deferred = none ∧ c.source = sourceOf (s.ctx n).stored ∧ c.tuned = none ∧ c.tap = none ∧
      c.owed = false ∧ c.last = none ∧ c.cause = none ∧ c.declined = false := by
  have part {β : Type} (part : Ctx → β) (kept : ∀ now c, part (Ctx.asked now c) = part c) :=
    State.restarted_part h part kept n
  exact ⟨part Ctx.state fun _ _ => rfl, part Ctx.rf fun _ _ => rfl, part Ctx.stored fun _ _ => rfl,
    part Ctx.trim fun _ _ => rfl, part Ctx.lineUp fun _ _ => rfl, part Ctx.drive fun _ _ => rfl,
    part Ctx.deferred fun _ _ => rfl, part Ctx.source fun _ _ => rfl, part Ctx.tuned fun _ _ => rfl,
    part Ctx.tap fun _ _ => rfl, part Ctx.owed fun _ _ => rfl, part Ctx.last fun _ _ => rfl,
    part Ctx.cause fun _ _ => rfl, part Ctx.declined fun _ _ => rfl⟩

end Restart

end Sys2Proof.Machine

namespace Sys2Proof.Proofs
open Sys2Proof Sys2Proof.Machine Sys2Proof.Claims

/-- A reply changes nothing of its port but the reply slot. -/
theorem replied_port (port at_ : Port) (tag kind : Byte) (res : Result) (t : State) :
    ((replied port tag kind res t).port at_).rx = (t.port at_).rx ∧
      ((replied port tag kind res t).port at_).waiting = (t.port at_).waiting ∧
      ((replied port tag kind res t).port at_).queue = (t.port at_).queue := by
  cases port <;> cases at_ <;> exact ⟨rfl, rfl, rfl⟩

theorem exec_restart {s : State} (free : portFree .a s) (tag : Byte) :
    exec (.restart .a tag) s = .next (replied .a tag 0x3F (.accepted .empty) s.restarted) :=
  exec_request .restart rfl free (s.permitted_a _) rfl

/-- Settles O58, by the stages of RESTART: what none of them writes (`restarted_besideRestart`), and the contexts, channels and
ports by what each stage does to one. -/
theorem restartKeepsAndReturns : Obligations.RestartKeepsAndReturns := by
  intro s tag free sweeps
  refine ⟨_, exec_restart free tag, ⟨_, rfl, rfl, rfl⟩, ?_⟩
  have beside := State.restarted_besideRestart sweeps
  obtain ⟨pins, -, csq, amx, -⟩ := State.blocks_of_besideRestart beside
  obtain ⟨active, arming, lastGen, bookings, -⟩ := State.sch_of_besideRestart beside
  obtain ⟨queue, trans⟩ := State.bus_of_besideRestart beside
  have hall := State.restarted_hall sweeps
  simp only [replied_hds, replied_clk, replied_pins, replied_sch, replied_csq, replied_ctx, replied_plan, replied_occ,
    replied_prot, replied_snaps, replied_pos, replied_entry, replied_chan, replied_trips, replied_run, replied_amx,
    replied_swb, replied_txs, hall]
  refine ⟨(State.hds_of_besideRestart beside).trans rfl, (State.clk_of_besideRestart beside).trans rfl, pins.trans rfl,
    active.trans rfl, arming.trans rfl, lastGen.trans rfl, bookings.trans rfl, (congrArg Csq.hold csq).trans rfl,
    State.restarted_entries sweeps, fun n => ?_, State.restarted_antenna sweeps, (congrArg Amx.held amx).trans rfl,
    queue.trans rfl, trans.trans rfl, State.restarted_surveyed sweeps, ?_, ?_, ?_, fun port => ⟨?_, ?_⟩,
    State.restarted_zone sweeps, s.hallAfterRestart_eq⟩
  · obtain ⟨state, rf, stored, trim, lineUp, drive, deferred, source, tuned, tap, owed, last, cause, declined⟩ :=
      State.restarted_context sweeps n
    obtain ⟨plan, occ, prot, snap, row, entry⟩ := State.restarted_records sweeps n
    obtain ⟨sent, unsent⟩ := State.restarted_outstanding sweeps n
    obtain ⟨accepts, idle⟩ := State.restarted_accept sweeps n
    refine ⟨state, rf, stored, trim, lineUp, drive, deferred, plan, occ, prot, snap, row, source, tuned, tap, owed, last,
      cause, declined, entry, ?_, fun ch => ?_⟩
    · split
      case isTrue asked => exact sent asked
      case isFalse unasked => exact unsent unasked
    · cases ch with
      | silence => exact State.restarted_silence sweeps n
      | accept =>
        show s.restarted.chan _ = if _ then _ else _
        split
        case isTrue asked => exact accepts asked
        case isFalse unasked => exact idle unasked
      | _ => exact State.restarted_stopped sweeps n (by decide) (by decide)
  · exact fun act => State.restarted_hallChan sweeps fun _ _ same => (by cases same)
  · exact State.restarted_hallChan sweeps fun _ _ same => (by cases same)
  · exact State.restarted_hallChan sweeps fun _ _ same => (by cases same)
  · exact State.restarted_hallChan sweeps fun _ _ same => (by cases same)
  · obtain ⟨rx, waiting, queue⟩ := replied_port .a port tag 0x3F (.accepted .empty) s.restarted
    rw [rx, waiting, queue, State.restarted_port sweeps]
    exact ⟨rfl, rfl, rfl⟩

end Sys2Proof.Proofs
end

section
/-! PROOFS. The blocks' own work, one lemma for each operation: the banks and the changeover arming stand, bookings only
leave the list, and a notice that waits in a queue goes on waiting (R38, R55, R60, R76, R192). -/

namespace Sys2Proof.Machine
open Sys2Proof Sys2Proof.Claims

/-- Both banks, the changeover arming and the last generation. -/
def State.banks (s : State) : StagedBank × Option ActiveBank × Arming × Nat :=
  (s.sch.staged, s.sch.active, s.sch.arming, s.sch.lastGen)

/-- The blocks' own work leads from s to t: the banks and the arming stand, bookings only leave the list, and every notice
that waits in a queue goes on waiting. -/
def State.Works (s t : State) : Prop :=
  t.banks = s.banks ∧ t.sch.bookings.Sublist s.sch.bookings ∧ ∀ port nt, s.waits port nt → t.waits port nt

/-- What the relation speaks of. -/
def State.worked (s : State) : (StagedBank × Option ActiveBank × Arming × Nat) × List Booking × Lnk :=
  (s.banks, s.sch.bookings, s.lnk)

theorem State.Works.refl (s : State) : s.Works s := ⟨rfl, .refl _, fun _ _ => id⟩

section Works
variable {s₀ s : State} (h : s₀.Works s)
include h

/-- An operation that writes none of it. -/
theorem State.Works.same {t : State} (worked : t.worked = s.worked := by rfl) : s₀.Works t := by
  obtain ⟨banks, bookings, waits⟩ := h
  simp only [State.worked, Prod.mk.injEq] at worked
  obtain ⟨banksSame, bookingsSame, lnkSame⟩ := worked
  exact ⟨banksSame.trans banks, bookingsSame ▸ bookings,
    fun port nt w => State.waits_of_lnk (waits port nt w) lnkSame⟩

theorem State.Works.each {α : Type} {f : α → State → State} {l : List α} (step : ∀ x t, s₀.Works t → s₀.Works (f x t)) :
    s₀.Works (s.each l f) := State.each_keeps step l h

theorem State.Works.eachTx {f : TxId → State → State} (step : ∀ n t, s₀.Works t → s₀.Works (f n t)) :
    s₀.Works (s.eachTx f) := h.each step

/-! ### Machine/Ops.lean -/

theorem State.Works.post {nt : Notice} : s₀.Works (s.post nt) :=
  ⟨h.1, h.2.1, fun port old w => State.post_keeps_waits (h.2.2 port old w) nt⟩

theorem State.Works.toHall {a : HallState} {c : HallCause} : s₀.Works (s.toHall a c) :=
  State.Works.post (s := s.withHall a) h

theorem State.Works.withHall {a : HallState} : s₀.Works (s.withHall a) := h

theorem State.Works.updCtx {n : TxId} {f : Ctx → Ctx} : s₀.Works (s.updCtx n f) := h

theorem State.Works.setPlan {n : TxId} {p : Option Plan} : s₀.Works (s.setPlan n p) := h

theorem State.Works.updPlan {n : TxId} {f : Plan → Plan} : s₀.Works (s.updPlan n f) := h

theorem State.Works.updProt {n : TxId} {f : Prot → Prot} : s₀.Works (s.updProt n f) := h

theorem State.Works.setTrips {a : AntId} {l : List (TxId × Nat)} : s₀.Works (s.setTrips a l) := h

theorem State.Works.setRun {a : AntId} {r : Option AntRun} : s₀.Works (s.setRun a r) := h

theorem State.Works.updRun {a : AntId} {f : AntRun → AntRun} : s₀.Works (s.updRun a f) := h

theorem State.Works.updOcc {n : TxId} {f : Occ → Occ} : s₀.Works (s.updOcc n f) := h

theorem State.Works.setChan {ch : ChanId} {v : Chan} : s₀.Works (s.setChan ch v) := h

theorem State.Works.startChan {ch : ChanId} {ms : Nat} : s₀.Works (s.startChan ch ms) := h

theorem State.Works.stopChan {ch : ChanId} : s₀.Works (s.stopChan ch) := h

theorem State.Works.retrigger {ch : ChanId} : s₀.Works (s.retrigger ch) := by
  unfold State.retrigger
  dsimp only
  split
  exacts [h.setChan, h]

theorem State.Works.setEntry {act : ActId} {e : Option ActEntry} : s₀.Works (s.setEntry act e) := by
  unfold State.setEntry
  split <;> exact h.same

theorem State.Works.updEntry {act : ActId} {f : ActEntry → ActEntry} : s₀.Works (s.updEntry act f) := h.setEntry

theorem State.Works.setPos {act : ActId} {q : Pos} : s₀.Works (s.setPos act q) := by
  unfold State.setPos
  split <;> exact h.same

theorem State.Works.toState {n : TxId} {st : CtxState} : s₀.Works (s.toState n st) := h.updCtx

theorem State.Works.toFaulted {n : TxId} {f : FaultCause} : s₀.Works (s.toFaulted n f) := h.toState.updCtx

theorem State.Works.stopRamp {n : TxId} : s₀.Works (s.stopRamp n) := h.stopChan.updCtx

/-! ### Machine/Records.lean -/

theorem State.Works.newRecord {n : TxId} {r : OccRec} : s₀.Works (s.newRecord n r) := h.updOcc

theorem State.Works.setStatus {n : TxId} {id : TargetId} {st : OccStatus} : s₀.Works (s.setStatus n id st) := h.updOcc

theorem State.Works.unbook {p : Booking → Bool} :
    s₀.Works { s with sch := { s.sch with bookings := s.sch.bookings.filter p } } :=
  ⟨h.1, List.Sublist.trans List.filter_sublist h.2.1, h.2.2⟩

theorem State.Works.bookingLeaves {id : Nat} {cause : BookEnd} : s₀.Works (s.bookingLeaves id cause) := by
  unfold State.bookingLeaves
  split
  exacts [h.unbook.post, h]

theorem State.Works.targetBookingLeaves {id : TargetId} {cause : BookEnd} : s₀.Works (s.targetBookingLeaves id cause) := by
  unfold State.targetBookingLeaves
  repeat' split
  exacts [h.bookingLeaves, h, h]

theorem State.Works.recordLive {n : TxId} {id : TargetId} : s₀.Works (s.recordLive n id) := by
  unfold State.recordLive
  repeat' split
  exacts [h.updOcc.post, h, h]

theorem State.Works.recordLost {n : TxId} {id : TargetId} {cause : Cause} : s₀.Works (s.recordLost n id cause) := by
  unfold State.recordLost
  split
  · split
    · split <;> exact h.setStatus.post.targetBookingLeaves
    · exact h
  · exact h

theorem State.Works.recordDone {n : TxId} {id : TargetId} {why : DoneReason} : s₀.Works (s.recordDone n id why) := by
  unfold State.recordDone
  repeat' split
  exacts [h.setStatus.post, h.setStatus, h, h]

theorem State.Works.endBookings {n : TxId} : s₀.Works (s.endBookings n) :=
  h.each (f := fun (b : Booking) t => t.bookingLeaves b.id .source) fun _ _ ht => ht.bookingLeaves

/-! ### Machine/Matrix.lean -/

theorem State.Works.takeAnt {a : AntId} {o : Own} : s₀.Works (s.takeAnt a o) := h.updRun

theorem State.Works.grant {a : AntId} {c : Claim} : s₀.Works (s.grant a c) := h.takeAnt.post

theorem State.Works.offer {a : AntId} : s₀.Works (s.offer a) := by
  unfold State.offer
  repeat' split
  exacts [h.updRun.grant.updPlan, h, h, h]

theorem State.Works.withdrawFrom {a : AntId} {n : TxId} : s₀.Works (s.withdrawFrom a n) := by
  unfold State.withdrawFrom
  repeat' split
  exacts [h.updRun.offer, h.updRun, h]

theorem State.Works.withdrawClaim {n : TxId} : s₀.Works (s.withdrawClaim n) := by
  unfold State.withdrawClaim
  split
  exacts [h.withdrawFrom, h]

theorem State.Works.offerReservation {n : TxId} : s₀.Works (s.offerReservation n) := by
  unfold State.offerReservation
  split
  exacts [h.offer, h]

theorem State.Works.endOwnership {a : AntId} : s₀.Works (s.endOwnership a) := by
  unfold State.endOwnership
  split
  exacts [h.updRun.offer.offerReservation, h]

theorem State.Works.retell {m : Held} : s₀.Works (s.retell m) := h

theorem State.Works.dropHeld {p : Held → Bool} : s₀.Works (s.dropHeld p) := h.same.each fun _ _ ht => ht.retell

theorem State.Works.endFlight {act : ActId} : s₀.Works (s.endFlight act) := h.same.each fun _ _ ht => ht.retell

/-! ### Machine/Changeover.lean -/

theorem State.Works.leaveTripped {n : TxId} : s₀.Works (s.leaveTripped n) := by
  unfold State.leaveTripped
  dsimp only
  split
  exacts [h.toState, h]

theorem State.Works.endTrip {n : TxId} : s₀.Works (s.endTrip n) := h.updCtx.leaveTripped

theorem State.Works.stopRecycle {n : TxId} : s₀.Works (s.stopRecycle n) := by
  unfold State.stopRecycle
  split
  exacts [h.stopChan.updProt.endTrip, h]

theorem State.Works.removePlan {n : TxId} : s₀.Works (s.removePlan n) :=
  (h.withdrawClaim.dropHeld.setPlan (n := n) (p := none)).same

theorem State.Works.ownAs {n : TxId} {t : Setpoint} : s₀.Works (s.ownAs n t) := by
  unfold State.ownAs
  split
  exacts [h.updRun, h]

theorem State.Works.planDone {n : TxId} {p : Plan} : s₀.Works (s.planDone n p) := by
  unfold State.planDone
  dsimp only
  repeat' split
  exacts [h.ownAs.recordLive.removePlan, h.recordLive.removePlan, h.ownAs.removePlan, h.removePlan]

theorem State.Works.reachHold {n : TxId} {p : Plan} : s₀.Works (s.reachHold n p) := h.setPlan.post

theorem State.Works.settlePlan {n : TxId} : s₀.Works (s.settlePlan n) := by
  unfold State.settlePlan
  repeat' split
  exacts [h, h.planDone, h.reachHold, h, h]

theorem State.Works.endPhase {n : TxId} {ph : Phase} : s₀.Works (s.endPhase n ph) := by
  unfold State.endPhase
  repeat' split
  exacts [h.setPlan.settlePlan, h, h]

theorem State.Works.drawnDuration : s₀.Works s.drawnDuration := h

theorem State.Works.windDown {n : TxId} {cause : Cause} {predicted : Nat} {hp : HoldPoint} :
    s₀.Works (s.windDown n cause predicted hp) :=
  h.setPlan.settlePlan

theorem State.Works.abandon {n : TxId} {cause : Cause} : s₀.Works (s.abandon n cause) := by
  unfold State.abandon
  dsimp only
  repeat' split
  exacts [h.post.setPlan.withdrawClaim.dropHeld.recordLost.stopRecycle.windDown,
    h.post.setPlan.withdrawClaim.dropHeld.stopRecycle.windDown,
    h.post.setPlan.withdrawClaim.dropHeld.recordLost.stopRecycle.removePlan,
    h.post.setPlan.withdrawClaim.dropHeld.stopRecycle.removePlan, h]

theorem State.Works.liveLost {n : TxId} {cause : Cause} : s₀.Works (s.liveLost n cause) := by
  unfold State.liveLost
  split
  exacts [h.recordLost, h]

theorem State.Works.takeDown {n : TxId} {cause : Cause} : s₀.Works (s.takeDown n cause) := by
  unfold State.takeDown
  dsimp only
  split
  exacts [h.liveLost.stopRecycle.drawnDuration.windDown, h.liveLost.stopRecycle]

theorem State.Works.interrupt {n : TxId} {cause : Cause} : s₀.Works (s.interrupt n cause) := by
  unfold State.interrupt
  split
  exacts [h.takeDown, h]

theorem State.Works.causeReaches {n : TxId} {cause : Cause} : s₀.Works (s.causeReaches n cause) := by
  unfold State.causeReaches
  repeat' split
  exacts [h.removePlan, h, h.abandon, h.interrupt]

theorem State.Works.planActuatorFault {n : TxId} {act : ActId} : s₀.Works (s.planActuatorFault n act) := by
  unfold State.planActuatorFault
  repeat' split
  exacts [h.removePlan, h, h.abandon, h]

theorem State.Works.planRefused {n : TxId} {ph : Phase} {why : Refused} : s₀.Works (s.planRefused n ph why) := by
  unfold State.planRefused
  split
  · split
    exacts [h.causeReaches, h]
  · exact h

theorem State.Works.planMoved {act : ActId} {p : Place} {n : TxId} : s₀.Works (s.planMoved act p n) := by
  unfold State.planMoved
  dsimp only
  repeat' split
  exacts [h.setPlan, h.setPlan.endPhase, h, h]

theorem State.Works.moved {act : ActId} {p : Place} : s₀.Works (s.moved act p) := by
  unfold State.moved
  refine h.eachTx fun x t ht => ?_
  split
  exacts [ht, ht.planMoved]

/-! ### Machine/HallLine.lean -/

theorem State.Works.nameCause {n : TxId} {cause : Cause} : s₀.Works (s.nameCause n cause) := by
  unfold State.nameCause
  split
  exacts [h.causeReaches, h.takeDown]

theorem State.Works.recycleFails {n : TxId} {cause : Cause} : s₀.Works (s.recycleFails n cause) :=
  h.updProt.endTrip.nameCause

theorem State.Works.answer {n : TxId} {who : Asker} {o : Order} {why : Refused} : s₀.Works (s.answer n who o why) := by
  unfold State.answer
  repeat' split
  exacts [h.planRefused, h.recycleFails, h, h]

theorem State.Works.rampFails {n : TxId} {why : Refused} : s₀.Works (s.rampFails n why) := by
  unfold State.rampFails
  repeat' split
  exacts [h.stopRamp.planRefused, h.stopRamp.recycleFails, h.stopRamp.planRefused, h.stopRamp, h]

theorem State.Works.refuse {n : TxId} {who : Asker} {o : Order} {why : Refused} : s₀.Works (s.refuse n who o why) := by
  unfold State.refuse
  split
  exacts [h.rampFails.answer, h.answer]

theorem State.Works.sendNow {n : TxId} {who : Asker} {o : Order} : s₀.Works (s.sendNow n who o) := by
  unfold State.sendNow
  split
  exacts [h.startChan.updCtx.stopRamp.toState.updCtx.updProt, h.startChan.updCtx.updCtx,
    h.startChan.updCtx.stopRamp.startChan.updCtx.updProt, h.startChan.updCtx]

theorem State.Works.slot {n : TxId} {who : Asker} {o : Order} : s₀.Works (s.slot n who o) := h.updCtx

theorem State.Works.defer {n : TxId} {who : Asker} {o : Order} : s₀.Works (s.defer n who o) := by
  unfold State.defer
  repeat' split
  exacts [h.slot, h, h.refuse, h.slot, h.slot.answer]

theorem State.Works.askOrder {n : TxId} {who : Asker} {o : Order} : s₀.Works (s.askOrder n who o) := by
  unfold State.askOrder
  repeat' split
  exacts [h.refuse, h, h.defer, h.sendNow, h.updCtx, h.refuse, h]

theorem State.Works.sendDeferred {n : TxId} : s₀.Works (s.sendDeferred n) := by
  unfold State.sendDeferred
  dsimp only
  repeat' split
  exacts [h.updCtx.refuse, h.updCtx.sendNow, h]

theorem State.Works.txFault {n : TxId} {f : FaultCause} {unitCause : Option Nat} : s₀.Works (s.txFault n f unitCause) :=
  h.toFaulted.post.stopRecycle.causeReaches

theorem State.Works.stopWork {n : TxId} : s₀.Works (s.stopWork n) := h.stopChan.stopChan.stopRamp

theorem State.Works.rfOffUnlessOff {n : TxId} {who : Asker} : s₀.Works (s.rfOffUnlessOff n who) := by
  unfold State.rfOffUnlessOff
  split
  exacts [h, h.askOrder]

theorem State.Works.faultActions {n : TxId} {f : FaultCause} : s₀.Works (s.faultActions n f) :=
  h.rfOffUnlessOff.stopWork.txFault

theorem State.Works.startRamp {n : TxId} {k : RampKind} : s₀.Works (s.startRamp n k) := h.startChan.updCtx

theorem State.Works.rampEnd {n : TxId} : s₀.Works (s.rampEnd n) := by
  unfold State.rampEnd
  repeat' split
  exacts [h.stopRamp.toState.endPhase, h.stopRamp, h.stopRamp.endPhase, h]

theorem State.Works.rampStepped {n : TxId} : s₀.Works (s.rampStepped n) := by
  unfold State.rampStepped
  repeat' split
  exacts [h.rampEnd, h.updCtx.askOrder, h]

theorem State.Works.acceptEffect {n : TxId} {o : Outstanding} : s₀.Works (s.acceptEffect n o) := by
  unfold State.acceptEffect
  dsimp only
  split
  · exact h
  · split
    · split
      · split
        · split
          exacts [h.toState.updCtx, h.toState.startChan.updCtx]
        · exact h
      · exact h
    · split
      · split
        exacts [h.toState.startChan.updCtx, h]
      · exact h
    · split
      exacts [h.startChan, h]
    · split
      · split
        exacts [h.rampEnd, h]
      · exact h
    · exact h

theorem State.Works.answered {n : TxId} : s₀.Works (s.answered n) := h.stopChan.updCtx

theorem State.Works.accepted {n : TxId} : s₀.Works (s.accepted n) := by
  unfold State.accepted
  split
  exacts [h.answered.acceptEffect.sendDeferred, h]

theorem State.Works.rejectEffect {n : TxId} {o : Outstanding} : s₀.Works (s.rejectEffect n o) := by
  unfold State.rejectEffect
  dsimp only
  repeat' split
  exacts [h.updCtx.updCtx, h.updCtx.stopChan, h.updCtx.stopChan.txFault, h.updCtx, h.updCtx.toState.stopRamp.updCtx.refuse,
    h.updCtx.stopRamp.updCtx.refuse, h.updCtx.updCtx.refuse]

theorem State.Works.rejected {n : TxId} : s₀.Works (s.rejected n) := by
  unfold State.rejected
  split
  exacts [h.answered.rejectEffect.sendDeferred, h]

theorem State.Works.setTurn {n : TxId} {v : Turn} : s₀.Works (s.setTurn n v) := h

theorem State.Works.loseTurn {n : TxId} : s₀.Works (s.loseTurn n) := h

theorem State.Works.loseOrders {n : TxId} : s₀.Works (s.loseOrders n) := by
  unfold State.loseOrders
  dsimp only
  repeat' split
  exacts [h.updCtx.answer.answer, h.updCtx.answer, h.updCtx.answer, h.updCtx]

theorem State.Works.lineLost {n : TxId} {byAccept : Bool} : s₀.Works (s.lineLost n byAccept) :=
  have down := h.updCtx.stopChan.stopChan.stopWork.stopChan.updCtx.loseOrders.toState.updCtx.updProt.post
  down.stopRecycle.causeReaches.loseTurn

theorem State.Works.lineRestored {n : TxId} : s₀.Works (s.lineRestored n) := by
  unfold State.lineRestored
  dsimp only
  split
  exacts [h.updCtx.post.startChan.updCtx.sendNow.askOrder, h.updCtx.post.startChan.askOrder]

/-! ### Machine/MatrixEvents.lean -/

theorem State.Works.reserve {a : AntId} {c : Claim} : s₀.Works (s.reserve a c) := by
  unfold State.reserve
  dsimp only
  split
  exacts [h.updRun.post, h.updRun]

theorem State.Works.displace {a : AntId} {d : Claim} : s₀.Works (s.displace a d) := h.updRun.post.updPlan

theorem State.Works.enterQueue {a : AntId} {c : Claim} {t : State} (enters : s.enterQueue a c = some t) : s₀.Works t := by
  unfold State.enterQueue at enters
  repeat' split at enters
  all_goals cases enters
  exacts [h.reserve, h.displace.reserve]

theorem State.Works.entered {a : AntId} {c : Claim} : s₀.Works (s.entered a c).1 := by
  unfold State.entered
  split
  next t enters => exact h.enterQueue enters
  next => exact h

theorem State.Works.judgeClaim {a : AntId} {c : Claim} : s₀.Works (s.judgeClaim a c).1 := by
  unfold State.judgeClaim
  extract_lets unowned emptyQueue obstacle
  split
  · exact h.grant
  · split
    · split
      next t enters => exact (h.enterQueue enters).nameCause
      next => exact h
    · split
      exacts [h.entered, h]

theorem State.Works.claim {a : AntId} {c : Claim} : s₀.Works (s.claim a c).1 := by
  unfold State.claim
  repeat' split
  exacts [h, h, h, h.withdrawFrom.judgeClaim, h.judgeClaim]

theorem State.Works.withdrawAll {a : AntId} {cause : Cause} : s₀.Works (s.withdrawAll a cause) := by
  unfold State.withdrawAll
  split
  exacts [h.updRun.each fun _ _ ht => ht.causeReaches, h]

theorem State.Works.localOwn {n : TxId} : s₀.Works (s.localOwn n) := by
  unfold State.localOwn
  repeat' split
  exacts [h.updRun, h, h.takeAnt, h, h, h]

theorem State.Works.localFound {was : Pos} {act : ActId} : s₀.Works (s.localFound was act) := by
  unfold State.localFound
  repeat' split
  exacts [h, h.localOwn, h.localOwn, h]

theorem State.Works.localReturn {n : TxId} : s₀.Works (s.localReturn n) := by
  unfold State.localReturn
  split
  exacts [h.updRun, h]

theorem State.Works.grounded {act : ActId} {p : Place} : s₀.Works (s.grounded act p) := by
  unfold State.grounded
  split
  exacts [h.endOwnership, h]

theorem State.Works.queryFound {act : ActId} : s₀.Works (s.queryFound act) := by
  unfold State.queryFound
  repeat' split
  exacts [h, h, h.updRun, h.updRun]

theorem State.Works.askMove {who : MoveAsker} {act : ActId} {p : Place} : s₀.Works (s.askMove who act p) := by
  unfold State.askMove
  dsimp only
  split
  · split
    · split
      · split
        exacts [h.grounded.planMoved, h.planMoved]
      · split
        exacts [h.grounded.planMoved, h.planMoved]
    · exact h
  · split
    · split
      exacts [h.planActuatorFault, h]
    · exact h.same

theorem State.Works.askAgain : s₀.Works s.askAgain := by
  unfold State.askAgain
  refine h.same.each fun x t ht => ?_
  split
  · split
    exacts [ht.askMove, ht]
  · exact ht

theorem State.Works.recordAt {act : ActId} {p : Place} : s₀.Works (s.recordAt act p) :=
  h.setPos.grounded.queryFound.endFlight.moved.localFound.askAgain

theorem State.Works.hand {m : Held} : s₀.Works (s.hand m) := h.setPos.same

theorem State.Works.zoneTakes {n : TxId} : s₀.Works (s.zoneTakes n) := h.rfOffUnlessOff.causeReaches

theorem State.Works.zoneActs {a : AntId} : s₀.Works (s.zoneActs a) := by
  unfold State.zoneActs
  repeat' split
  exacts [h.zoneTakes, h, h]

theorem State.Works.zoneOpens {z : ZoneId} : s₀.Works (s.zoneOpens z) := h.same.post.each fun _ _ ht => ht.zoneActs

theorem State.Works.zoneCloses {z : ZoneId} : s₀.Works (s.zoneCloses z) := h.same.post.each fun _ _ ht => ht.offer

theorem State.Works.ownerCause {a : AntId} {cause : Cause} : s₀.Works (s.ownerCause a cause) := by
  unfold State.ownerCause
  split
  exacts [h.causeReaches, h]

theorem State.Works.aimersLose {a : AntId} {cause : Cause} : s₀.Works (s.aimersLose a cause) := by
  unfold State.aimersLose
  refine h.eachTx fun x t ht => ?_
  split
  exacts [ht.causeReaches, ht]

theorem State.Works.groundIfAway {a : AntId} : s₀.Works (s.groundIfAway a) := by
  unfold State.groundIfAway
  split
  exacts [h, h.askMove]

theorem State.Works.takeOut {a : AntId} : s₀.Works (s.takeOut a) := by
  unfold State.takeOut
  repeat' split
  exacts [h.updRun, h.updRun.withdrawAll.ownerCause.aimersLose.groundIfAway, h]

theorem State.Works.dropGrounding {a : AntId} : s₀.Works (s.dropGrounding a) := h.dropHeld.askAgain

theorem State.Works.dropFaulted {act : ActId} : s₀.Works (s.dropFaulted act) := h

theorem State.Works.faultReaches {act : ActId} {n : TxId} : s₀.Works (s.faultReaches act n) := by
  unfold State.faultReaches
  split
  exacts [h.planActuatorFault, h.causeReaches]

theorem State.Works.awaitersFault {act : ActId} : s₀.Works (s.awaitersFault act) := by
  unfold State.awaitersFault
  refine h.eachTx fun x t ht => ?_
  split
  exacts [ht.planActuatorFault, ht]

theorem State.Works.antFault {act : ActId} {a : AntId} : s₀.Works (s.antFault act a) := by
  unfold State.antFault
  dsimp only
  split
  exacts [h.updRun.withdrawAll.faultReaches.aimersLose, h.updRun.withdrawAll.aimersLose]

theorem State.Works.amxRecords {act : ActId} {carried : Option Place} : s₀.Works (s.amxRecords act carried) := by
  unfold State.amxRecords
  split
  exacts [h.dropFaulted.setPos.grounded, h.dropFaulted.setPos]

theorem State.Works.amxActs {was : Pos} {act : ActId} : s₀.Works (s.amxActs was act) := by
  unfold State.amxActs
  split
  exacts [h.antFault.awaitersFault.localFound, h.antFault.awaitersFault.localFound, h.faultReaches.awaitersFault.localFound]

theorem State.Works.suspectDecision {a : AntId} {txs : List TxId} : s₀.Works (s.suspectDecision a txs) := by
  unfold State.suspectDecision
  repeat' split
  exacts [h, h.updRun.post.withdrawAll.aimersLose, h.post, h]

/-! ### Machine/Protection.lean -/

theorem State.Works.drawn {n : TxId} : s₀.Works (s.drawn n) := by
  unfold State.drawn
  split
  exacts [h, h.same]

theorem State.Works.recomposed {n : TxId} : s₀.Works (s.recomposed n).1 := by
  unfold State.recomposed
  split
  exacts [h.drawn.updProt, h]

theorem State.Works.driveTo {n : TxId} : s₀.Works (s.driveTo n) := by
  unfold State.driveTo
  dsimp only
  repeat' split
  exacts [h, h.askOrder, h.startRamp, h, h.askOrder, h, h]

theorem State.Works.reshape {n : TxId} : s₀.Works (s.reshape n) := h.recomposed.driveTo

theorem State.Works.enterTrip {n : TxId} {a : AntId} : s₀.Works (s.enterTrip n a) := by
  unfold State.enterTrip
  dsimp only
  split
  exacts [h.setTrips.suspectDecision, h.setTrips]

theorem State.Works.noteTrip {n : TxId} {cause : TripCause} : s₀.Works (s.noteTrip n cause) := by
  unfold State.noteTrip
  repeat' split
  exacts [h.enterTrip, h, h]

theorem State.Works.tripServesPlan {n : TxId} : s₀.Works (s.tripServesPlan n) := by
  unfold State.tripServesPlan
  repeat' split
  exacts [h.setPlan, h, h]

theorem State.Works.tripAtTxs {n : TxId} : s₀.Works (s.tripAtTxs n) := by
  unfold State.tripAtTxs
  split
  exacts [h, h.askOrder.stopRamp.toState.tripServesPlan]

theorem State.Works.freshWindow {n : TxId} {d : TxDef} : s₀.Works (s.freshWindow n d) := by
  unfold State.freshWindow
  dsimp only
  repeat' split
  exacts [h.updProt, h, h.updProt, h]

theorem State.Works.countRecycle {n : TxId} : s₀.Works (s.countRecycle n).1 := by
  unfold State.countRecycle
  dsimp only
  repeat' split
  exacts [h.freshWindow.txFault, h.freshWindow.updProt.startChan, h]

theorem State.Works.tripDecision {n : TxId} {cause : TripCause} {m : Option Meas} :
    s₀.Works (s.tripDecision n cause m) := by
  unfold State.tripDecision
  dsimp only
  split
  exacts [h.tripAtTxs.updProt.noteTrip.countRecycle.post, h.tripAtTxs.updProt.noteTrip.endTrip.post]

theorem State.Works.localTrip {n : TxId} {cause : TripCause} : s₀.Works (s.localTrip n cause) := h.noteTrip.post

theorem State.Works.unitTrip {n : TxId} {cause : TripCause} : s₀.Works (s.unitTrip n cause) := by
  unfold State.unitTrip
  repeat' split
  exacts [h.localTrip, h.tripDecision, h]

theorem State.Works.tripReport {n : TxId} {cause : TripCause} : s₀.Works (s.tripReport n cause) := by
  unfold State.tripReport
  split
  exacts [h.updCtx.unitTrip, h]

theorem State.Works.foldTo {n : TxId} {level : Nat} {m : Meas} {recovered : Bool} :
    s₀.Works (s.foldTo n level m recovered) :=
  h.updProt.recomposed.post.driveTo

theorem State.Works.cleanWindow {n : TxId} {m : Meas} : s₀.Works (s.cleanWindow n m) := by
  unfold State.cleanWindow
  dsimp only
  repeat' split
  exacts [h.updProt, h.updProt.updProt, h.updProt.foldTo, h.updProt]

theorem State.Works.judge {n : TxId} {m : Meas} {e : Eval} : s₀.Works (s.judge n m e) := by
  unfold State.judge
  dsimp only
  split
  · split
    exacts [h.post, h]
  · split
    exacts [h.tripDecision, h.foldTo, h.updProt.post, h.cleanWindow]

theorem State.Works.closeWindow {n : TxId} : s₀.Works (s.closeWindow n) := by
  unfold State.closeWindow
  dsimp only
  repeat' split
  exacts [h.updProt.updProt, h.updProt.updProt, h.updProt.updProt.judge]

theorem State.Works.meter {n : TxId} {forward reflected : Nat} : s₀.Works (s.meter n forward reflected) := by
  unfold State.meter
  dsimp only
  repeat' split
  exacts [h.updProt.closeWindow, h.updProt, h]

theorem State.Works.recycleOn {n : TxId} {k : Comp} : s₀.Works (s.recycleOn n k) := h.updProt.post.askOrder

theorem State.Works.recycleExpired {n : TxId} : s₀.Works (s.recycleExpired n) := by
  unfold State.recycleExpired
  repeat' split
  exacts [h.updProt.recycleFails, h.updProt.recycleFails, h.updProt.drawn.recycleOn, h.updProt.recycleFails, h.updProt]

/-! ### Machine/Sequence.lean -/

theorem State.Works.submitClaim {n : TxId} : s₀.Works (s.submitClaim n) := by
  unfold State.submitClaim
  dsimp only
  split
  · split
    · split
      exacts [h.setPlan.claim.updPlan, h.setPlan.claim.updPlan, h.setPlan.claim.updPlan, h.setPlan.claim.causeReaches]
    · exact h
  · exact h

theorem State.Works.claimIfNeeded {n : TxId} : s₀.Works (s.claimIfNeeded n) := by
  unfold State.claimIfNeeded
  repeat' split
  exacts [h.setPlan, h.submitClaim, h, h]

theorem State.Works.resubmit : s₀.Works s.resubmit := by
  unfold State.resubmit
  split
  · refine h.eachTx fun x t ht => ?_
    split
    · split
      exacts [ht.submitClaim, ht]
    · exact ht
  · exact h

theorem State.Works.takeOverRamp {n : TxId} : s₀.Works (s.takeOverRamp n) := h.updCtx

theorem State.Works.changeover {n : TxId} {c : Changeover} : s₀.Works (s.changeover n c) := by
  unfold State.changeover
  split
  exacts [h, h.setPlan.takeOverRamp.claimIfNeeded.settlePlan]

theorem State.Works.flagsDue {n : TxId} : s₀.Works (s.flagsDue n) := by
  unfold State.flagsDue
  repeat' split
  exacts [h.setPlan.claimIfNeeded.settlePlan, h, h]

theorem State.Works.running {n : TxId} {ph : Phase} : s₀.Works (s.running n ph) := h.updPlan

theorem State.Works.planMove {n : TxId} {act : ActId} {p : Place} : s₀.Works (s.planMove n act p) := by
  unfold State.planMove
  dsimp only
  repeat' split
  exacts [h.setPlan, h.setPlan.askMove, h]

theorem State.Works.beginRampdown {n : TxId} : s₀.Works (s.beginRampdown n) := by
  unfold State.beginRampdown
  dsimp only
  repeat' split
  exacts [h, h.toState.startRamp, h.endPhase]

theorem State.Works.beginRfOff {n : TxId} : s₀.Works (s.beginRfOff n) := by
  unfold State.beginRfOff
  repeat' split
  exacts [h.endPhase, h, h.askOrder]

theorem State.Works.beginRelease {n : TxId} : s₀.Works (s.beginRelease n) := by
  unfold State.beginRelease
  split
  exacts [h.planMove, h.endPhase]

theorem State.Works.beginPathOut {n : TxId} {p : Plan} {t : Setpoint} : s₀.Works (s.beginPathOut n p t) := by
  unfold State.beginPathOut
  split
  · refine h.updPlan.each fun x t ht => ?_
    split
    · split
      exacts [ht.askMove, ht]
    · exact ht
  · exact h.endPhase

theorem State.Works.beginRampup {n : TxId} {t : Setpoint} : s₀.Works (s.beginRampup n t) := by
  unfold State.beginRampup
  dsimp only
  repeat' split
  exacts [h.updProt.planRefused, h.updProt.updProt.askOrder, h.updProt]

theorem State.Works.request {n : TxId} {ph : Phase} {p : Plan} : s₀.Works (s.request n ph p) := by
  unfold State.request
  split
  · split
    exacts [h.askOrder, h.endPhase]
  · exact h.beginRampdown
  · exact h.beginRfOff
  · exact h.planMove
  · exact h.beginRelease
  · split
    exacts [h.askOrder, h.endPhase]
  · exact h.submitClaim
  · split
    exacts [h.beginPathOut, h.endPhase]
  · exact h.planMove
  · exact h.updPlan.post
  · split
    exacts [h.beginRampup, h.endPhase]
  · exact h.settlePlan

theorem State.Works.phaseBegins {n : TxId} {ph : Phase} : s₀.Works (s.phaseBegins n ph) := by
  unfold State.phaseBegins
  repeat' split
  exacts [h.running.request, h, h]

theorem State.Works.withdrawForRetarget {n : TxId} {path : Option AntId} : s₀.Works (s.withdrawForRetarget n path) := by
  unfold State.withdrawForRetarget
  repeat' split
  exacts [h.withdrawClaim.updPlan, h, h]

theorem State.Works.retarget {n : TxId} {c : Changeover} : s₀.Works (s.retarget n c) := by
  unfold State.retarget
  repeat' split
  exacts [h.withdrawForRetarget.dropHeld.updPlan.askAgain, h, h]

theorem State.Works.retargetEffect {n : TxId} : s₀.Works (s.retargetEffect n) := by
  unfold State.retargetEffect
  repeat' split
  exacts [h, h.setPlan.claimIfNeeded.settlePlan, h, h]

theorem State.Works.matched {n : TxId} {t : Setpoint} : s₀.Works (s.matched n t) := h.ownAs.updProt.updCtx.reshape

/-! ### Machine/Context.lean -/

theorem State.Works.report {n : TxId} {isState : Bool} {f : State → State} (step : ∀ t, s₀.Works t → s₀.Works (f t)) :
    s₀.Works (s.report n isState f) := by
  unfold State.report
  repeat' split
  exacts [step _ h.retrigger, step _ h.lineRestored, h.lineRestored, h]

theorem State.Works.known {n : TxId} {f : State → State} (step : ∀ t, s₀.Works t → s₀.Works (f t)) :
    s₀.Works (s.known n f) := by
  unfold State.known
  split
  exacts [h, step s h]

theorem State.Works.noteState {n : TxId} {r : StateReport} : s₀.Works (s.noteState n r) := h.updCtx

theorem State.Works.rebuildTo {n : TxId} {st : CtxState} : s₀.Works (s.rebuildTo n st) := by
  unfold State.rebuildTo
  split
  exacts [h, h.stopChan.stopChan.toState]

theorem State.Works.rebuild {n : TxId} {r : StateReport} : s₀.Works (s.rebuild n r) := by
  unfold State.rebuild
  split
  · exact h.rebuildTo.updCtx
  · split
    · split
      exacts [h.rebuildTo.updCtx, h.rebuildTo.startChan.updCtx]
    · exact h
  · exact h.rebuildTo.updCtx
  · split
    exacts [h.rebuildTo.startChan.updCtx, h]
  · exact h.rebuildTo.updCtx
  · exact h.rebuildTo.updCtx
  · split
    exacts [h.rebuildTo.updCtx, h.rebuildTo]
  · exact h.stopWork.toFaulted

theorem State.Works.adoptOwn {n : TxId} {a : AntId} : s₀.Works (s.adoptOwn n a) := by
  unfold State.adoptOwn
  split
  · split
    exacts [h.updRun, h]
  · split
    exacts [h.takeAnt, h]

theorem State.Works.adopt {n : TxId} : s₀.Works (s.adopt n) := h.stopWork.toState.updCtx.updProt

theorem State.Works.lockOut {n : TxId} : s₀.Works (s.lockOut n) := by
  unfold State.lockOut
  dsimp only
  split
  exacts [h.rfOffUnlessOff.updCtx.toFaulted, h.rfOffUnlessOff.txFault]

theorem State.Works.groundStanding {n : TxId} : s₀.Works (s.groundStanding n) := h.each fun _ _ ht => ht.askMove

theorem State.Works.lineAdoption {n : TxId} : s₀.Works (s.lineAdoption n) := by
  unfold State.lineAdoption
  dsimp only
  repeat' split
  exacts [h.lockOut.groundStanding.post, h.lockOut.post, h.askOrder, h.adoptOwn.adopt,
    (h.each fun _ _ ht => ht.adoptOwn).adopt, h.adopt, h]

theorem State.Works.localTaken {n : TxId} : s₀.Works (s.localTaken n) := by
  unfold State.localTaken
  dsimp only
  repeat' split
  exacts [h.updCtx.stopWork.post.stopRecycle.causeReaches.localOwn,
    h.updCtx.answer.stopWork.post.stopRecycle.causeReaches.localOwn,
    h.updCtx.stopWork.post.stopRecycle.causeReaches.localOwn]

theorem State.Works.localReleased {n : TxId} : s₀.Works (s.localReleased n) := by
  unfold State.localReleased
  split
  exacts [h.updCtx.post.localReturn.endBookings, h.updCtx.post.localReturn]

theorem State.Works.keySeen {n : TxId} {r : StateReport} : s₀.Works (s.keySeen n r) := by
  unfold State.keySeen
  repeat' split
  exacts [h, h.localTaken, h.localReleased, h]

theorem State.Works.warmed {n : TxId} : s₀.Works (s.warmed n) := h.toState.endPhase

theorem State.Works.explained {n : TxId} {r : StateReport} : s₀.Works (s.explained n r) := by
  unfold State.explained
  dsimp only
  split
  · split
    · exact h.updCtx
    · split
      exacts [h.updCtx.warmed, h.updCtx]
    · split
      exacts [h.updCtx.warmed, h.updCtx.txFault]
  · split
    exacts [h.updCtx.toState.updCtx, h.updCtx]
  · split
    exacts [h.updCtx.toState.updCtx, h.updCtx]
  · exact h.updCtx

theorem State.Works.confirmed {n : TxId} {r : StateReport} : s₀.Works (s.confirmed n r) := by
  unfold State.confirmed
  dsimp only
  split
  · split
    exacts [h.stopChan.toState.updCtx.endPhase, h.stopChan.toState.endPhase]
  · exact h.stopChan.leaveTripped.endPhase

theorem State.Works.localShown {n : TxId} {r : StateReport} : s₀.Works (s.localShown n r) := by
  unfold State.localShown
  repeat' split
  exacts [h, h.faultActions, h, h.updCtx.unitTrip, h.updCtx, h]

theorem State.Works.localState {n : TxId} {r : StateReport} : s₀.Works (s.localState n r) := by
  unfold State.localState
  split
  exacts [h.localShown, h.localShown.rebuild]

theorem State.Works.checkState {n : TxId} {r : StateReport} : s₀.Works (s.checkState n r) := by
  unfold State.checkState
  split
  exacts [h.explained, h.faultActions]

theorem State.Works.judgeState {n : TxId} {r : StateReport} : s₀.Works (s.judgeState n r) := by
  unfold State.judgeState
  dsimp only
  repeat' split
  exacts [h, h.faultActions, h, h.unitTrip, h.checkState, h.checkState]

theorem State.Works.rowCheck {n : TxId} : s₀.Works (s.rowCheck n) := by
  unfold State.rowCheck
  repeat' split
  exacts [h.toFaulted, h.faultActions, h]

theorem State.Works.rebuildUnknown {n : TxId} {r : StateReport} : s₀.Works (s.rebuildUnknown n r) := by
  unfold State.rebuildUnknown
  dsimp only
  repeat' split
  exacts [h.rebuild.rowCheck.updCtx, h.rebuild.rowCheck.updCtx.lineAdoption, h.rebuild.rowCheck.updCtx.setTurn]

theorem State.Works.emergencyOff {n : TxId} {r : StateReport} : s₀.Works (s.emergencyOff n r) := by
  unfold State.emergencyOff
  split
  exacts [h.askOrder, h]

theorem State.Works.turnAnswered {n : TxId} : s₀.Works (s.turnAnswered n) := by
  unfold State.turnAnswered
  split
  exacts [h, h.setTurn]

theorem State.Works.rfFoundOff {n : TxId} {r : StateReport} {sent : Bool} : s₀.Works (s.rfFoundOff n r sent) := by
  unfold State.rfFoundOff
  split
  · split
    exacts [h.confirmed, h.leaveTripped]
  · exact h

theorem State.Works.digest {n : TxId} {r : StateReport} : s₀.Works (s.digest n r) := by
  unfold State.digest
  dsimp only
  split
  · split
    · exact h.noteState.localShown.localReleased.rfFoundOff.emergencyOff.turnAnswered
    · split
      · exact h.noteState.keySeen.rebuildUnknown.rfFoundOff.emergencyOff.turnAnswered
      · split
        exacts [h.noteState.keySeen.localState.rfFoundOff.emergencyOff.turnAnswered,
          h.noteState.keySeen.judgeState.rfFoundOff.emergencyOff.turnAnswered]
  · split
    · exact h.noteState.localShown.localReleased.emergencyOff.turnAnswered
    · split
      · exact h.noteState.keySeen.rebuildUnknown.emergencyOff.turnAnswered
      · split
        exacts [h.noteState.keySeen.localState.emergencyOff.turnAnswered,
          h.noteState.keySeen.judgeState.emergencyOff.turnAnswered]

theorem State.Works.tuned {n : TxId} {freq : Nat} : s₀.Works (s.tuned n freq) := by
  unfold State.tuned
  dsimp only
  repeat' split
  exacts [h.updCtx.stopChan.toState.updCtx.endPhase.flagsDue, h.updCtx.stopChan.txFault, h.updCtx.updCtx, h.updCtx,
    h.updCtx]

theorem State.Works.tuneFailed {n : TxId} {cause : Nat} : s₀.Works (s.tuneFailed n cause) := by
  unfold State.tuneFailed
  dsimp only
  split
  exacts [h.updCtx.stopChan.txFault, h.updCtx]

theorem State.Works.unitFault {n : TxId} {f : FaultCause} : s₀.Works (s.unitFault n f) := by
  unfold State.unitFault
  repeat' split
  exacts [h.updCtx, h, h.faultActions]

theorem State.Works.warmUpEnds {n : TxId} : s₀.Works (s.warmUpEnds n) := by
  unfold State.warmUpEnds
  dsimp only
  repeat' split
  exacts [h.warmed, h.updCtx, h]

theorem State.Works.tuneEnds {n : TxId} : s₀.Works (s.tuneEnds n) := by
  unfold State.tuneEnds
  split
  exacts [h.txFault.updCtx, h]

theorem State.Works.rfOffUnconfirmed {n : TxId} : s₀.Works (s.rfOffUnconfirmed n) := by
  unfold State.rfOffUnconfirmed
  split
  exacts [h, h.txFault]

theorem State.Works.clearRebuild {n : TxId} : s₀.Works (s.clearRebuild n) := by
  unfold State.clearRebuild
  split
  exacts [h.rebuild.updCtx, h.toState.updCtx]

theorem State.Works.judgeAdoption {n : TxId} : s₀.Works (s.judgeAdoption n) := by
  unfold State.judgeAdoption
  dsimp only
  repeat' split
  exacts [h.clearRebuild.takeAnt, h.clearRebuild, h.clearRebuild, h.post]

theorem State.Works.clearingAnswered {act : ActId} {n : TxId} : s₀.Works (s.clearingAnswered act n) := by
  unfold State.clearingAnswered
  dsimp only
  repeat' split
  exacts [h.updCtx.judgeAdoption, h.updCtx, h.updCtx, h.updCtx.clearRebuild, h, h.updCtx, h]

theorem State.Works.rowFound {n : TxId} : s₀.Works (s.rowFound n) := by
  unfold State.rowFound
  split
  exacts [h.clearingAnswered, h]

/-! ### Machine/Bus.lean -/

theorem State.Works.setTrans {t : Trans} : s₀.Works (s.setTrans t) := h

theorem State.Works.setQueue {q : List BusOrder} : s₀.Works (s.setQueue q) := h

theorem State.Works.fillQueries : s₀.Works s.fillQueries := by
  unfold State.fillQueries
  refine h.each fun x t ht => ?_
  split
  · split
    exacts [ht.updEntry.setQueue, ht]
  · exact ht

theorem State.Works.askQuery {act : ActId} {who : Requester} : s₀.Works (s.askQuery act who) := by
  unfold State.askQuery
  repeat' split
  exacts [h.updEntry, h.updEntry.setQueue, h.updEntry.updEntry, h]

theorem State.Works.answerQueries {act : ActId} {l : List Requester} : s₀.Works (s.answerQueries act l) := by
  unfold State.answerQueries
  refine h.each fun x t ht => ?_
  split
  exacts [ht.clearingAnswered, ht.eachTx fun _ _ ht => ht.clearingAnswered, ht]

theorem State.Works.handAt {act : ActId} {p : Place} : s₀.Works (s.handAt act p) := by
  unfold State.handAt
  dsimp only
  repeat' split
  exacts [h.rowFound, h.recordAt.rowFound, h, h.recordAt]

theorem State.Works.arrive {act : ActId} {p : Place} : s₀.Works (s.arrive act p) := h.stopChan.updEntry.handAt

theorem State.Works.rowFault {n : TxId} : s₀.Works (s.rowFault n) := by
  unfold State.rowFault
  dsimp only
  repeat' split
  exacts [h, h, h.rfOffUnlessOff.stopWork.updCtx, h.rfOffUnlessOff.stopWork.toFaulted.post.stopRecycle]

theorem State.Works.txsFault {act : ActId} : s₀.Works (s.txsFault act) := by
  unfold State.txsFault
  split
  exacts [h.rowFault, h]

theorem State.Works.busFault {act : ActId} {cause : ActFault} {unordered : Bool} {carried : Option Place} :
    s₀.Works (s.busFault act cause unordered carried) := by
  unfold State.busFault
  split
  exacts [h.setEntry.stopChan.setQueue.fillQueries.amxRecords.answerQueries.post.txsFault.amxActs, h]

theorem State.Works.answerAt {act : ActId} {p : Place} : s₀.Works (s.answerAt act p) := by
  unfold State.answerAt
  split
  exacts [h.stopChan.setEntry.handAt.answerQueries, h]

theorem State.Works.answerTravelling {act : ActId} : s₀.Works (s.answerTravelling act) := by
  unfold State.answerTravelling
  dsimp only
  repeat' split
  exacts [h.busFault, h.setEntry.startChan.answerQueries, h.setEntry.startChan.setPos.answerQueries, h]

theorem State.Works.queryAnswer {act : ActId} {at_ : Option Place} : s₀.Works (s.queryAnswer act at_) := by
  unfold State.queryAnswer
  split
  exacts [h.answerAt, h.answerTravelling]

theorem State.Works.busSurveyed : s₀.Works s.busSurveyed := h

theorem State.Works.allCallEnd : s₀.Works s.allCallEnd := by
  have closed : s₀.Works ((s.stopChan .busAnswer).setTrans .none) := h.stopChan.setTrans
  unfold State.allCallEnd
  dsimp only
  split
  exacts [closed, closed.same.busSurveyed]

theorem State.Works.nextTurn {act : ActId} : s₀.Works (s.nextTurn act) := by
  unfold State.nextTurn
  split
  exacts [h.setTrans.startChan, h.allCallEnd]

theorem State.Works.countBus {f : BusCounts → BusCounts} : s₀.Works (s.countBus f) := h

theorem State.Works.silentTurn {act : ActId} : s₀.Works (s.silentTurn act) := by
  unfold State.silentTurn
  split
  exacts [h.countBus.busFault, h]

theorem State.Works.turnAnswer {act : ActId} {at_ : Option Place} : s₀.Works (s.turnAnswer act at_) := by
  unfold State.turnAnswer
  dsimp only
  split
  · split
    · split
      exacts [h.countBus.arrive.updEntry.answerQueries, h.countBus.updEntry.answerQueries]
    · exact h.countBus.queryAnswer
  · exact h.countBus

theorem State.Works.allCallAnswer {turn act : ActId} {at_ : Option Place} : s₀.Works (s.allCallAnswer turn act at_) := by
  unfold State.allCallAnswer
  split
  exacts [h, (h.stopChan.each fun _ _ ht => ht.silentTurn).turnAnswer.nextTurn]

theorem State.Works.beginAllCall : s₀.Works s.beginAllCall := by
  unfold State.beginAllCall
  dsimp only
  split
  exacts [h.same.busSurveyed, h.same]

theorem State.Works.sendAllQuery : s₀.Works s.sendAllQuery := by
  unfold State.sendAllQuery
  dsimp only
  repeat' split
  exacts [h.same.setTrans.startChan, h.same.allCallEnd, h]

theorem State.Works.sendBusOrder {o : BusOrder} : s₀.Works (s.sendBusOrder o) := by
  unfold State.sendBusOrder
  split
  exacts [h.setQueue.startChan.setTrans.updEntry.startChan.fillQueries, h.setQueue.startChan.setTrans.fillQueries]

theorem State.Works.serve : s₀.Works s.serve := by
  unfold State.serve
  repeat' split
  exacts [h.sendBusOrder, h, h]

theorem State.Works.answersMove {act : ActId} : s₀.Works (s.answersMove act) := by
  unfold State.answersMove
  repeat' split
  exacts [h.stopChan.setTrans, h, h]

theorem State.Works.movingFrom {act : ActId} : s₀.Works (s.movingFrom act) := by
  unfold State.movingFrom
  dsimp only
  repeat' split
  exacts [h.answersMove.busFault, h.answersMove, h.answersMove]

theorem State.Works.arrivedFrom {act : ActId} {p : Place} : s₀.Works (s.arrivedFrom act p) := by
  unfold State.arrivedFrom
  dsimp only
  repeat' split
  exacts [h.answersMove.arrive, h.answersMove.busFault, h.answersMove.arrive, h.answersMove, h.answersMove.busFault,
    h.answersMove.updEntry.handAt, h.answersMove]

theorem State.Works.stuckFrom {act : ActId} {q : Place} : s₀.Works (s.stuckFrom act q) := by
  unfold State.stuckFrom
  dsimp only
  repeat' split
  exacts [h.answersMove.busFault, h.answersMove.updEntry.handAt, h.answersMove.busFault, h.answersMove]

theorem State.Works.strayPosition {act : ActId} {at_ : Option Place} : s₀.Works (s.strayPosition act at_) := by
  unfold State.strayPosition
  repeat' split
  exacts [h.updEntry.handAt, h, h]

theorem State.Works.positionFrom {act : ActId} {at_ : Option Place} : s₀.Works (s.positionFrom act at_) := by
  unfold State.positionFrom
  repeat' split
  exacts [h.stopChan.setTrans.queryAnswer, h.strayPosition, h.allCallAnswer, h.strayPosition]

theorem State.Works.answerExpired : s₀.Works s.answerExpired := by
  unfold State.answerExpired
  split
  exacts [h, h.setTrans.busFault, h.setTrans.busFault, h.silentTurn.nextTurn]

theorem State.Works.travelExpired {act : ActId} : s₀.Works (s.travelExpired act) := by
  unfold State.travelExpired
  repeat' split
  exacts [h.busFault, h.askQuery, h, h]

/-! ### Machine/Survey.lean -/

theorem State.Works.beginSurvey : s₀.Works s.beginSurvey := (h.same.each fun _ _ ht => ht.askOrder).beginAllCall

theorem State.Works.dropSurvey : s₀.Works s.dropSurvey := h

theorem State.Works.stopSurvey : s₀.Works s.stopSurvey := by
  unfold State.stopSurvey
  split
  exacts [h.dropSurvey.post, h]

theorem State.Works.strand {a : AntId} : s₀.Works (s.strand a) := by
  unfold State.strand
  repeat' split
  exacts [h.askMove, h.updRun.withdrawAll.aimersLose, h]

theorem State.Works.checkOne : s₀.Works s.checkOne.st :=
  List.foldlRecOn (motive := fun l : Lockouts => s₀.Works l.st) _ _ h fun (l : Lockouts) (hl : s₀.Works l.st) n _ => by
    split
    exacts [hl.lockOut.groundStanding, hl]

omit h in
theorem State.Works.checkTwo {l : Lockouts} (h : s₀.Works l.st) : s₀.Works l.checkTwo.st :=
  List.foldlRecOn (motive := fun k : Lockouts => s₀.Works k.st) _ _ h fun (k : Lockouts) (hk : s₀.Works k.st) n _ => by
    split
    exacts [hk.lockOut, hk]

theorem State.Works.finishSurvey {q : Survey} : s₀.Works (s.finishSurvey q) := by
  unfold State.finishSurvey
  extract_lets l1 one l2 three s3 stray s4 gone s5 pairs kept s6 adopted s7 gathered counts s8
  have checked : s₀.Works l2.st := h.checkOne.checkTwo
  have off : s₀.Works s3 := checked.each fun _ _ ht => ht.askOrder
  have stranded : s₀.Works s4 := off.each fun _ _ ht => ht.strand
  have ended : s₀.Works s5 := stranded.each fun _ _ ht => ht.endOwnership
  have owned : s₀.Works s6 := ended.each fun _ _ ht => ht.adoptOwn
  have aired : s₀.Works s7 := owned.each fun _ _ ht => ht.adopt
  have told : s₀.Works s8 := aired.each fun _ _ ht => ht.post
  exact told.dropSurvey.post.toHall

theorem State.Works.surveyEnds : s₀.Works s.surveyEnds := by
  unfold State.surveyEnds
  repeat' split
  exacts [h.finishSurvey, h, h]

theorem State.Works.haltedIfOff : s₀.Works s.haltedIfOff := by
  unfold State.haltedIfOff
  split
  exacts [h.toHall, h]

theorem State.Works.emergency : s₀.Works s.emergency := by
  unfold State.emergency
  exact ((h.same.toHall.each fun _ _ ht => ht.rfOffUnlessOff.stopRamp).eachTx fun _ _ ht => ht.causeReaches).stopSurvey

theorem State.Works.emergencyEnds : s₀.Works s.emergencyEnds := by
  unfold State.emergencyEnds
  split
  exacts [h.same.toHall, h.same]

/-! ### Machine/Evaluator.lean -/

theorem State.Works.endLive {n : TxId} : s₀.Works (s.endLive n).1 := by
  unfold State.endLive
  repeat' split
  exacts [h.recordDone.targetBookingLeaves, h, h]

theorem State.Works.expireBookings {n : TxId} : s₀.Works (s.expireBookings n) :=
  h.each (f := fun (b : Booking) t => t.bookingLeaves b.id .ended) fun _ _ ht => ht.bookingLeaves

theorem State.Works.noteDisabled {n : TxId} : s₀.Works (s.noteDisabled n) := by
  unfold State.noteDisabled
  dsimp only
  repeat' split
  exacts [h.newRecord.post, h, h]

theorem State.Works.bookkeep {n : TxId} : s₀.Works (s.bookkeep n).1 := h.endLive.expireBookings.noteDisabled

theorem State.Works.miss {n : TxId} {c : Cand} {why : MissCause} : s₀.Works (s.miss n c why) :=
  h.newRecord.post.targetBookingLeaves

theorem State.Works.link {n : TxId} {c : Cand} : s₀.Works (s.link n c) := h.matched.newRecord.post

theorem State.Works.changeoverToNone {n : TxId} : s₀.Works (s.changeoverToNone n) := h.drawnDuration.changeover

theorem State.Works.pend {n : TxId} {c : Cand} : s₀.Works (s.pend n c) := by
  unfold State.pend
  split
  exacts [h, h.newRecord]

theorem State.Works.gapNotice {n : TxId} {c : Cand} {ended : Option TargetId} : s₀.Works (s.gapNotice n c ended) := by
  unfold State.gapNotice
  dsimp only
  repeat' split
  exacts [h.post, h, h]

theorem State.Works.startToward {n : TxId} {c : Cand} {ended : Option TargetId} : s₀.Works (s.startToward n c ended) :=
  h.pend.gapNotice.changeover

theorem State.Works.idleDarken {n : TxId} : s₀.Works (s.idleDarken n) := by
  unfold State.idleDarken
  dsimp only
  repeat' split
  exacts [h.askOrder, h, h]

theorem State.Works.uncovered {n : TxId} {next : Option Cand} {ended : Option TargetId} :
    s₀.Works (s.uncovered n next ended) := by
  unfold State.uncovered
  repeat' split
  exacts [h, h.startToward, h, h, h.changeoverToNone]

theorem State.Works.takeUp {n : TxId} {c : Cand} {ended : Option TargetId} : s₀.Works (s.takeUp n c ended) := by
  unfold State.takeUp
  split
  · exact h.miss
  · split
    · exact h.link
    · split
      exacts [h.miss, h.startToward]

theorem State.Works.serveTarget {n : TxId} {ended : Option TargetId} : s₀.Works (s.serveTarget n ended) := by
  unfold State.serveTarget
  repeat' split
  exacts [h, h.takeUp, h.uncovered]

theorem State.Works.decideTx {n : TxId} {ended : Option TargetId} : s₀.Works (s.decideTx n ended) := by
  unfold State.decideTx
  split
  exacts [h.serveTarget, h.serveTarget.idleDarken]

theorem State.Works.decideHalting {n : TxId} : s₀.Works (s.decideHalting n) := by
  unfold State.decideHalting
  repeat' split
  exacts [h, h.uncovered, h.uncovered]

theorem State.Works.retargetTo {n : TxId} {p : Plan} : s₀.Works (s.retargetTo n p) := by
  unfold State.retargetTo
  dsimp only
  repeat' split
  exacts [h, h.pend.retarget, h.drawnDuration.retarget]

theorem State.Works.retargetCheck {n : TxId} {p : Plan} : s₀.Works (s.retargetCheck n p) := by
  unfold State.retargetCheck
  dsimp only
  repeat' split
  exacts [h, h.abandon.retargetTo, h.retargetTo, h.abandon, h]

theorem State.Works.decisionStage {n : TxId} {ended : Option TargetId} : s₀.Works (s.decisionStage n ended) := by
  unfold State.decisionStage
  repeat' split
  exacts [h, h.retargetCheck, h.decideTx, h.decideHalting]

theorem State.Works.evaluateTx {n : TxId} : s₀.Works (s.evaluateTx n) := h.bookkeep.decisionStage

theorem State.Works.evaluate : s₀.Works s.evaluate := h.each fun _ _ ht => ht.evaluateTx

/-! ### The requests' operations -/

theorem State.Works.elapse {k : Nat} : s₀.Works (s.elapse k) := h

/-! ### Machine/Description.lean -/

theorem State.Works.holdTaps {n : TxId} {d : TxDef} : s₀.Works (s.holdTaps n d) := by
  unfold State.holdTaps
  repeat' split
  exacts [h, h.updProt, h]

theorem State.Works.withTxDef {n : TxId} {d : TxDef} : s₀.Works (s.withTxDef n d) := h.holdTaps.same

theorem State.Works.recomputeMinima : s₀.Works s.recomputeMinima := h

theorem State.Works.actEnters {act : ActId} : s₀.Works (s.actEnters act) := h.setEntry.setPos

theorem State.Works.actLeaves {act : ActId} : s₀.Works (s.actLeaves act) := by
  have landed {t : State} (ht : s₀.Works t) (l : List Held) : s₀.Works { t with amx := { t.amx with flight := l } } := ht
  unfold State.actLeaves
  split
  · exact (landed h.setEntry.setPos.stopChan.setQueue.fillQueries.dropHeld _).answerQueries.askAgain
  · exact h

theorem State.Works.removeBookings {p : Booking → Bool} : s₀.Works (s.removeBookings p) :=
  h.each fun _ _ ht => ht.bookingLeaves

theorem State.Works.txEnters {n : TxId} : s₀.Works (s.txEnters n) := h.updCtx.updProt.actEnters.startChan.askOrder

theorem State.Works.lowerRecycle {n : TxId} {limit : Nat} : s₀.Works (s.lowerRecycle n limit) := h.updProt

theorem State.Works.txStored {n : TxId} {d : TxDef} : s₀.Works (s.txStored n d) := by
  unfold State.txStored
  split
  exacts [h.withTxDef.lowerRecycle, h.withTxDef.txEnters]

theorem State.Works.withoutTx {n : TxId} : s₀.Works (s.withoutTx n) := h.removePlan.actLeaves.same

theorem State.Works.txRemoved {n : TxId} : s₀.Works (s.txRemoved n) := h.withoutTx.removeBookings.updCtx.updProt.updOcc

theorem State.Works.zoneUse {was : Bool} {z : ZoneId} : s₀.Works (s.zoneUse was z) := by
  unfold State.zoneUse
  dsimp only
  repeat' split
  exacts [h.same, h.zoneOpens, h.same, h]

theorem State.Works.rederiveZones : s₀.Works s.rederiveZones := h.same.each fun _ _ ht => ht.zoneUse

theorem State.Works.beamFollows {a : AntId} {d : AntDef} : s₀.Works (s.beamFollows a d) := by
  unfold State.beamFollows
  repeat' split
  exacts [h.setPos, h, h.actEnters, h.actLeaves]

theorem State.Works.withAntDef {a : AntId} {d : Option AntDef} : s₀.Works (s.withAntDef a d) := h

theorem State.Works.antEnters {a : AntId} : s₀.Works (s.antEnters a) := h.setRun.setTrips.actEnters

theorem State.Works.antPlaced {a : AntId} {d : AntDef} : s₀.Works (s.antPlaced a d) := by
  unfold State.antPlaced
  split
  exacts [h.withAntDef.beamFollows, h.withAntDef.antEnters.beamFollows]

theorem State.Works.antStored {a : AntId} {d : AntDef} : s₀.Works (s.antStored a d) := by
  unfold State.antStored
  split
  exacts [h.antPlaced.rederiveZones.zoneActs, h.antPlaced.rederiveZones]

theorem State.Works.antCleared {a : AntId} : s₀.Works (s.antCleared a) := h.withdrawAll.actLeaves.actLeaves.removeBookings

theorem State.Works.withoutAnt {a : AntId} : s₀.Works (s.withoutAnt a) := h.antCleared.withAntDef.setRun.setTrips

/-! ### Machine/ClockRequests.lean -/

theorem State.Works.withTx {number position : Nat} {f : TxId → Answer} (step : ∀ n, s₀.Works (f n).st) :
    s₀.Works (s.withTx number position f).st := by
  unfold State.withTx
  repeat' split
  exacts [h, step _, h]

theorem State.Works.withAnt {number : Nat} {f : AntId → AntRun → Answer} (step : ∀ a r, s₀.Works (f a r).st) :
    s₀.Works (s.withAnt number f).st := by
  unfold State.withAnt
  repeat' split
  exacts [h, step _ _, h, h]

theorem State.Works.latchSlot {n : TxId} : s₀.Works (s.latchSlot n) := by
  unfold State.latchSlot
  split
  exacts [h, h.same]

theorem State.Works.latchAll {l : List TxId} : s₀.Works (s.latchAll l).st := h.each fun _ _ ht => ht.latchSlot

/-! ### Machine/Description.lean -/

theorem State.Works.reqReadTxDef {number : Nat} : s₀.Works (s.reqReadTxDef number).st := by
  unfold State.reqReadTxDef
  repeat' split
  exacts [h, h, h, h]

theorem State.Works.reqReadAntDef {number : Nat} : s₀.Works (s.reqReadAntDef number).st := by
  unfold State.reqReadAntDef
  split
  · exact h
  · split <;> exact h

/-! ### Machine/ClockRequests.lean -/

theorem State.Works.reqLatch {which : Option (List Nat)} : s₀.Works (s.reqLatch which).st := by
  unfold State.reqLatch
  repeat' split
  exacts [h.latchAll, h, h.latchAll, h]

theorem State.Works.reqReadSnapshot {number : Nat} : s₀.Works (s.reqReadSnapshot number).st := by
  unfold State.reqReadSnapshot
  repeat' split
  exacts [h, h.same, h, h]

/-! ### Machine/BankRequests.lean -/

theorem State.Works.reqReadEntry {bank : BankSel} {id : Nat} {mode : ReadMode} :
    s₀.Works (s.reqReadEntry bank id mode).st := by
  unfold State.reqReadEntry
  split
  · exact h
  · split <;> exact h

/-! ### Machine/ScheduleRequests.lean -/

theorem State.Works.storeSource {n : TxId} {src : Stored} : s₀.Works (s.storeSource n src) := by
  unfold State.storeSource
  split
  exacts [h.updCtx.endBookings, h.updCtx]

theorem State.Works.reqSetSource {number : Nat} {src : Stored} : s₀.Works (s.reqSetSource number src).st := by
  unfold State.reqSetSource
  refine h.withTx fun n => ?_
  split
  · exact h
  · split
    exacts [h, h.storeSource]

theorem State.Works.cancelRecord {b : Booking} : s₀.Works (s.cancelRecord b) := by
  unfold State.cancelRecord
  dsimp only
  repeat' split
  exacts [h.recordDone.changeoverToNone, h.recordDone, h]

theorem State.Works.reqCancelBooking {id : Nat} : s₀.Works (s.reqCancelBooking id).st := by
  unfold State.reqCancelBooking
  repeat' split
  exacts [h.bookingLeaves.cancelRecord, h, h]

theorem State.Works.reqReadOccurrence {number : Nat} : s₀.Works (s.reqReadOccurrence number).st := by
  unfold State.reqReadOccurrence
  refine h.withTx fun n => ?_
  exact h

theorem State.Works.setHold {l : List TxId} {hp : HoldPoint} : s₀.Works (s.setHold l hp).st := h.same

theorem State.Works.reqSetHoldPoint {which : Option Nat} {hp : HoldPoint} : s₀.Works (s.reqSetHoldPoint which hp).st := by
  unfold State.reqSetHoldPoint
  split
  · exact h.setHold
  · refine h.withTx fun n => ?_
    exact h.setHold

theorem State.Works.reqReleaseHold {number : Nat} : s₀.Works (s.reqReleaseHold number).st := by
  unfold State.reqReleaseHold
  refine h.withTx fun n => ?_
  split
  · split
    exacts [h.setPlan.settlePlan, h]
  · exact h

theorem State.Works.reqReadPlan {number : Nat} : s₀.Works (s.reqReadPlan number).st := by
  unfold State.reqReadPlan
  refine h.withTx fun n => ?_
  split <;> exact h

/-! ### Machine/HallRequests.lean -/

theorem State.Works.storeTrim {v : Nat} {n : TxId} : s₀.Works (s.storeTrim v n) := by
  unfold State.storeTrim
  repeat' split
  exacts [h.updCtx, h.updCtx.reshape, h.updCtx]

theorem State.Works.reqTrim {target : TrimTarget} {value : Nat} : s₀.Works (s.reqTrim target value).st := by
  unfold State.reqTrim
  split
  exacts [h, h.each fun _ _ ht => ht.storeTrim]

theorem State.Works.reqReadTrim {target : TrimTarget} : s₀.Works (s.reqReadTrim target).st := by
  unfold State.reqReadTrim
  split
  · exact h
  · split <;> exact h

theorem State.Works.clearByQuery {n : TxId} {l : List ActId} : s₀.Works (s.clearByQuery n l) :=
  h.updCtx.each fun _ _ ht => ht.askQuery

theorem State.Works.clearAdoption {n : TxId} : s₀.Works (s.clearAdoption n) := by
  unfold State.clearAdoption
  split
  exacts [h.clearByQuery, h]

theorem State.Works.freshRecycle {n : TxId} : s₀.Works (s.freshRecycle n) := h.updProt

theorem State.Works.clearedNow {n : TxId} : s₀.Works (s.clearedNow n).st := h.clearRebuild

theorem State.Works.clearFault {n : TxId} : s₀.Works (s.clearFault n).st := by
  unfold State.clearFault
  repeat' split
  exacts [h, h.freshRecycle.clearedNow, h.clearByQuery, h.clearAdoption, h.clearedNow]

theorem State.Works.reqClearFault {number : Nat} : s₀.Works (s.reqClearFault number).st := by
  unfold State.reqClearFault
  refine h.withTx fun n => ?_
  exact h.clearFault

theorem State.Works.reqReadTx {number : Nat} : s₀.Works (s.reqReadTx number).st := by
  unfold State.reqReadTx
  refine h.withTx fun n => ?_
  exact h

theorem State.Works.reqStartHall : s₀.Works s.reqStartHall.st := by
  unfold State.reqStartHall
  split
  exacts [h, h.toHall.beginSurvey]

theorem State.Works.haltTx {n : TxId} : s₀.Works (s.haltTx n) := by
  unfold State.haltTx
  dsimp only
  repeat' split
  exacts [h.abandon.takeDown, h.abandon, h.takeDown, h, h.takeDown, h]

theorem State.Works.haltNow : s₀.Works s.haltNow := h.each fun _ _ ht => ht.haltTx

theorem State.Works.reqHaltHall {now : Bool} : s₀.Works (s.reqHaltHall now).st := by
  unfold State.reqHaltHall
  repeat' split
  exacts [h.toHall.haltNow.haltedIfOff, h.toHall.haltedIfOff, h.haltNow.haltedIfOff, h.haltedIfOff, h]

theorem State.Works.reqServiceOut {number : Nat} : s₀.Works (s.reqServiceOut number).st := by
  unfold State.reqServiceOut
  refine h.withAnt fun a r => ?_
  exact h.takeOut

theorem State.Works.requery {a : AntId} {l : List ActId} : s₀.Works (s.requery a l) :=
  h.updRun.each fun _ _ ht => ht.askQuery

theorem State.Works.backInService {a : AntId} : s₀.Works (s.backInService a) := h.updRun.dropGrounding

theorem State.Works.bringIn {a : AntId} : s₀.Works (s.bringIn a).st := by
  unfold State.bringIn
  split
  exacts [h.backInService, h.requery.dropGrounding]

theorem State.Works.reqServiceIn {number : Nat} : s₀.Works (s.reqServiceIn number).st := by
  unfold State.reqServiceIn
  refine h.withAnt fun a r => ?_
  split
  exacts [h, h, h.bringIn, h.bringIn]

theorem State.Works.reqClearSuspect {number : Nat} : s₀.Works (s.reqClearSuspect number).st := by
  unfold State.reqClearSuspect
  refine h.withAnt fun a r => ?_
  split
  exacts [h.updRun.setTrips, h]

theorem State.Works.reqReadAnt {number : Nat} : s₀.Works (s.reqReadAnt number).st := by
  unfold State.reqReadAnt
  refine h.withAnt fun a r => ?_
  exact h.setTrips

theorem State.Works.postIfOpen {z : ZoneId} : s₀.Works (s.postIfOpen z) := by
  unfold State.postIfOpen
  split
  exacts [h.post, h]

theorem State.Works.enterHall : s₀.Works s.enterHall := by
  unfold State.enterHall
  split
  exacts [h.toHall.beginSurvey, h.toHall]

/-! ### Machine/Link.lean -/

theorem State.Works.reqLinkTest {port : Port} {count : Nat} : s₀.Works (s.reqLinkTest port count).st := by
  unfold State.reqLinkTest
  split <;> exact h

/-! ### Machine/Events.lean -/

theorem State.Works.setGate {z : ZoneId} {v : Bool} : s₀.Works (s.setGate z v) := h

theorem State.Works.handover : s₀.Works s.handover := by
  unfold State.handover
  dsimp only
  split
  exacts [h.askAgain.hand, h.askAgain]

/-! ### Machine/Events.lean -/

theorem State.Works.expire {ch : ChanId} {t : State} (expired : s.expire ch = some t) : s₀.Works t := by
  unfold State.expire at expired
  dsimp only at expired
  split at expired
  · obtain rfl := Option.some.inj expired
    split
    exacts [h.elapse.setChan, h.elapse.stopChan]
  · cases expired

/-- An expiry is the blocks' own work where what it brings is. -/
theorem State.Works.onExpiry {ch : ChanId} {f : State → State} (step : ∀ t, s₀.Works t → s₀.Works (f t)) :
    s₀.Works (s.onExpiry ch f) := by
  unfold State.onExpiry
  split
  next t expired => exact step t (h.expire expired)
  · exact h

/-- A report from the bus is the blocks' own work where what it brings is. -/
theorem State.Works.fromBus {addr : Nat} {f : ActId → State → State} (step : ∀ act t, s₀.Works t → s₀.Works (f act t)) :
    s₀.Works (s.fromBus addr f) := by
  unfold State.fromBus
  split
  exacts [step _ s h, h]

end Works

end Sys2Proof.Machine
end

section
/-! PROOFS. Both banks and the booking list stay lawful through every command (R38, R41, R55, R72, R74). -/

namespace Sys2Proof.Machine
open Sys2Proof Sys2Proof.Claims

/-! ## A bank's order (R38) -/

theorem Entry.before_iff (e f : Entry) : e.before f = true ↔
    e.tx.val < f.tx.val ∨ e.tx = f.tx ∧ (e.start < f.start ∨ e.start = f.start ∧ e.id < f.id) := by
  unfold Entry.before
  by_cases tx : e.tx = f.tx
  · by_cases start : e.start = f.start <;> simp [tx, start]
  · simp [tx]

theorem Entry.before_trans {e f g : Entry} (ef : e.before f = true) (fg : f.before g = true) : e.before g = true := by
  rw [Entry.before_iff, Fin.ext_iff] at *
  omega

/-- Of two entries of different IDs one stands before the other. -/
theorem Entry.before_of_not {e f : Entry} (other : e.id ≠ f.id) (not : e.before f ≠ true) : f.before e = true := by
  rw [Ne, Entry.before_iff, Fin.ext_iff] at not
  rw [Entry.before_iff, Fin.ext_iff]
  omega

theorem placeEntry_perm (e : Entry) (l : List Entry) : (placeEntry e l).Perm (e :: l) := by
  induction l with
  | nil => exact .refl _
  | cons f l ih =>
    unfold placeEntry
    split
    · exact .refl _
    · exact (ih.cons f).trans (.swap e f l)

@[simp] theorem mem_placeEntry {e x : Entry} {l : List Entry} : x ∈ placeEntry e l ↔ x = e ∨ x ∈ l :=
  (placeEntry_perm e l).mem_iff.trans List.mem_cons

/-- An entry at its place leaves the bank in its order. -/
theorem placeEntry_sorted {e : Entry} {l : List Entry} (sorted : l.Pairwise fun x y => x.before y = true)
    (fresh : ∀ x ∈ l, x.id ≠ e.id) : (placeEntry e l).Pairwise fun x y => x.before y = true := by
  induction l with
  | nil => exact List.pairwise_singleton ..
  | cons f l ih =>
    obtain ⟨first, rest⟩ := List.pairwise_cons.1 sorted
    unfold placeEntry
    split
    next before =>
      refine List.pairwise_cons.2 ⟨fun x mem => ?_, sorted⟩
      rcases List.mem_cons.1 mem with rfl | mem
      · exact before
      · exact Entry.before_trans before (first x mem)
    next after =>
      refine List.pairwise_cons.2 ⟨fun x mem => ?_, ih rest fun x mem => fresh x (.tail _ mem)⟩
      rcases mem_placeEntry.1 mem with rfl | mem
      · exact Entry.before_of_not (fresh f (.head _)).symm after
      · exact first x mem

theorem bankLegal_nil : bankLegal [] := ⟨Nat.zero_le _, .nil, .nil⟩

theorem bankLegal_filter {l : List Entry} (h : bankLegal l) (p : Entry → Bool) : bankLegal (l.filter p) := by
  obtain ⟨few, apart, sorted⟩ := h
  exact ⟨(List.length_filter_le ..).trans few, apart.sublist (List.filter_sublist.map _), sorted.filter _⟩

/-- The entry of an ID that is held is not counted among the others. -/
theorem filter_lt_of_holds {b : StagedBank} {id : Nat} (held : b.holds id = true) :
    (b.entries.filter fun x => !decide (x.id = id)).length < b.entries.length := by
  obtain ⟨x, mem, same⟩ := List.any_eq_true.1 held
  exact List.length_filter_lt_length_iff_exists.2 ⟨x, mem, by simpa using same⟩

/-- A put keeps the bank lawful where there is room, or an entry of its ID to replace. -/
theorem bankLegal_put {b : StagedBank} (h : bankLegal b.entries) {e : Entry}
    (room : b.holds e.id = true ∨ b.entries.length < 1024) : bankLegal (b.put e).entries := by
  obtain ⟨few, apart, sorted⟩ := bankLegal_filter h fun x => !decide (x.id = e.id)
  have fresh : ∀ x ∈ b.entries.filter fun x => !decide (x.id = e.id), x.id ≠ e.id := by simp
  have placed := placeEntry_perm e (b.entries.filter fun x => !decide (x.id = e.id))
  refine ⟨?_, ?_, placeEntry_sorted sorted fresh⟩
  · rw [StagedBank.put, placed.length_eq, List.length_cons]
    have := h.1
    rcases room with held | room
    · have := filter_lt_of_holds held; omega
    · have := List.length_filter_le (fun x : Entry => !decide (x.id = e.id)) b.entries; omega
  · refine (placed.map (·.id)).nodup_iff.2 (List.nodup_cons.2 ⟨fun mem => ?_, apart⟩)
    obtain ⟨x, mem, same⟩ := List.mem_map.1 mem
    exact fresh x mem same

/-! ## The booking list (R72, R74) -/

theorem placeBooking_perm (b : Booking) (l : List Booking) : (placeBooking b l).Perm (b :: l) := by
  induction l with
  | nil => exact .refl _
  | cons c l ih =>
    unfold placeBooking
    split
    · exact .refl _
    · exact (ih.cons c).trans (.swap b c l)

theorem placeBooking_sorted {b : Booking} {l : List Booking} (sorted : l.Pairwise fun x y => x.id < y.id)
    (fresh : ∀ x ∈ l, x.id ≠ b.id) : (placeBooking b l).Pairwise fun x y => x.id < y.id := by
  induction l with
  | nil => exact List.pairwise_singleton ..
  | cons c l ih =>
    obtain ⟨first, rest⟩ := List.pairwise_cons.1 sorted
    unfold placeBooking
    split
    next before =>
      refine List.pairwise_cons.2 ⟨fun x mem => ?_, sorted⟩
      rcases List.mem_cons.1 mem with rfl | mem
      · exact before
      · exact before.trans (first x mem)
    next after =>
      refine List.pairwise_cons.2 ⟨fun x mem => ?_, ih rest fun x mem => fresh x (.tail _ mem)⟩
      rcases List.mem_cons.1 ((placeBooking_perm b l).mem_iff.1 mem) with rfl | mem
      · have := fresh c (.head _); omega
      · exact first x mem

/-- Bookings in order of their IDs, all from 1 to 32, are at most 32. -/
theorem bookings_few {l : List Booking} (sorted : l.Pairwise fun x y => x.id < y.id)
    (range : ∀ b ∈ l, 1 ≤ b.id ∧ b.id ≤ 32) : l.length ≤ 32 := by
  have apart : (l.map (·.id)).Nodup := List.pairwise_map.2 (sorted.imp fun lt => lt.ne)
  have within : l.map (·.id) ⊆ (List.range 33).drop 1 := fun k mem => by
    obtain ⟨b, held, rfl⟩ := List.mem_map.1 mem
    have := range b held
    rw [List.range_eq_range', List.drop_range', List.mem_range']
    exact ⟨b.id - 1, by omega, by omega⟩
  have := (apart.subperm within).length_le
  simpa using this

/-- The lowest free booking ID is one from 1 to 32 that no booking has. -/
theorem State.freeId_spec {s : State} {k : Nat} (found : s.freeId = some k) :
    (1 ≤ k ∧ k ≤ 32) ∧ ∀ b ∈ s.sch.bookings, b.id ≠ k := by
  have mem := List.mem_of_find?_eq_some found
  have free := List.find?_some found
  rw [List.range_eq_range', List.drop_range', List.mem_range'] at mem
  obtain ⟨i, lt, rfl⟩ := mem
  refine ⟨by omega, fun b mem same => ?_⟩
  simp only [State.idInUse, Bool.not_eq_true', List.any_eq_false] at free
  exact free b mem (by simpa using same)

/-! ## Operations on the banks and the list -/

/-- Both banks and the booking list are lawful (R38, R72). -/
def State.Lawful (s : State) : Prop := schLegal s.sch

/-- What the law speaks of: the entries of the banks, and the bookings. -/
def State.listed (s : State) : List Entry × Option (List Entry) × List Booking :=
  (s.sch.staged.entries, s.sch.active.map fun b => b.entries.map (·.1), s.sch.bookings)

section Lawful
variable {s : State} (h : s.Lawful)
include h

theorem State.Lawful.bookings {l : List Booking} (sorted : l.Pairwise fun x y => x.id < y.id)
    (range : ∀ b ∈ l, 1 ≤ b.id ∧ b.id ≤ 32) : State.Lawful { s with sch := { s.sch with bookings := l } } := by
  obtain ⟨staged, active, -, -, -⟩ := h
  exact ⟨staged, active, bookings_few sorted range, sorted, range⟩

/-- An operation that writes no entry and no booking. -/
theorem State.Lawful.same {t : State} (listed : t.listed = s.listed := by rfl) : t.Lawful := by
  obtain ⟨staged, active, few, sorted, range⟩ := h
  simp only [State.listed, Prod.mk.injEq] at listed
  obtain ⟨stagedSame, activeSame, bookingsSame⟩ := listed
  refine ⟨stagedSame ▸ staged, fun b now => ?_, bookingsSame ▸ few, bookingsSame ▸ sorted, bookingsSame ▸ range⟩
  rw [now] at activeSame
  obtain ⟨old, was, entries⟩ := Option.map_eq_some_iff.1 activeSame.symm
  rw [← show old.entries.map (·.1) = b.entries.map (·.1) from entries]
  exact active old was

/-- The blocks' own work keeps the banks, and takes bookings from the list alone. -/
theorem State.Lawful.after {t : State} (work : s.Works t) : t.Lawful := by
  obtain ⟨banks, sublist, -⟩ := work
  simp only [State.banks, Prod.mk.injEq] at banks
  obtain ⟨staged, active, -, -⟩ := banks
  have kept : State.Lawful { s with sch := { s.sch with bookings := t.sch.bookings } } := by
    obtain ⟨-, -, -, sorted, range⟩ := id h
    exact h.bookings (sorted.sublist sublist) fun b mem => range b (sublist.subset mem)
  exact kept.same (by simp only [State.listed, staged, active])

theorem State.Lawful.restaged {b : StagedBank} (legal : bankLegal b.entries) :
    State.Lawful { s with sch := { s.sch with staged := b } } := by
  obtain ⟨-, rest⟩ := h
  exact ⟨legal, rest⟩

theorem State.Lawful.updStaged {f : StagedBank → StagedBank} (kept : (f s.sch.staged).entries = s.sch.staged.entries) :
    (s.updStaged f).Lawful := h.restaged (kept ▸ h.1)

theorem State.Lawful.post {nt : Notice} : (s.post nt).Lawful := h.after (State.Works.refl s).post

end Lawful

/-! ## The sweep and the changeover -/

@[simp] theorem StagedBank.record_entries (c : Conflict) (b : StagedBank) : (b.record c).entries = b.entries := by
  unfold StagedBank.record
  split <;> rfl

@[simp] theorem StagedBank.pairUp_entries (kind : ConflictKind) (e : Entry) (rest : List Entry) (b : StagedBank) :
    (b.pairUp kind e rest).entries = b.entries := by
  unfold StagedBank.pairUp
  exact List.foldlRecOn (motive := fun x : StagedBank => x.entries = b.entries) _ _ rfl
    fun x kept f _ => (StagedBank.record_entries _ x).trans kept

section Lawful
variable {s : State} (h : s.Lawful)
include h

theorem State.Lawful.passOne {e : Entry} : (s.passOne e).Lawful := by
  have clamped :
      State.Lawful (if s.willClamp e then s.updStaged fun b => { b with willClamp := b.willClamp + 1 } else s) := by
    split
    exacts [h.updStaged rfl, h]
  unfold State.passOne
  dsimp only
  split
  exacts [clamped.updStaged (StagedBank.record_entries ..), clamped]

theorem State.Lawful.passTwo {e : Entry} {rest : List Entry} : (s.passTwo e rest).Lawful :=
  (h.updStaged (StagedBank.pairUp_entries ..)).updStaged rfl

theorem State.Lawful.passThree {e : Entry} {rest : List Entry} : (s.passThree e rest).Lawful := by
  unfold State.passThree
  split
  exacts [h.updStaged (StagedBank.pairUp_entries ..), h]

/-- The ACTIVE bank after a promotion holds the STAGED bank's entries. -/
theorem State.Lawful.promote {src : Trigger} : (s.promote src).Lawful := by
  obtain ⟨staged, -, few, sorted, range⟩ := h
  have sch := s.promote_sch src
  refine ⟨congrArg Sch.staged sch ▸ bankLegal_nil, fun b active => ?_, ?_⟩
  · obtain rfl := Option.some.inj (active.symm.trans (congrArg Sch.active sch))
    rw [List.map_map]
    simpa [Function.comp_def] using staged
  · have bookings : (s.promote src).sch.bookings = s.sch.bookings := (congrArg Sch.bookings sch :)
    rw [bookings]
    exact ⟨few, sorted, range⟩

theorem State.Lawful.trigger {src : Trigger} : (s.trigger src).Lawful := by
  unfold State.trigger
  split
  exacts [h.promote, State.Lawful.post (s := { s with sch := { s.sch with arming := .disarmed } }) h]

theorem State.Lawful.sweepEnds : s.sweepEnds.Lawful := by
  unfold State.sweepEnds
  extract_lets b out t
  have ended : t.Lawful := (h.updStaged (f := fun x => { x with state := out, standing := .complete }) rfl).post
  split
  exacts [ended.trigger, ended]

theorem State.Lawful.sweepBegins : s.sweepBegins.Lawful := by
  unfold State.sweepBegins
  split
  · exact (h.updStaged rfl).sweepEnds
  · exact h.updStaged rfl

theorem State.Lawful.advanceCursor : s.advanceCursor.Lawful := by
  unfold State.advanceCursor
  dsimp only
  repeat' split
  · exact h.updStaged rfl
  · exact h.updStaged rfl
  · exact h.sweepEnds

theorem State.Lawful.sweepStep : s.sweepStep.Lawful := by
  unfold State.sweepStep
  dsimp only
  split
  · split
    · refine State.Lawful.advanceCursor ?_
      split
      exacts [h.passOne, h.passTwo, h.passThree]
    · exact h.advanceCursor
  · exact h

theorem State.Lawful.restartSweep : s.restartSweep.Lawful := by
  unfold State.restartSweep
  split
  exacts [h.sweepBegins, h]

theorem State.Lawful.resweep : s.resweep.Lawful := by
  unfold State.resweep
  split
  exacts [h.sweepBegins, h]

theorem State.Lawful.tellSch : s.tellSch.Lawful := by
  refine h.restartSweep.same ?_
  simp only [State.tellSch, State.listed, Option.map_map, Function.comp_def]

theorem State.Lawful.syncEdge : s.syncEdge.Lawful := by
  unfold State.syncEdge
  split
  exacts [h.trigger, h]

theorem State.Lawful.recheckBank : s.recheckBank.Lawful := by
  unfold State.recheckBank
  split
  · refine h.same ?_
    cases active : s.sch.active with
    | none => simp only [State.listed, active, Option.map_none]
    | some b => by_cases due : b.recheck = true <;> simp [State.listed, active, due, State.rechecked]
  · exact h

/-! ## Station time -/

theorem State.Lawful.atTimeTest : s.atTimeTest.Lawful := by
  unfold State.atTimeTest
  repeat' split
  exacts [h.trigger, h, h]

theorem State.Lawful.expiryTest : s.expiryTest.Lawful := by
  unfold State.expiryTest
  split
  next b active =>
    split
    · refine State.Lawful.post (h.same ?_)
      simp only [State.listed, active, Option.map_some]
    · exact h
  · exact h

theorem State.Lawful.handSecond : s.handSecond.Lawful :=
  h.atTimeTest.expiryTest.after (State.Works.refl _).evaluate.resubmit

theorem State.Lawful.updClk {f : Clock → Clock} : (s.updClk f).Lawful := h

theorem State.Lawful.elapse {k : Nat} : (s.elapse k).Lawful := h

theorem State.Lawful.handed : s.handed.Lawful := by
  unfold State.handed
  split
  exacts [h, h.handSecond]

theorem State.Lawful.toClock {st : ClkState} {cause : ClkCause} : (s.toClock st cause).Lawful := by
  unfold State.toClock
  split
  exacts [h, State.Lawful.post (s := s.updClk fun c => { c with state := st }) h]

theorem State.Lawful.applySet {v : TimeSet} : (s.applySet v).Lawful := h.updClk.toClock.handed

theorem State.Lawful.oscillatorTick : s.oscillatorTick.Lawful := h.elapse.updClk.handed

theorem State.Lawful.missedPulse : s.missedPulse.Lawful := by
  have counted := h.updClk (f := fun c => { c with tail := false, missing := bumpTo 3 c.missing })
  unfold State.missedPulse
  dsimp only
  split
  · split
    exacts [counted.toClock.applySet, counted.toClock]
  · exact counted

theorem State.Lawful.windowCloses : s.windowCloses.Lawful := by
  unfold State.windowCloses
  dsimp only
  repeat' split
  exacts [h.elapse.missedPulse, h.oscillatorTick.elapse.missedPulse, h]

theorem State.Lawful.lockingPulse : s.lockingPulse.Lawful := by
  unfold State.lockingPulse
  dsimp only
  split
  exacts [h.updClk.toClock.handed, h.updClk.toClock]

theorem State.Lawful.lockedPulse : s.lockedPulse.Lawful := by
  unfold State.lockedPulse State.onTimePulse
  dsimp only
  repeat' split
  exacts [h.updClk.handed, h.updClk, h.updClk.handed, h.updClk]

theorem State.Lawful.passing {k left : Nat} : (s.passing k left).Lawful := by
  induction k generalizing s left with
  | zero => exact h.elapse
  | succ k ih =>
    unfold State.passing
    repeat' split
    exacts [ih h.windowCloses, h.elapse, ih h.oscillatorTick, h.elapse]

theorem State.Lawful.pulse {after : Nat} : (s.pulse after).Lawful := by
  have passed : (s.pass after).Lawful := h.passing
  unfold State.pulse
  dsimp only
  split
  exacts [passed, passed.lockedPulse, passed.lockingPulse]

theorem State.Lawful.oscillatorSecond : s.oscillatorSecond.Lawful := by
  unfold State.oscillatorSecond
  split
  exacts [h.windowCloses.oscillatorTick, h.oscillatorTick]

/-! ## The requests -/

theorem State.Lawful.reqSetTime {day sec : Nat} {offset : Option Nat} : (s.reqSetTime day sec offset).st.Lawful := by
  unfold State.reqSetTime
  split
  · exact h
  · unfold State.takeTime
    dsimp only
    split
    exacts [h.updClk, h.applySet]

theorem State.Lawful.reqOpenStaging : s.reqOpenStaging.st.Lawful := by
  unfold State.reqOpenStaging
  split
  exacts [h.restaged bankLegal_nil, h.updStaged rfl, h, h, h]

theorem State.Lawful.unlessOpen {detail : Nat} {f : Answer} (open_ : f.st.Lawful) : (s.unlessOpen detail f).st.Lawful := by
  unfold State.unlessOpen
  split
  exacts [open_, h, h, h, h]

theorem State.Lawful.putChecked {e : Entry} : (s.putChecked e).st.Lawful := by
  unfold State.putChecked
  dsimp only
  split
  · exact h
  next room =>
    refine h.restaged (bankLegal_put h.1 ?_)
    cases held : s.sch.staged.holds e.id with
    | true => exact .inl rfl
    | false =>
      have few : s.stagedCount < 1024 := by simpa [held] using room
      exact .inr few

theorem State.Lawful.reqPutEntry {f : EntryFields} : (s.reqPutEntry f).st.Lawful := by
  refine h.unlessOpen ?_
  split
  exacts [h, h, h, h.putChecked]

theorem State.Lawful.reqDropEntry {id : Nat} : (s.reqDropEntry id).st.Lawful := by
  refine h.unlessOpen ?_
  dsimp only
  repeat' split
  exacts [h.restaged (bankLegal_filter h.1 _), h, h]

theorem State.Lawful.reqSealStaging {f : SealFields} : (s.reqSealStaging f).st.Lawful := by
  refine h.unlessOpen ?_
  repeat' split
  exacts [h, State.Lawful.sweepBegins (h.updStaged rfl), h]

theorem State.Lawful.reqAbortStaging : s.reqAbortStaging.st.Lawful := by
  unfold State.reqAbortStaging
  split
  exacts [h.updStaged rfl, h]

theorem State.Lawful.reqDiscardStaging : s.reqDiscardStaging.st.Lawful := by
  unfold State.reqDiscardStaging
  split
  exacts [h, h, h.restaged bankLegal_nil]

theorem State.Lawful.arm {a : Arming} : (s.arm a).Lawful := h

theorem State.Lawful.armSource {a : Arming} : (s.armSource a).st.Lawful := by
  unfold State.armSource
  dsimp only
  split
  exacts [h.arm.trigger, h.arm]

theorem State.Lawful.reqArm {src : ArmReq} : (s.reqArm src).st.Lawful := by
  unfold State.reqArm
  repeat' split
  exacts [h, h, h.arm, h, h, h.armSource, h.armSource, h.armSource]

theorem State.Lawful.reqFire : s.reqFire.st.Lawful := by
  unfold State.reqFire
  dsimp only
  repeat' split
  exacts [h.trigger, h.trigger, h]

/-- A new booking has an ID that was free, and stands at its place. -/
theorem State.Lawful.placeNew {b : Booking} : (s.placeNew b).st.Lawful := by
  unfold State.placeNew
  split
  next k found =>
    obtain ⟨range, free⟩ := State.freeId_spec found
    refine h.bookings (placeBooking_sorted (b := { b with id := k }) h.2.2.2.1 free) fun x mem => ?_
    rcases List.mem_cons.1 ((placeBooking_perm _ _).mem_iff.1 mem) with rfl | old
    exacts [range, h.2.2.2.2 x old]
  · exact h

theorem State.Lawful.reqBook {f : BookFields} : (s.reqBook f).st.Lawful := by
  unfold State.reqBook State.bookChecked
  dsimp only
  repeat' split
  all_goals first | exact h | exact h.placeNew

theorem State.Lawful.reqDefineTx {number : Nat} {f : TxFields} : (s.reqDefineTx number f).st.Lawful := by
  have stored (n : TxId) (d : TxDef) : (s.storeTx n d).Lawful := by
    rw [State.storeTx_eq]
    exact (h.after (State.Works.refl s).txStored.recomputeMinima).tellSch
  unfold State.reqDefineTx
  repeat' split
  exacts [h, h, h, h, stored _ _, h]

theorem State.Lawful.reqDefineTxRemove {number : Nat} : (s.reqDefineTxRemove number).st.Lawful := by
  have removed (n : TxId) : (s.removeTx n).Lawful := by
    rw [State.removeTx_eq]
    exact (h.after (State.Works.refl s).txRemoved.recomputeMinima).tellSch
  unfold State.reqDefineTxRemove
  repeat' split
  exacts [h, h, removed _, h, h]

theorem State.Lawful.reqDefineAnt {number : Nat} {f : AntFields} : (s.reqDefineAnt number f).st.Lawful := by
  have stored (a : AntId) (d : AntDef) : (s.storeAnt a d).Lawful := by
    rw [State.storeAnt_eq]
    exact (h.after (State.Works.refl s).antStored.recomputeMinima).tellSch
  unfold State.reqDefineAnt
  repeat' split
  exacts [h, h, h, h, h, stored _ _, h]

theorem State.Lawful.reqDefineAntRemove {number : Nat} : (s.reqDefineAntRemove number).st.Lawful := by
  have removed (a : AntId) : (s.removeAnt a).Lawful := by
    rw [State.removeAnt_eq]
    exact (h.after (State.Works.refl s).withoutAnt.rederiveZones.recomputeMinima).tellSch
  unfold State.reqDefineAntRemove
  repeat' split
  exacts [h, h, removed _, h, h]

theorem State.Lawful.reqDefineHall {f : HallFields} : (s.reqDefineHall f).st.Lawful := by
  have stored (d : HallDef) : (s.storeHall d).Lawful :=
    State.Lawful.tellSch (s := { s with hds := { s.hds with hall := d } }) h
  unfold State.reqDefineHall
  repeat' split
  exacts [h, h, stored _, h]

theorem State.Lawful.restarted : s.restarted.Lawful := by
  have values : s.restartValues.Lawful := h.same
  have watched : (s.restartValues.each s.definedTx fun n u => u.startChan (.tx n .silence) 3000).Lawful :=
    values.after ((State.Works.refl _).each fun _ _ ht => ht.startChan)
  have told := watched.resweep.after
    ((State.Works.refl _).each (f := State.postIfOpen) (l := allZones) fun _ _ ht => ht.postIfOpen)
  exact told.after (State.Works.refl _).enterHall

theorem State.Lawful.reqRestart : s.reqRestart.st.Lawful := by
  simp only [State.reqRestart, State.ok]
  exact h.restarted

/-- A request that the owning block judges. -/
theorem State.Lawful.serveRequest {port : Port} {r : Request} : (s.serveRequest port r).st.Lawful := by
  have idle := State.Works.refl s
  cases r with
  | defineTx => exact h.reqDefineTx
  | defineTxRemove => exact h.reqDefineTxRemove
  | defineAnt => exact h.reqDefineAnt
  | defineAntRemove => exact h.reqDefineAntRemove
  | defineHall => exact h.reqDefineHall
  | readTxDef => exact h.after idle.reqReadTxDef
  | readAntDef => exact h.after idle.reqReadAntDef
  | setTime => exact h.reqSetTime
  | readTime => exact h
  | latch => exact h.after idle.reqLatch
  | readSnapshot => exact h.after idle.reqReadSnapshot
  | openStaging => exact h.reqOpenStaging
  | putEntry => exact h.reqPutEntry
  | dropEntry => exact h.reqDropEntry
  | readEntry => exact h.after idle.reqReadEntry
  | sealStaging => exact h.reqSealStaging
  | abortStaging => exact h.reqAbortStaging
  | discardStaging => exact h.reqDiscardStaging
  | armChangeover => exact h.reqArm
  | disarmChangeover => exact h
  | fireChangeover => exact h.reqFire
  | readBanks => exact h
  | readConflicts => exact h
  | setSource => exact h.after idle.reqSetSource
  | book => exact h.reqBook
  | cancelBooking => exact h.after idle.reqCancelBooking
  | readBookings => exact h
  | readOccurrence => exact h.after idle.reqReadOccurrence
  | setHoldPoint => exact h.after idle.reqSetHoldPoint
  | releaseHold => exact h.after idle.reqReleaseHold
  | readPlan => exact h.after idle.reqReadPlan
  | trim => exact h.after idle.reqTrim
  | readTrim => exact h.after idle.reqReadTrim
  | clearFault => exact h.after idle.reqClearFault
  | readTx => exact h.after idle.reqReadTx
  | startHall => exact h.after idle.reqStartHall
  | haltHall => exact h.after idle.reqHaltHall
  | setAntServiceOut => exact h.after idle.reqServiceOut
  | setAntServiceIn => exact h.after idle.reqServiceIn
  | clearSuspect => exact h.after idle.reqClearSuspect
  | readAnt => exact h.after idle.reqReadAnt
  | readMatrix => exact h
  | linkTest => exact h.after idle.reqLinkTest
  | restart => exact h.reqRestart
  | unknownKind => exact h
  | malformed => exact h

/-! ## The ports -/

theorem State.Lawful.updPort {port : Port} {f : PortState → PortState} : (s.updPort port f).Lawful := by
  cases port <;> exact h

theorem State.Lawful.takeRequest {port : Port} {f : InFrame} : (s.takeRequest port f).Lawful := by
  refine State.Lawful.updPort ?_
  unfold State.judgeRequest
  repeat' split
  exacts [h, h.serveRequest, h]

theorem State.Lawful.discardFrame {port : Port} : (s.discardFrame port).Lawful := h.updPort

theorem State.Lawful.frameArrives {port : Port} {f : InFrame} : (s.frameArrives port f).Lawful := by
  unfold State.frameArrives
  repeat' split
  exacts [h.discardFrame, h.updPort, h.takeRequest]

theorem State.Lawful.takeWaiting {port : Port} : (s.takeWaiting port).Lawful := by
  unfold State.takeWaiting
  split
  · exact (h.updPort.after (State.Works.refl _).stopChan).takeRequest
  · exact h

theorem State.Lawful.gapAfter {port : Port} {was : RxState} {o : RxOut} : (s.gapAfter port was o).Lawful := by
  have idle := State.Works.refl s
  unfold State.gapAfter
  repeat' split
  exacts [h.after idle.startChan, h, h.after idle.retrigger, h.after idle.stopChan, h.after idle.stopChan]

theorem State.Lawful.byteReceived {port : Port} {b : Byte} : (s.byteReceived port b).Lawful := by
  unfold State.byteReceived State.byteRefused
  dsimp only
  repeat' split
  exacts [h.updPort.gapAfter.discardFrame, h.updPort.gapAfter, h.updPort.gapAfter, h.updPort.gapAfter,
    h.updPort.gapAfter.discardFrame, h.updPort.gapAfter.frameArrives]

theorem State.Lawful.gapExpired {port : Port} : (s.gapExpired port).Lawful := by
  unfold State.gapExpired
  repeat' split
  exacts [h.updPort, h, h.updPort.discardFrame]

theorem State.Lawful.onExpiry {ch : ChanId} {f : State → State} (step : ∀ t : State, t.Lawful → (f t).Lawful) :
    (s.onExpiry ch f).Lawful := by
  unfold State.onExpiry
  split
  next t expired => exact step t (h.after ((State.Works.refl s).expire expired))
  · exact h

end Lawful

/-! ## Every command -/

/-- The commands that work on the banks. -/
def worksOnBanks : Instr → Bool
  | .sweepStep | .bankRecheck | .syncQualifierExpiry => true
  | _ => false

/-- A command that brings no event, and does not work on the banks, is the blocks' own work. -/
theorem exec_works_of_inner {c : Instr} (frame : frameOf c = none) (inner : bringsEvent c = false)
    (beside : worksOnBanks c = false) (s : State) : ∃ t, exec c s = .next t ∧ s.Works t := by
  have idle := State.Works.refl s
  cases c with
  | accept n => exact ⟨_, rfl, idle.report fun _ ht => ht.accepted⟩
  | reject n reason => exact ⟨_, rfl, idle.report fun _ ht => ht.rejected⟩
  | state n r => exact ⟨_, rfl, idle.report fun _ ht => ht.digest⟩
  | meter n x y => exact ⟨_, rfl, idle.report fun _ ht => ht.known fun _ hu => hu.meter⟩
  | tuned n f => exact ⟨_, rfl, idle.report fun _ ht => ht.known fun _ hu => hu.tuned⟩
  | tuneFail n k => exact ⟨_, rfl, idle.report fun _ ht => ht.known fun _ hu => hu.tuneFailed⟩
  | trip n u => exact ⟨_, rfl, idle.report fun _ ht => ht.known fun _ hu => hu.tripReport⟩
  | fault n u => exact ⟨_, rfl, idle.report fun _ ht => ht.known fun _ hu => hu.unitFault⟩
  | deferredOrderSend n => exact ⟨_, rfl, idle.sendDeferred⟩
  | orderAcceptExpiry n => exact ⟨_, rfl, idle.onExpiry fun _ ht => ht.lineLost⟩
  | lineSilenceExpiry n => exact ⟨_, rfl, idle.onExpiry fun _ ht => ht.lineLost⟩
  | warmUpExpiry n => exact ⟨_, rfl, idle.onExpiry fun _ ht => ht.warmUpEnds⟩
  | tuneExpiry n => exact ⟨_, rfl, idle.onExpiry fun _ ht => ht.tuneEnds⟩
  | rampExpiry n => exact ⟨_, rfl, idle.onExpiry fun _ ht => ht.rampStepped⟩
  | rfOffConfirmationExpiry n => exact ⟨_, rfl, idle.onExpiry fun _ ht => ht.rfOffUnconfirmed⟩
  | recycleExpiry n => exact ⟨_, rfl, idle.onExpiry fun _ ht => ht.recycleExpired⟩
  | phaseBegin n ph => exact ⟨_, rfl, idle.phaseBegins⟩
  | retargetEffect n => exact ⟨_, rfl, idle.retargetEffect⟩
  | moveHandover => exact ⟨_, rfl, idle.handover⟩
  | antennaOffer a => exact ⟨_, rfl, idle.offer⟩
  | busOrderSend => exact ⟨_, rfl, idle.serve⟩
  | moving k => exact ⟨_, rfl, idle.fromBus fun _ _ ht => ht.movingFrom⟩
  | arrived k p =>
    refine ⟨_, rfl, idle.fromBus fun act t ht => ?_⟩
    split
    exacts [ht.arrivedFrom, ht]
  | stuck k p =>
    refine ⟨_, rfl, idle.fromBus fun act t ht => ?_⟩
    split
    exacts [ht.stuckFrom, ht]
  | position k p =>
    refine ⟨_, rfl, idle.fromBus fun act t ht => ?_⟩
    split
    exacts [ht.positionFrom, ht]
  | busAnswerExpiry => exact ⟨_, rfl, idle.onExpiry fun _ ht => ht.answerExpired⟩
  | travelExpiry act => exact ⟨_, rfl, idle.onExpiry fun _ ht => ht.travelExpired⟩
  | allQuerySend => exact ⟨_, rfl, idle.sendAllQuery⟩
  | surveyEnd => exact ⟨_, rfl, idle.surveyEnds⟩
  | hallAllOff => exact ⟨_, rfl, idle.haltedIfOff⟩
  | _ => simp [frameOf, bringsEvent, worksOnBanks] at frame inner beside

section Lawful
variable {s : State} (h : s.Lawful)
include h

theorem State.Lawful.ofBanks {c : Instr} (banks : worksOnBanks c = true) : ∃ t, exec c s = .next t ∧ t.Lawful := by
  cases c with
  | sweepStep => exact ⟨_, rfl, h.sweepStep⟩
  | bankRecheck => exact ⟨_, rfl, h.recheckBank⟩
  | syncQualifierExpiry => exact ⟨_, rfl, h.onExpiry fun _ ht => ht.syncEdge⟩
  | _ => exact nomatch banks

/-- A command that brings an event keeps the banks and the list lawful. -/
theorem State.Lawful.ofEvent {c : Instr} (event : bringsEvent c = true) : ∃ t, exec c s = .next t ∧ t.Lawful := by
  have idle := State.Works.refl s
  cases c with
  | powerOn => exact ⟨_, rfl, s.poweredOn_blocksPowered.schLegal⟩
  | portByte port b => exact ⟨_, rfl, h.byteReceived⟩
  | frameGapExpiry port => exact ⟨_, rfl, h.onExpiry fun _ ht => ht.gapExpired⟩
  | waitingFrameTaken port => exact ⟨_, rfl, h.takeWaiting⟩
  | frameTransmit port => exact ⟨_, rfl, h.updPort⟩
  | secondPulse k => exact ⟨_, rfl, h.pulse⟩
  | oscillatorSecond => exact ⟨_, rfl, h.oscillatorSecond⟩
  | pulseWindowClose => exact ⟨_, rfl, h.windowCloses⟩
  | syncRisingEdge =>
    refine ⟨_, rfl, ?_⟩
    unfold State.syncRises
    split
    exacts [h, State.Lawful.after (s := { s with pins := { s.pins with sync := true } }) h (State.Works.refl _).startChan]
  | syncInputOff => exact ⟨_, rfl, h⟩
  | emergencyAsserted =>
    refine ⟨_, rfl, ?_⟩
    split
    exacts [h, h.after idle.emergency]
  | emergencyReleased =>
    refine ⟨_, rfl, ?_⟩
    split
    exacts [h.after idle.emergencyEnds, h]
  | gateLineOff z =>
    refine ⟨_, rfl, ?_⟩
    split
    exacts [h.after idle.setGate.zoneOpens, h.after idle.setGate]
  | gateLineOn z =>
    refine ⟨_, rfl, ?_⟩
    split
    exacts [h.after idle.setGate.zoneCloses, h.after idle.setGate]
  | _ => exact nomatch event

/-- Every command keeps the banks and the list lawful. -/
theorem State.Lawful.exec (c : Instr) : ∃ t, exec c s = .next t ∧ t.Lawful := by
  cases event : bringsEvent c with
  | true => exact h.ofEvent event
  | false =>
    cases frame : frameOf c with
    | some f =>
      obtain ⟨port, tag, r⟩ := f
      exact ⟨_, exec_of_frameOf frame s, h.frameArrives⟩
    | none =>
      cases banks : worksOnBanks c with
      | true => exact h.ofBanks banks
      | false =>
        obtain ⟨t, next, work⟩ := exec_works_of_inner frame event banks s
        exact ⟨t, next, h.after work⟩

end Lawful

end Sys2Proof.Machine

namespace Sys2Proof.Proofs
open Sys2Proof Sys2Proof.Machine Sys2Proof.Claims

/-- Settles O55: a millisecond moves no bank, and every command keeps both banks and the booking list lawful. -/
theorem everyStepKeepsBanksAndBookingsLawful : Obligations.EveryStepKeepsBanksAndBookingsLawful := by
  intro s t legal next
  unfold step at next
  split at next
  · cases next
    exact State.Lawful.elapse (s := s) legal
  next c rest _ =>
    obtain ⟨u, next', kept⟩ := State.Lawful.exec (s := s.withPending rest) legal c
    obtain rfl : u = t := by rw [next] at next'; cases next'; rfl
    exact kept

end Sys2Proof.Proofs
end

section
/-! PROOFS. The staging requests in each state of the STAGED bank (R38, R40 to R45). -/

namespace Sys2Proof.Machine
open Sys2Proof Sys2Proof.Claims

/-! ## The gate of the OPEN state -/

theorem State.unlessOpen_open {s : State} (isOpen : s.sch.staged.state = .open) (detail : Nat) (f : Answer) :
    s.unlessOpen detail f = f := by
  simp only [State.unlessOpen, isOpen]

theorem State.unlessOpen_shut {s : State} (shut : s.sch.staged.state ≠ .open) (detail : Nat) (f : Answer) :
    s.unlessOpen detail f = ⟨s, if s.sch.staged.state = .validating then .refused .busy 0 else .refused .state detail⟩ := by
  unfold State.unlessOpen
  split
  next isOpen => exact absurd isOpen shut
  all_goals simp only [*, if_true, reduceCtorEq, if_false, State.refused]

/-- The entry of an ID is held. -/
theorem StagedBank.holds_iff {id : Nat} {b : StagedBank} : b.holds id = true ↔ ∃ x ∈ b.entries, x.id = id := by
  simp [StagedBank.holds]

/-! ## Every state -/

theorem exec_openStaging {s : State} (free : portFree .a s) (tag : Byte) :
    exec (.openStaging .a tag) s = .next (replied .a tag 0x10 s.reqOpenStaging.res s.reqOpenStaging.st) :=
  exec_request .openStaging rfl free (s.permitted_a _) rfl

theorem exec_abortStaging {s : State} (free : portFree .a s) (tag : Byte) :
    exec (.abortStaging .a tag) s = .next (replied .a tag 0x15 s.reqAbortStaging.res s.reqAbortStaging.st) :=
  exec_request .abortStaging rfl free (s.permitted_a _) rfl

theorem exec_discardStaging {s : State} (free : portFree .a s) (tag : Byte) :
    exec (.discardStaging .a tag) s = .next (replied .a tag 0x16 s.reqDiscardStaging.res s.reqDiscardStaging.st) :=
  exec_request .discardStaging rfl free (s.permitted_a _) rfl

theorem exec_putEntry {s : State} (free : portFree .a s) (tag : Byte) (f : EntryFields) :
    exec (.putEntry .a tag f) s = .next (replied .a tag 0x11 (s.reqPutEntry f).res (s.reqPutEntry f).st) :=
  exec_request (.putEntry f) rfl free (s.permitted_a _) rfl

theorem exec_dropEntry {s : State} (free : portFree .a s) (tag : Byte) (id : Nat) :
    exec (.dropEntry .a tag id) s = .next (replied .a tag 0x12 (s.reqDropEntry id).res (s.reqDropEntry id).st) :=
  exec_request (.dropEntry id) rfl free (s.permitted_a _) rfl

theorem exec_sealStaging {s : State} (free : portFree .a s) (tag : Byte) (f : SealFields) :
    exec (.sealStaging .a tag f) s = .next (replied .a tag 0x14 (s.reqSealStaging f).res (s.reqSealStaging f).st) :=
  exec_request (.sealStaging f) rfl free (s.permitted_a _) rfl

/-! ## DROP-ENTRY and PUT-ENTRY on an OPEN bank (R41, R42) -/

section OpenBank
variable {s : State} (isOpen : s.sch.staged.state = .open)
include isOpen

theorem State.reqDropEntry_outOfRange {id : Nat} (out : id = 0 ∨ 65535 < id) : s.reqDropEntry id = s.refused .range 1 := by
  have outside : ¬ within 1 65535 id = true := by rw [within_iff]; omega
  rw [State.reqDropEntry, State.unlessOpen_open isOpen, if_neg outside]

theorem State.reqDropEntry_unheld {id : Nat} (low : 1 ≤ id) (high : id ≤ 65535)
    (unheld : ∀ x ∈ s.sch.staged.entries, x.id ≠ id) : s.reqDropEntry id = s.refused .noSuch id := by
  have none : ¬ s.sch.staged.holds id = true := by simpa [StagedBank.holds_iff] using unheld
  rw [State.reqDropEntry, State.unlessOpen_open isOpen, if_pos (within_iff.2 ⟨low, high⟩), if_neg none]

theorem State.reqDropEntry_held {id : Nat} (low : 1 ≤ id) (high : id ≤ 65535)
    (held : ∃ x ∈ s.sch.staged.entries, x.id = id) : s.reqDropEntry id =
      (withStaged { s.sch.staged with entries := s.sch.staged.entries.filter fun x => x.id ≠ id } s).ok
      (.count (s.sch.staged.entries.filter fun x => x.id ≠ id).length) := by
  rw [State.reqDropEntry, State.unlessOpen_open isOpen, if_pos (within_iff.2 ⟨low, high⟩),
    if_pos (StagedBank.holds_iff.2 held)]
  simp only [State.stagedCount, State.updStaged, withStaged, decide_not]

theorem State.reqPutEntry_missing {f : EntryFields} {k : Nat} (missing : entryMissing f = some k) :
    s.reqPutEntry f = s.refused .malformed k := by
  simp only [State.reqPutEntry, State.unlessOpen_open isOpen, missing]

theorem State.reqPutEntry_fault {f : EntryFields} {k : Nat} (present : entryMissing f = none)
    (fault : entryFieldFault f = some k) : s.reqPutEntry f = s.refused .range k := by
  simp only [State.reqPutEntry, State.unlessOpen_open isOpen, present, fault]

theorem State.reqPutEntry_checked {f : EntryFields} {e : Entry} (present : entryMissing f = none)
    (fits : entryFieldFault f = none) (built : entryRecord f = some e) : s.reqPutEntry f = s.putChecked e := by
  simp only [State.reqPutEntry, State.unlessOpen_open isOpen, present, fits, built]

end OpenBank

theorem State.putChecked_full {s : State} {e : Entry} (new : ¬ ∃ x ∈ s.sch.staged.entries, x.id = e.id)
    (full : 1024 ≤ s.stagedCount) : s.putChecked e = s.refused .full 1024 := by
  rw [← StagedBank.holds_iff, Bool.not_eq_true] at new
  exact if_pos (by simpa [new] using full)

theorem State.putChecked_room {s : State} {e : Entry}
    (room : (∃ x ∈ s.sch.staged.entries, x.id = e.id) ∨ s.stagedCount < 1024) :
    s.putChecked e = (withStaged (s.sch.staged.put e) s).ok (.put (s.sch.staged.holds e.id)
      (positionOf e.id (s.sch.staged.put e).entries) (s.sch.staged.put e).entries.length) := by
  have fits : ¬ (!s.sch.staged.holds e.id && decide (1024 ≤ s.stagedCount)) = true := by
    rw [← StagedBank.holds_iff] at room
    simpa [or_iff_not_imp_left] using room
  exact if_neg fits

end Sys2Proof.Machine

namespace Sys2Proof.Proofs
open Sys2Proof Sys2Proof.Machine Sys2Proof.Claims

/-- Settles O18, by the answers of the requests in each state, and the place of an entry in the order of its bank. -/
theorem stagingFollowsItsState : Obligations.StagingFollowsItsState := by
  refine ⟨fun s tag free => ?_, fun s tag free shut => ⟨fun f => ?_, fun id => ?_, fun f => ?_⟩,
    fun s tag id free isOpen => ⟨fun out => ?_, fun low high unheld => ?_, fun low high held => ?_⟩,
    fun s tag f k free isOpen => ⟨fun missing => ?_, fun present fault => ?_⟩,
    fun s tag f e free isOpen present fits built => ⟨fun new full => ?_, fun room => ?_⟩⟩
  · rw [exec_openStaging free, exec_abortStaging free, exec_discardStaging free]
    cases now : s.sch.staged.state <;>
      simp [State.reqOpenStaging, State.reqAbortStaging, State.reqDiscardStaging, now, State.ok, State.refused,
        State.updStaged, withStaged, State.stagedCount]
  · rw [exec_putEntry free, State.reqPutEntry, State.unlessOpen_shut shut]
  · rw [exec_dropEntry free, State.reqDropEntry, State.unlessOpen_shut shut]
  · rw [exec_sealStaging free, State.reqSealStaging, State.unlessOpen_shut shut]
  · rw [exec_dropEntry free, State.reqDropEntry_outOfRange isOpen out]; rfl
  · rw [exec_dropEntry free, State.reqDropEntry_unheld isOpen low high unheld]; rfl
  · rw [exec_dropEntry free, State.reqDropEntry_held isOpen low high held]; rfl
  · rw [exec_putEntry free, State.reqPutEntry_missing isOpen missing]; rfl
  · rw [exec_putEntry free, State.reqPutEntry_fault isOpen present fault]; rfl
  · rw [exec_putEntry free, State.reqPutEntry_checked isOpen present fits built, State.putChecked_full new full]; rfl
  · refine ⟨(s.sch.staged.put e).entries, s.sch.staged.holds e.id, StagedBank.holds_iff, ?_, fun x => ?_, fun sorted => ?_⟩
    · rw [exec_putEntry free, State.reqPutEntry_checked isOpen present fits built, State.putChecked_room room]; rfl
    · simp [StagedBank.put]
    · exact placeEntry_sorted (sorted.filter _) (by simp)

end Sys2Proof.Proofs
end

section
/-! PROOFS. The changeover: its arming, its triggers, the AT_TIME second and the season's expiry (R53 to R57). -/

namespace Sys2Proof.Machine
open Sys2Proof Sys2Proof.Claims

/-! ## The requests (R53, R54) -/

theorem exec_armChangeover {s : State} (free : portFree .a s) (tag : Byte) (src : ArmReq) :
    exec (.armChangeover .a tag src) s = .next (replied .a tag 0x17 (s.reqArm src).res (s.reqArm src).st) :=
  exec_request (.armChangeover src) rfl free (s.permitted_a _) rfl

theorem exec_disarmChangeover {s : State} (free : portFree .a s) (tag : Byte) :
    exec (.disarmChangeover .a tag) s = .next (replied .a tag 0x18 s.reqDisarm.res s.reqDisarm.st) :=
  exec_request .disarmChangeover rfl free (s.permitted_a _) rfl

theorem exec_fireChangeover {s : State} (free : portFree .a s) (tag : Byte) :
    exec (.fireChangeover .a tag) s = .next (replied .a tag 0x19 s.reqFire.res s.reqFire.st) :=
  exec_request .fireChangeover rfl free (s.permitted_a _) rfl

theorem armFault_atTime (day sec : Nat) : armFault (.atTime day sec) =
    if 65535 < day then some 2 else if 86399 < sec then some 3 else none := by
  by_cases late : 65535 < day <;> by_cases beyond : 86399 < sec <;> simp [armFault, firstBad, within, late, beyond]

/-- The checks of an AT_TIME arming, in their order. -/
theorem State.reqArm_atTime (day sec : Nat) (s : State) : s.reqArm (.atTime day sec) =
    if 65535 < day then s.refused .range 2
    else if 86399 < sec then s.refused .range 3
    else if s.clk.state = .unset then s.refused .state 2
    else if s.now < secondOf day sec then (s.arm (.atTime day sec)).ok (.arming (.atTime day sec) false)
    else s.refused .range (if day < s.clk.day then 2 else 3) := by
  unfold State.reqArm
  rw [armFault_atTime]
  by_cases late : 65535 < day
  · simp only [late, if_true]
  · by_cases beyond : 86399 < sec
    · simp only [late, beyond, if_true, if_false]
    · simp only [late, beyond, if_false]

/-- An arming that is no trigger event itself. -/
theorem State.armSource_held {s : State} {a : Arming} (held : a = .onSeal → s.sch.staged.state ≠ .sealed) :
    s.armSource a = (s.arm a).ok (.arming a false) :=
  if_neg fun ⟨onSeal, isSealed⟩ => held onSeal isSealed

theorem State.armSource_fires {s : State} (isSealed : s.sch.staged.state = .sealed) :
    s.armSource .onSeal = ((s.arm .onSeal).trigger .onSeal).ok (.arming .disarmed true) := by
  have spent := ((s.arm .onSeal).trigger_sch .onSeal).1
  have fired : s.armSource .onSeal = ((s.arm .onSeal).trigger .onSeal).ok
      (.arming ((s.arm .onSeal).trigger .onSeal).sch.arming true) := if_pos ⟨rfl, isSealed⟩
  rw [fired, spent]

theorem State.reqFire_other {s : State} (other : s.sch.arming ≠ .command) : s.reqFire = s.refused .state 0 := if_neg other

theorem State.reqFire_missed {s : State} (armed : s.sch.arming = .command) (unsealed : s.sch.staged.state ≠ .sealed) :
    s.reqFire = (s.trigger .command).ok (.missed s.sch.staged.state) := by
  simp only [State.reqFire, armed, if_true, unsealed, if_false]

theorem State.reqFire_promoted {s : State} (armed : s.sch.arming = .command) (isSealed : s.sch.staged.state = .sealed) :
    s.reqFire = (s.promote .command).ok (.promoted (nextGeneration s.sch.lastGen)) := by
  have generation : (s.promote .command).sch.lastGen = nextGeneration s.sch.lastGen :=
    (congrArg Sch.lastGen (s.promote_sch _) :)
  simp only [State.reqFire, armed, if_true, isSealed, State.trigger, generation]

/-- A trigger that finds a SEALED bank promotes it (R55). -/
theorem State.trigger_sealed {s : State} (isSealed : s.sch.staged.state = .sealed) (src : Trigger) :
    s.trigger src = s.promote src := if_pos isSealed

/-- A trigger that finds no SEALED bank spends the arming alone (R56). -/
theorem State.trigger_missed {s : State} (unsealed : s.sch.staged.state ≠ .sealed) (src : Trigger) :
    (s.trigger src).sch = { s.sch with arming := .disarmed } := by
  rw [State.trigger, if_neg unsealed, State.post_sch]

/-- The banks that a promotion leaves (R55). -/
theorem State.promote_banks (src : Trigger) (s : State) :
    (s.promote src).banks = (.emptyBank, some ⟨s.sch.staged.entries.map fun e => (e, false), s.sch.staged.season,
      nextGeneration s.sch.lastGen, false, false⟩, .disarmed, nextGeneration s.sch.lastGen) :=
  (congrArg (fun c : Sch => (c.staged, c.active, c.arming, c.lastGen)) (s.promote_sch src) :)

/-! ## The second handed to SCH (R55, R57) -/

/-- After the two tests on the time, the work on a handed second is the blocks' own. -/
theorem State.handSecond_works (s : State) : s.atTimeTest.expiryTest.Works s.handSecond :=
  (State.Works.refl _).evaluate.resubmit

theorem State.atTimeTest_waits {s : State} (later : ∀ day sec, s.sch.arming = .atTime day sec → s.now < secondOf day sec) :
    s.atTimeTest = s := by
  unfold State.atTimeTest
  split
  next day sec armed => exact if_neg (Nat.not_le.2 (later day sec armed))
  · rfl

theorem State.atTimeTest_fires {s : State} {day sec : Nat} (armed : s.sch.arming = .atTime day sec)
    (due : secondOf day sec ≤ s.now) : s.atTimeTest = s.trigger .atTime := by
  simp only [State.atTimeTest, armed]
  exact if_pos due

/-- The ACTIVE bank once the expiry test has been made on a day (R57). -/
def ActiveBank.testedOn (day : Nat) (b : ActiveBank) : ActiveBank :=
  if b.header.last < day ∧ b.expired = false then { b with expired := true } else b

theorem State.expiryTest_banks (s : State) : s.expiryTest.banks =
    (s.sch.staged, s.sch.active.map (ActiveBank.testedOn s.clk.day), s.sch.arming, s.sch.lastGen) := by
  unfold State.expiryTest
  cases active : s.sch.active with
  | none => simp only [State.banks, active, Option.map_none]
  | some b =>
    dsimp only
    rw [Option.map_some, ActiveBank.testedOn]
    split <;> simp only [State.banks, State.post_sch, active]

theorem State.expiryTest_tells {s : State} {b : ActiveBank} (active : s.sch.active = some b) (fresh : b.expired = false)
    (past : b.header.last < s.clk.day) {port : Port} (room : ((s.port port).queue.filter QEntry.ordinary).length < 63) :
    s.expiryTest.waits port (.seasonExpired b.generation b.header.season b.header.label b.header.last) := by
  simp only [State.expiryTest, active, past, fresh, and_self, if_true]
  exact State.post_waits (s := { s with sch := { s.sch with active := some { b with expired := true } } }) _ room

/-- The state that the oscillator's second hands to SCH. -/
def State.begun (s : State) : State := { s.elapse (1000 - s.clk.phase) with clk := s.clk.ticked }

section OscillatorSecond
variable {s : State} (running : s.clk.state ≠ .unset) (closed : s.clk.state = .locked → s.clk.tail = false)
include running

theorem State.begun_day : s.begun.clk.day = (nextTime s.clk).1 := by
  show s.clk.ticked.day = _
  rw [Clock.ticked, Clock.advance_set running]
  rfl

theorem State.begun_now : s.begun.now = (nextTime s.clk).1 * 86400 + (nextTime s.clk).2.1 := by
  show s.clk.ticked.day * 86400 + s.clk.ticked.sec = _
  rw [Clock.ticked, Clock.advance_set running]
  rfl

include closed

/-- The oscillator's second is handed to SCH as the two tests of the time and the blocks' own work. -/
theorem State.oscillatorSecond_works : s.begun.atTimeTest.expiryTest.Works s.oscillatorSecond := by
  rw [State.oscillatorSecond_closed closed, State.oscillatorTick_set running]
  exact State.handSecond_works s.begun

/-- A second before the armed time: the expiry test alone reaches the banks, and its notice waits (R57). -/
theorem State.oscillatorSecond_unfired (later : ∀ day sec, s.sch.arming = .atTime day sec →
      (nextTime s.clk).1 * 86400 + (nextTime s.clk).2.1 < day * 86400 + sec) :
    s.oscillatorSecond.banks =
      (s.sch.staged, s.sch.active.map (ActiveBank.testedOn (nextTime s.clk).1), s.sch.arming, s.sch.lastGen) ∧
    ∀ b, s.sch.active = some b → b.expired = false → b.header.last < (nextTime s.clk).1 →
      told s (.seasonExpired b.generation b.header.season b.header.label b.header.last) s.oscillatorSecond := by
  obtain ⟨banks, -, waits⟩ := State.oscillatorSecond_works running closed
  have unfired : s.begun.atTimeTest = s.begun :=
    State.atTimeTest_waits fun day sec armed => (State.begun_now running).trans_lt (later day sec armed)
  rw [unfired] at banks waits
  rw [State.expiryTest_banks, State.begun_day running] at banks
  exact ⟨banks, fun b active fresh past port room =>
    waits port _ (State.expiryTest_tells (s := s.begun) active fresh ((State.begun_day running).symm ▸ past) room)⟩

/-- A second at or past the armed time is a trigger event (R55). -/
theorem State.oscillatorSecond_fired {day sec : Nat} (armed : s.sch.arming = .atTime day sec)
    (due : day * 86400 + sec ≤ (nextTime s.clk).1 * 86400 + (nextTime s.clk).2.1) :
    let u := s.begun.trigger .atTime
    s.oscillatorSecond.banks =
      (u.sch.staged, u.sch.active.map (ActiveBank.testedOn u.clk.day), u.sch.arming, u.sch.lastGen) := by
  obtain ⟨banks, -, -⟩ := State.oscillatorSecond_works running closed
  have fired : s.begun.atTimeTest = s.begun.trigger .atTime :=
    State.atTimeTest_fires armed (due.trans_eq (State.begun_now running).symm)
  rw [banks, fired, State.expiryTest_banks]

end OscillatorSecond

theorem ActiveBank.testedOn_kept {day : Nat} {b : ActiveBank} (kept : b.expired = true ∨ day ≤ b.header.last) :
    b.testedOn day = b :=
  if_neg fun ⟨past, fresh⟩ => kept.elim (fun h => Bool.noConfusion (h.symm.trans fresh)) (Nat.not_le.2 past)

theorem ActiveBank.testedOn_expires {day : Nat} {b : ActiveBank} (fresh : b.expired = false) (past : b.header.last < day) :
    b.testedOn day = { b with expired := true } := if_pos ⟨past, fresh⟩

/-- The expiry test marks a bank, and leaves its season. -/
theorem ActiveBank.testedOn_season (day : Nat) (b : ActiveBank) :
    (b.testedOn day).entries = b.entries ∧ (b.testedOn day).header = b.header ∧
      (b.testedOn day).generation = b.generation := by
  unfold ActiveBank.testedOn
  split <;> exact ⟨rfl, rfl, rfl⟩

end Sys2Proof.Machine

namespace Sys2Proof.Proofs
open Sys2Proof Sys2Proof.Machine Sys2Proof.Claims

/-- Settles O21, by the answers of the three requests, and the two tests made on a second handed to SCH. -/
theorem changeoverIsArmedAndFired : Obligations.ChangeoverIsArmedAndFired := by
  refine ⟨fun s tag free => ?_, fun s tag free => ⟨fun other => ?_, fun armed unsealed => ?_, fun armed isSealed => ?_⟩,
    fun s running closed => ?_⟩
  · simp only [exec_armChangeover free, exec_disarmChangeover free, State.reqArm_atTime]
    refine ⟨fun day sec late => ?_, fun day sec day_le beyond => ?_, fun day sec day_le sec_le unset => ?_,
      fun day sec day_le sec_le set ahead => ?_, fun day sec day_le sec_le set past => ?_, rfl, rfl, fun unsealed => ?_,
      fun isSealed => ?_, rfl⟩
    · rw [if_pos late]; rfl
    · rw [if_neg (by omega), if_pos beyond]; rfl
    · rw [if_neg (by omega), if_neg (by omega), if_pos unset]; rfl
    · rw [if_neg (by omega), if_neg (by omega), if_neg set, if_pos (show s.now < secondOf day sec from ahead)]; rfl
    · rw [if_neg (by omega), if_neg (by omega), if_neg set, if_neg (show ¬ s.now < secondOf day sec from Nat.not_lt.2 past)]
      exact ⟨_, rfl⟩
    · have held : s.reqArm .onSeal = (s.arm .onSeal).ok (.arming .onSeal false) := State.armSource_held fun _ => unsealed
      rw [held]; rfl
    · have fires : s.reqArm .onSeal = _ := State.armSource_fires isSealed
      obtain ⟨-, -, promoted⟩ := (s.arm .onSeal).trigger_sch .onSeal
      obtain ⟨staged, b, active, entries, -⟩ := promoted isSealed
      rw [fires]
      exact ⟨_, rfl, ⟨_, rfl, rfl, rfl⟩, staged, b, active, entries⟩
  · rw [exec_fireChangeover free, State.reqFire_other other]; rfl
  · rw [exec_fireChangeover free, State.reqFire_missed armed unsealed]
    have beside := s.trigger_besideBanks .command
    refine ⟨_, rfl, ⟨_, rfl, rfl, rfl⟩, (replied_sch ..).trans (State.trigger_missed unsealed _),
      (congrArg State.hds beside :), (congrArg State.txs beside :), (congrArg State.csq beside :),
      (congrArg State.amx beside :)⟩
  · rw [exec_fireChangeover free, State.reqFire_promoted armed isSealed]
    have beside := s.promote_besideBanks .command
    have banks := s.promote_banks .command
    simp only [State.banks, Prod.mk.injEq] at banks
    obtain ⟨staged, active, arming, lastGen⟩ := banks
    exact ⟨_, _, rfl, ⟨_, rfl, rfl, rfl⟩, nextGeneration_eq _, lastGen, arming, staged, active,
      (congrArg (fun t => t.sch.bookings) beside :), (congrArg State.hds beside :), (congrArg State.txs beside :),
      (congrArg State.csq beside :), (congrArg State.amx beside :)⟩
  · have unfired := State.oscillatorSecond_unfired running closed
    refine ⟨_, rfl, fun day sec armed => ⟨fun later => ?_, fun due => ?_⟩, fun later => ?_⟩
    · have banks := (unfired fun d t same => by rw [armed] at same; cases same; exact later).1
      simp only [State.banks, Prod.mk.injEq] at banks
      obtain ⟨staged, -, arming, lastGen⟩ := banks
      exact ⟨arming, staged, lastGen⟩
    · have banks := State.oscillatorSecond_fired running closed armed due
      simp only [State.banks, Prod.mk.injEq] at banks
      obtain ⟨staged, active, arming, lastGen⟩ := banks
      refine ⟨arming.trans (s.begun.trigger_sch .atTime).1, fun unsealed => ?_, fun isSealed => ?_⟩
      · have missed := s.begun.trigger_missed unsealed .atTime
        exact ⟨staged.trans (congrArg Sch.staged missed :), lastGen.trans (congrArg Sch.lastGen missed :)⟩
      · have promoted := s.begun.promote_banks .atTime
        rw [State.trigger_sealed (s := s.begun) isSealed] at staged active lastGen
        simp only [State.banks, Prod.mk.injEq] at promoted
        obtain ⟨emptied, live, -, generation⟩ := promoted
        rw [live] at active
        obtain ⟨entries, header, number⟩ := ActiveBank.testedOn_season _ _
        have next := lastGen.trans generation
        exact ⟨staged.trans emptied, next.trans (nextGeneration_eq _), _, active, entries, header, number.trans next.symm⟩
    · obtain ⟨banks, expires⟩ := unfired later
      simp only [State.banks, Prod.mk.injEq] at banks
      obtain ⟨-, active, arming, -⟩ := banks
      refine ⟨arming, fun none => active.trans (by rw [none]; rfl),
        fun b now => ⟨fun kept => ?_, fun fresh past => ⟨?_, ?_⟩⟩⟩
      · exact active.trans (by rw [now, Option.map_some, ActiveBank.testedOn_kept kept])
      · exact active.trans (by rw [now, Option.map_some, ActiveBank.testedOn_expires fresh past])
      · exact expires b now fresh past

end Sys2Proof.Proofs
end

section
/-! PROOFS. Tight pairs of a season whose days lie above 65535: the model seeks them on the days up to 65535 alone (R49,
R50). -/

namespace Sys2Proof.Machine
open Sys2Proof Sys2Proof.Claims

/-! ## An entry with no days (R49) -/

theorem Entry.daysOf_eq_nil {e : Entry} {h : Header} (none : e.high h < e.low h) : e.daysOf h = [] :=
  List.drop_eq_nil_of_le (by rw [List.length_range]; exact none)

theorem tightWith_eq_nil {e : Entry} {h : Header} (none : e.high h < e.low h) (offset minimum : Nat) (mine : List Entry) :
    tightWith h offset minimum mine e = [] := by
  rw [tightWith, Entry.daysOf_eq_nil none]
  rfl

/-! ## The sweep's second pass (R50) -/

@[simp] theorem StagedBank.record_tight (c : Conflict) (b : StagedBank) : (b.record c).tight = b.tight := by
  unfold StagedBank.record
  split <;> rfl

@[simp] theorem StagedBank.pairUp_tight (kind : ConflictKind) (e : Entry) (rest : List Entry) (b : StagedBank) :
    (b.pairUp kind e rest).tight = b.tight := by
  unfold StagedBank.pairUp
  exact List.foldlRecOn (motive := fun x : StagedBank => x.tight = b.tight) _ _ rfl
    fun x kept f _ => (StagedBank.record_tight _ x).trans kept

/-- A pass-2 step of an entry with no days counts no tight pair. -/
theorem State.passTwo_tight {s : State} {e : Entry} (none : e.high s.sch.staged.season < e.low s.sch.staged.season)
    (rest : List Entry) : (s.passTwo e rest).sch.staged.tight = s.sch.staged.tight := by
  unfold State.passTwo
  simp only [State.updStaged, StagedBank.pairUp_tight, tightWith_eq_nil none, List.length_nil]
  split <;> rfl

/-- A cursor that is not at the end of pass 3 leaves the count of tight pairs. -/
theorem State.advanceCursor_tight {s : State} (going : s.sch.staged.pass < 3) :
    s.advanceCursor.sch.staged.tight = s.sch.staged.tight := by
  unfold State.advanceCursor
  simp only [going, if_true]
  split <;> rfl

@[simp] theorem cursorOn_tight (b : StagedBank) : (cursorOn b).tight = b.tight := by
  unfold cursorOn
  split <;> rfl

/-! ## A season above day 65535 -/

/-- An entry of TX1 on LOAD that fills every day. -/
def wholeDays : Entry := ⟨1, 0, 9500, none, 0, 3000, 0, 1440, 127, 3, none, none, none⟩

/-- A season of the days 66000 to 70000, which no SEAL-STAGING stores (R39). -/
def farSeason : Header := ⟨1, [70, 65, 82, 32], 66000, 70000⟩

/-- A sweep in pass 2 over the one entry in that season; the static minimum of TX1 is a second. -/
def farSweep : State :=
  { State.reset with
    hds := { State.reset.hds with staticMin := State.reset.hds.staticMin.set 0 (some 1) }
    sch := { State.reset.sch with staged := { StagedBank.emptyBank with
      state := .validating, entries := [wholeDays], header := some farSeason, pass := 2 } } }

/-- Each occurrence of the entry ends as the next begins. -/
theorem wholeDays_tight : tightPair farSeason 0 1 [wholeDays] wholeDays 1 := by
  refine ⟨wholeDays, .head _, rfl, 66000, 66001, by decide, by decide, by decide, by decide, fun g mem y _ after => ?_⟩
  obtain rfl := List.mem_singleton.1 mem
  exact after

/-- The sweep counts none of them. -/
theorem farSweep_tight : farSweep.sweepStep.sch.staged.tight = 0 := by
  have step : farSweep.sweepStep = (farSweep.passTwo wholeDays []).advanceCursor := rfl
  have going : (farSweep.passTwo wholeDays []).sch.staged.pass < 3 := by decide
  rw [step, State.advanceCursor_tight going, State.passTwo_tight (by decide)]
  rfl

end Sys2Proof.Machine

namespace Sys2Proof.Proofs
open Sys2Proof Sys2Proof.Machine Sys2Proof.Claims

/-- Refutes O20: the clause on pass 2 asks for one tight pair at least wherever there is one, in a season of any days. In a
bank whose season is the days 66000 to 70000 an entry of 24 hours on every day is tight with itself, and the sweep, which
seeks the entry's days up to 65535 alone, counts none. -/
theorem not_sealingSweepsTheBank : ¬ Obligations.SealingSweepsTheBank := by
  intro holds
  obtain ⟨-, sweep⟩ := holds
  obtain ⟨-, step, -⟩ := sweep farSweep
  obtain ⟨-, two, -⟩ := step wholeDays [] rfl (by decide) rfl
  obtain ⟨l, -, -, counted, next⟩ := two rfl
  obtain ⟨-, least⟩ := counted 1 rfl (by decide)
  have found : l ≠ [] := least (by decide) (by decide) ⟨1, wholeDays_tight⟩
  have tight := congrArg (fun t : State => t.sch.staged.tight) (Host.Outcome.next.inj next)
  have none : 0 = 0 + l.length := farSweep_tight.symm.trans (tight.trans (cursorOn_tight _))
  exact found (List.length_eq_zero_iff.1 (by omega))

end Sys2Proof.Proofs
end

section
/-! PROOFS. The planned duration (R67). -/

namespace Sys2Proof.Machine
open Sys2Proof Sys2Proof.Claims

/-! ## The ceiling of section 0.6 -/

theorem ceilDiv_bounds (a : Nat) {b : Nat} (pos : 0 < b) : a ≤ ceilDiv a b * b ∧ ceilDiv a b * b < a + b := by
  have split := Nat.div_add_mod (a + b - 1) b
  have rest := Nat.mod_lt (a + b - 1) pos
  unfold ceilDiv
  rw [Nat.mul_comm] at split
  omega

/-! ## What each term of R67 is counted for -/

theorem State.rowAway_iff {s : State} {n : TxId} : s.rowAway n = true ↔
    s.pos (.row n) = .atp .matrix ∨ s.pos (.row n) = .travelling .matrix ∨ s.pos (.row n) = .unknown := by
  unfold State.rowAway
  split <;> simp_all

theorem State.rowAt_iff {s : State} {n : TxId} {p : Place} : s.rowAt n p = true ↔ s.pos (.row n) = .atp p := decide_eq_true_iff

/-- The beam drive of the target antenna stands elsewhere than at the target beam. -/
theorem State.beamDiffers_of_path {s : State} {q : Setpoint} {a : AntId} (path : q.path = some a) :
    s.beamDiffers q = (s.beamDefined a && !decide (s.pos (.beam a) = .atp (.beam q.beam))) := by
  simp only [State.beamDiffers, State.needsBeam, path]

theorem State.beamDiffers_of_load {s : State} {q : Setpoint} (load : q.path = none) : s.beamDiffers q = false := by
  simp only [State.beamDiffers, State.needsBeam, load]

theorem State.beamDiffers_iff {s : State} {q : Setpoint} : s.beamDiffers q = true ↔
    ∃ a, q.path = some a ∧ (s.beamDefined a && !decide (s.pos (.beam a) = .atp (.beam q.beam))) = true := by
  cases path : q.path with
  | none => simp [State.beamDiffers_of_load path]
  | some a => simp [State.beamDiffers_of_path path]

theorem State.countsToLoad_iff {s : State} {n : TxId} {q : Setpoint} {tune : Nat} : s.countsToLoad n q tune = true ↔
    s.rowAway n = true ∧ (tune ≠ 0 ∨ q.path = none ∨ s.owned n ≠ q.path ∨ s.beamDiffers q = true) := by
  simp only [State.countsToLoad, Bool.and_eq_true, Bool.or_eq_true, Bool.not_eq_true', decide_eq_false_iff_not,
    Option.isNone_iff_eq_none, ne_eq, or_assoc]

theorem State.plannedFor_eq {s : State} {n : TxId} {d : TxDef} (defined : s.txDef n = some d) (q : Setpoint) :
    s.plannedFor n q =
      ceilDiv ((if (s.ctx n).rf = .off then 0 else rampMs d (s.ctx n).drive) +
        (if s.countsToLoad n q (tuneTerm d (s.ctx n).tuned q.freq) then d.rowEst * 1000 else 0) +
        max (tuneTerm d (s.ctx n).tuned q.freq) (s.pathTerm n q) +
        (if q.path.isSome && (s.rowAt n .load || s.countsToLoad n q (tuneTerm d (s.ctx n).tuned q.freq)) then d.rowEst * 1000
          else 0) +
        rampMs d (compose d q.power (s.ctx n).trim (s.pathRating d q.path) 0).d + s.warmTerm n d) 1000 := by
  simp only [State.plannedFor, defined]

end Sys2Proof.Machine

namespace Sys2Proof.Proofs
open Sys2Proof Sys2Proof.Machine Sys2Proof.Claims

/-- Settles O26: each term of the statement is the model's, and the planned duration is the ceiling of their sum. -/
theorem plannedDurationAddsItsTerms : Obligations.PlannedDurationAddsItsTerms := by
  intro s n q d defined _ c ramp rampdown tune sel beamAway release path away toload warm rampup
  have tuneSame : tuneTerm d c.tuned q.freq = tune := rfl
  have pathSame : s.pathTerm n q = path := by
    cases aim : q.path with
    | none => simp only [State.pathTerm, aim, path, release] <;> rfl
    | some a => simp only [State.pathTerm, aim, path, release, State.beamDiffers_of_path aim] <;> rfl
  have warmSame : s.warmTerm n d = warm := by
    unfold State.warmTerm
    split <;> simp_all [warm, c]
  have low : s.countsToLoad n q tune = true ↔ toload :=
    State.countsToLoad_iff.trans (and_congr State.rowAway_iff (by rw [State.beamDiffers_iff]))
  have matrix : (q.path.isSome && (s.rowAt n .load || s.countsToLoad n q tune)) = true ↔
      q.path ≠ none ∧ (s.pos (.row n) = .atp .load ∨ toload) := by
    rw [Bool.and_eq_true, Bool.or_eq_true, low, State.rowAt_iff, Option.isSome_iff_ne_none]
  refine ⟨if s.countsToLoad n q tune then d.rowEst * 1000 else 0,
    if q.path.isSome && (s.rowAt n .load || s.countsToLoad n q tune) then d.rowEst * 1000 else 0,
    fun counted => if_pos (low.2 counted), fun free => if_neg (mt low.1 free),
    fun counted => if_pos (matrix.2 counted), fun free => if_neg (mt matrix.1 free), ?_⟩
  rw [State.plannedFor_eq defined, tuneSame, pathSame, warmSame]
  exact ceilDiv_bounds _ (by decide)

end Sys2Proof.Proofs
end

section
/-! PROOFS. BOOK: its checks in their order, and the place of an accepted booking (R73, R74). -/

namespace Sys2Proof.Machine
open Sys2Proof Sys2Proof.Claims

/-! ## The lowest free ID and the place of a booking (R72, R73) -/

theorem State.idInUse_iff {s : State} {k : Nat} : s.idInUse k = true ↔ ∃ c ∈ s.sch.bookings, c.id = k := by
  simp [State.idInUse]

theorem State.idInUse_eq_false {s : State} {k : Nat} : s.idInUse k = false ↔ ∀ c ∈ s.sch.bookings, c.id ≠ k := by
  simp [State.idInUse]

theorem State.freeId_eq (s : State) : s.freeId = (List.range' 1 32).find? fun k => !s.idInUse k := by
  rw [State.freeId, List.range_eq_range', List.drop_range']

theorem State.placeNew_full {s : State} (used : ∀ k, 1 ≤ k → k ≤ 32 → ∃ c ∈ s.sch.bookings, c.id = k) (b : Booking) :
    s.placeNew b = s.refused .full 32 := by
  have none : s.freeId = none := by
    rw [State.freeId_eq, List.find?_range'_eq_none]
    exact fun k low high => by simpa using State.idInUse_iff.2 (used k low (by omega))
  simp only [State.placeNew, none]

theorem State.placeNew_free {s : State} {k : Nat} (low : 1 ≤ k) (high : k ≤ 32) (unused : ∀ c ∈ s.sch.bookings, c.id ≠ k)
    (used : ∀ j, 1 ≤ j → j < k → ∃ c ∈ s.sch.bookings, c.id = j) (b : Booking) :
    s.placeNew b = ({ s with sch := { s.sch with bookings := placeBooking { b with id := k } s.sch.bookings } } : State).ok
      (.booked k b.start) := by
  have least : s.freeId = some k := by
    rw [State.freeId_eq, List.find?_range'_eq_some, State.idInUse_eq_false.2 unused]
    exact ⟨rfl, List.mem_range'.2 ⟨k - 1, by omega, by omega⟩, fun j first before => by
      simpa using State.idInUse_iff.2 (used j first before)⟩
  simp only [State.placeNew, least]

/-! ## The overlap (R74) -/

theorem State.overlapped_first {s : State} {b c : Booking} {l rest : List Booking} (cut : s.sch.bookings = l ++ c :: rest)
    (before : ∀ x ∈ l, b.overlaps x = false) (meets : b.overlaps c = true) : s.overlapped b = some c.id := by
  have first : s.sch.bookings.find? (fun x => b.overlaps x) = some c :=
    List.find?_eq_some_iff_append.2 ⟨meets, l, rest, cut, fun x mem => by rw [before x mem]; rfl⟩
  rw [State.overlapped, first, Option.map_some]

theorem State.overlapped_none {s : State} {b : Booking} (apart : ∀ c ∈ s.sch.bookings, b.overlaps c = false) :
    s.overlapped b = none := by
  rw [State.overlapped, List.find?_eq_none.2 fun c mem => by rw [apart c mem]; exact Bool.false_ne_true, Option.map_none]

/-! ## The request and its fields (R73, R189) -/

theorem exec_book {s : State} (free : portFree .a s) (tag : Byte) (f : BookFields) :
    exec (.book .a tag f) s = .next (replied .a tag 0x21 (s.reqBook f).res (s.reqBook f).st) :=
  exec_request (.book f) rfl free (s.permitted_a _) rfl

theorem State.reqBook_missing {f : BookFields} {k : Nat} (missing : bookMissing f = some k) (s : State) :
    s.reqBook f = s.refused .malformed k := by
  simp only [State.reqBook, missing]

section Present
variable {s : State} {f : BookFields} (present : bookMissing f = none)
include present

theorem State.reqBook_fault {k : Nat} (fault : bookFieldFault f = some k) : s.reqBook f = s.refused .range k := by
  simp only [State.reqBook, present, fault]

variable (fits : bookFieldFault f = none)
include fits

theorem State.reqBook_unset (unset : s.clk.state = .unset) : s.reqBook f = s.refused .state 3 := by
  simp only [State.reqBook, present, fits, unset, if_true]

theorem State.reqBook_checked {n : TxId} (tx : f.tx = some (num n)) (set : s.clk.state ≠ .unset) :
    s.reqBook f = s.bookChecked n f := by
  simp only [State.reqBook, present, fits, set, if_false, tx, Option.bind_some, itemOf_num]

end Present

/-! ## The checks 4 to 8 (R73) -/

theorem State.bookChecked_txUndefined {s : State} {n : TxId} (undefined : s.txDef n = none) (f : BookFields) :
    s.bookChecked n f = s.refused .noSuch (num n) := by
  simp only [State.bookChecked, undefined]

/-- PATH names an antenna that is not defined. -/
theorem State.bookChecked_antUndefined {s : State} {n : TxId} {d : TxDef} (defined : s.txDef n = some d) {f : BookFields}
    {a : AntId} (path : (s.bookingFor 0 n f).path = some a) (undefined : s.antDef a = none) :
    s.bookChecked n f = s.refused .noSuch (num a) := by
  obtain ⟨k, given, item⟩ := Option.bind_eq_some_iff.1 (show f.path.bind (itemOf 40) = some a from path)
  have gone : s.pathUndefined (s.bookingFor 0 n f) = true := by
    simp only [State.pathUndefined, path, Option.any_some, State.antDefined, undefined, Option.isSome_none, Bool.not_false]
  simp only [State.bookChecked, defined, gone, if_true, given, Option.getD_some, itemOf_eq_some.1 item]

/-- PATH names LOAD or a defined antenna. -/
theorem State.pathUndefined_eq_false {s : State} {b : Booking} (stands : ∀ a, b.path = some a → s.antDef a ≠ none) :
    s.pathUndefined b = false := by
  cases path : b.path with
  | none => simp only [State.pathUndefined, path, Option.any_none]
  | some a => simp [State.pathUndefined, path, State.antDefined, Option.isSome_iff_ne_none, stands a path]

section Defined
variable {s : State} {n : TxId} {d : TxDef} (defined : s.txDef n = some d) {f : BookFields}
  (stands : ∀ a, (s.bookingFor 0 n f).path = some a → s.antDef a ≠ none)
include defined stands

theorem State.bookChecked_source (source : (s.ctx n).source ≠ .manual) : s.bookChecked n f = s.refused .state 5 := by
  simp only [State.bookChecked, defined, State.pathUndefined_eq_false stands, Bool.false_eq_true, if_false, if_pos source]

variable (source : (s.ctx n).source = .manual)
include source

theorem State.bookChecked_path {k : ConflictKind}
    (fault : s.pathFault n d (s.bookingFor 0 n f).freq (s.bookingFor 0 n f).path (s.bookingFor 0 n f).beam = some k) :
    s.bookChecked n f = s.refused .range (pathPosition k) := by
  simp only [State.bookChecked, defined, State.pathUndefined_eq_false stands, Bool.false_eq_true, if_false, source, ne_eq,
    not_true_eq_false, fault]

variable (fits : s.pathFault n d (s.bookingFor 0 n f).freq (s.bookingFor 0 n f).path (s.bookingFor 0 n f).beam = none)
include fits

theorem State.bookChecked_past (past : later s.now (s.bookingFor 0 n f).start = true) :
    s.bookChecked n f = s.refused .range 6 := by
  simp only [State.bookChecked, defined, State.pathUndefined_eq_false stands, Bool.false_eq_true, if_false, source, ne_eq,
    not_true_eq_false, fits, past, if_true]

variable (ahead : later s.now (s.bookingFor 0 n f).start = false)
include ahead

theorem State.bookChecked_overlap {k : Nat} (overlap : s.overlapped (s.bookingFor 0 n f) = some k) :
    s.bookChecked n f = s.refused .conflict k := by
  simp only [State.bookChecked, defined, State.pathUndefined_eq_false stands, Bool.false_eq_true, if_false, source, ne_eq,
    not_true_eq_false, fits, ahead, overlap]

theorem State.bookChecked_clear (clear : s.overlapped (s.bookingFor 0 n f) = none) :
    s.bookChecked n f = s.placeNew (s.bookingFor 0 n f) := by
  simp only [State.bookChecked, defined, State.pathUndefined_eq_false stands, Bool.false_eq_true, if_false, source, ne_eq,
    not_true_eq_false, fits, ahead, clear]

end Defined

end Sys2Proof.Machine

namespace Sys2Proof.Proofs
open Sys2Proof Sys2Proof.Machine Sys2Proof.Claims

/-- Settles O22: each check that fails answers before those after it are made. -/
theorem bookingChecksStandInOrder : Obligations.BookingChecksStandInOrder := by
  refine ⟨fun s tag f k free => ⟨fun missing => ?_, fun present fault => ?_⟩, fun s tag f n free present fits tx => ?_⟩
  · rw [exec_book free, State.reqBook_missing missing]; rfl
  · rw [exec_book free, State.reqBook_fault present fault]; rfl
  · intro b answers
    have answered {r : Reason} {k : Nat} (judged : s.reqBook f = s.refused r k) : answers (.refused r k) := by
      rw [show answers (.refused r k) = (exec (.book .a tag f) s = _) from rfl, exec_book free, judged]; rfl
    refine ⟨fun unset => answered (State.reqBook_unset present fits unset), fun set => ?_⟩
    have checked := State.reqBook_checked present fits tx set
    refine ⟨fun undefined => answered (checked.trans (State.bookChecked_txUndefined undefined f)), fun d defined =>
      ⟨fun a path undefined => answered (checked.trans (State.bookChecked_antUndefined defined path undefined)), fun stands =>
      ⟨fun source => answered (checked.trans (State.bookChecked_source defined stands source)), fun source =>
      ⟨fun k fault => answered (checked.trans (State.bookChecked_path defined stands source fault)), fun fitting =>
      ⟨fun past => answered (checked.trans (State.bookChecked_past defined stands source fitting past)), fun ahead =>
      ⟨fun c rest l cut before meets => answered (checked.trans (State.bookChecked_overlap defined stands source fitting ahead
        (State.overlapped_first cut before meets))), fun apart => ?_⟩⟩⟩⟩⟩⟩
    have placed := checked.trans (State.bookChecked_clear defined stands source fitting ahead (State.overlapped_none apart))
    refine ⟨fun used => answered (placed.trans (State.placeNew_full used b)), fun k low high unused used =>
      ⟨placeBooking { b with id := k } s.sch.bookings, ?_, fun x => ?_⟩⟩
    · rw [exec_book free, placed, State.placeNew_free low high unused used]; rfl
    · rw [(placeBooking_perm _ _).mem_iff, List.mem_cons]

end Sys2Proof.Proofs
end

section
/-! PROOFS. SCH's records: what a change of status and a new record leave to be read, and what a booking that leaves the list
leaves alone (R60, R61, R72, R76). -/

namespace Sys2Proof.Machine
open Sys2Proof Sys2Proof.Claims

/-! ## The record of a target (R60) -/

theorem State.recordOf_congr {s t : State} {n : TxId} (same : t.occ n = s.occ n) : t.recordOf n = s.recordOf n := by
  funext id; simp only [State.recordOf, same]

theorem State.inServiceRec_congr {s t : State} {n : TxId} (same : t.occ n = s.occ n) : t.inServiceRec n = s.inServiceRec n := by
  funext id; simp only [State.inServiceRec, State.recordOf_congr same]

theorem State.recorded_congr {s t : State} {n : TxId} (same : t.occ n = s.occ n) : t.recorded n = s.recorded n := by
  funext id; simp only [State.recorded, State.recordOf_congr same]

theorem State.recordOf_cur {s : State} {n : TxId} {r : OccRec} (cur : (s.occ n).cur = some r) : s.recordOf n r.id = some r := by
  simp only [State.recordOf, cur, if_true]

theorem State.recordOf_prev {s : State} {n : TxId} {r q : OccRec} (cur : (s.occ n).cur = some r) (prev : (s.occ n).prev = some q)
    (other : r.id ≠ q.id) : s.recordOf n q.id = some q := by
  simp only [State.recordOf, cur, prev, other, if_false, Option.filter_some, decide_true, if_true]

theorem State.inServiceRec_iff {s : State} {n : TxId} {id : TargetId} :
    s.inServiceRec n id = true ↔ ∃ r, s.recordOf n id = some r ∧ r.inService = true := by
  unfold State.inServiceRec
  split <;> simp_all

theorem State.liveRec_eq_some {s : State} {n : TxId} {r : OccRec} :
    s.liveRec n = some r ↔ (s.occ n).cur = some r ∧ r.status = .live := by
  simp [State.liveRec, Option.filter_eq_some_iff]

/-- The record that names a target, changed. -/
theorem State.recordOf_change {s : State} {n : TxId} {id : TargetId} {f : OccRec → OccRec} (keeps : ∀ r, (f r).id = r.id) :
    (s.updOcc n (Occ.change id f)).recordOf n id = (s.recordOf n id).map f := by
  have prev (o : Option OccRec) : (o.map fun q => if q.id = id then f q else q).filter (fun q => decide (q.id = id)) =
      (o.filter fun q => decide (q.id = id)).map f := by
    cases o with
    | none => rfl
    | some q => by_cases named : q.id = id <;> simp [Option.filter_some, named, keeps]
  simp only [State.recordOf, State.updOcc_occ, Occ.change]
  cases (s.occ n).cur with
  | none => exact prev _
  | some r => by_cases named : r.id = id <;> simp only [named, if_true, if_false, keeps, Option.map_some, prev]

/-- The record of another target stays as one that names a target changes. -/
theorem State.recordOf_change_ne {s : State} {n : TxId} {id other : TargetId} {f : OccRec → OccRec}
    (keeps : ∀ r, (f r).id = r.id) (ne : other ≠ id) :
    (s.updOcc n (Occ.change id f)).recordOf n other = s.recordOf n other := by
  have prev (o : Option OccRec) : (o.map fun q => if q.id = id then f q else q).filter (fun q => decide (q.id = other)) =
      o.filter fun q => decide (q.id = other) := by
    cases o with
    | none => rfl
    | some q => by_cases named : q.id = id <;> simp [Option.filter_some, named, keeps, Ne.symm ne]
  simp only [State.recordOf, State.updOcc_occ, Occ.change]
  cases (s.occ n).cur with
  | none => exact prev _
  | some r => by_cases named : r.id = id <;> simp only [named, if_true, if_false, keeps, Ne.symm ne, prev]

theorem State.newRecord_occ (n : TxId) (r : OccRec) (s : State) : (s.newRecord n r).occ n = ⟨some r, (s.occ n).cur⟩ :=
  State.updOcc_occ n _ s

theorem State.newRecord_recordOf (n : TxId) (r : OccRec) (s : State) : (s.newRecord n r).recordOf n r.id = some r :=
  State.recordOf_cur (by rw [State.newRecord_occ])

/-! ## The end of a record (R61) -/

/-- A record as DONE leaves it: what is in service takes the reason, the rest stays. -/
def OccRec.doneBy (why : DoneReason) (r : OccRec) : OccRec := if r.inService then { r with status := .done why } else r

theorem OccRec.doneBy_status (why : DoneReason) (r : OccRec) :
    (r.doneBy why).status = if r.inService then .done why else r.status := by
  unfold OccRec.doneBy; split <;> rfl

theorem OccRec.doneBy_inService (why : DoneReason) (r : OccRec) : (r.doneBy why).inService = false := by
  unfold OccRec.doneBy
  split
  · rfl
  next spent => simpa using spent

theorem State.recordDone_recordOf (n : TxId) (id : TargetId) (why : DoneReason) (s : State) :
    (s.recordDone n id why).recordOf n id = (s.recordOf n id).map (OccRec.doneBy why) := by
  have changed (st : OccStatus) : (s.setStatus n id st).recordOf n id =
      (s.recordOf n id).map fun r => { r with status := st } := State.recordOf_change fun _ => rfl
  unfold State.recordDone
  cases held : s.recordOf n id with
  | none => simpa using held
  | some r =>
    rw [held] at changed
    dsimp only
    split
    next busy =>
      rw [Option.map_some, OccRec.doneBy, if_pos busy]
      split <;> exact changed (.done why)
    next spent => rw [Option.map_some, OccRec.doneBy, if_neg spent, held]

theorem State.recordDone_recordOf_ne {n : TxId} {id other : TargetId} (ne : other ≠ id) (why : DoneReason) (s : State) :
    (s.recordDone n id why).recordOf n other = s.recordOf n other := by
  have kept (st : OccStatus) : (s.setStatus n id st).recordOf n other = s.recordOf n other :=
    State.recordOf_change_ne (fun _ => rfl) ne
  unfold State.recordDone
  split
  · split
    · dsimp only
      split <;> exact kept _
    · rfl
  · rfl

/-! ## What a booking that leaves the list leaves alone (R76) -/

/-- All but the booking list and the ports. -/
def State.besideBookings (s : State) : State := { s with sch := { s.sch with bookings := [] }, lnk := .powerOn }

theorem State.bookingLeaves_beside (id : Nat) (c : BookEnd) (s : State) :
    (s.bookingLeaves id c).besideBookings = s.besideBookings := by
  unfold State.bookingLeaves; split <;> rfl

theorem State.targetBookingLeaves_beside (id : TargetId) (c : BookEnd) (s : State) :
    (s.targetBookingLeaves id c).besideBookings = s.besideBookings := by
  unfold State.targetBookingLeaves
  split
  · split
    · exact State.bookingLeaves_beside _ c s
    · rfl
  · rfl

/-- The bookings of a list leave one after another. -/
def State.bookingsLeave (l : List Booking) (c : BookEnd) (s : State) : State := s.each l fun b t => t.bookingLeaves b.id c

theorem State.endBookings_eq (n : TxId) (s : State) : s.endBookings n = s.bookingsLeave (s.bookingsToEnd n) .source := rfl

theorem State.expireBookings_eq (n : TxId) (s : State) :
    s.expireBookings n = s.bookingsLeave (s.expiredBookings n) .ended := rfl

theorem State.bookingsLeave_beside (l : List Booking) (c : BookEnd) (s : State) :
    (s.bookingsLeave l c).besideBookings = s.besideBookings :=
  State.each_view State.besideBookings l (fun b t => t.bookingLeaves_beside b.id c) s

theorem State.bookingsLeave_mem {l : List Booking} {c : BookEnd} {s : State} {b : Booking} :
    b ∈ (s.bookingsLeave l c).sch.bookings ↔ b ∈ s.sch.bookings ∧ ∀ x ∈ l, b.id ≠ x.id := by
  unfold State.bookingsLeave State.each
  induction l generalizing s with
  | nil => simp
  | cons x l ih => simp only [List.foldl_cons, ih, State.bookingLeaves_mem, List.forall_mem_cons, and_assoc]

theorem State.bookingLeaves_bookings (id : Nat) (c : BookEnd) (s : State) :
    (s.bookingLeaves id c).sch.bookings = s.sch.bookings.filter fun x => !decide (x.id = id) := by
  unfold State.bookingLeaves
  split
  · rfl
  next absent => exact (List.filter_eq_self.2 fun x mem => by simpa using List.find?_eq_none.1 absent x mem).symm

theorem State.occ_of_beside {s t : State} (same : t.besideBookings = s.besideBookings) : t.occ = s.occ := by
  have occ : t.sch.occ = s.sch.occ := (congrArg (fun u : State => u.sch.occ) same :)
  funext n; simp only [State.occ, occ]

end Sys2Proof.Machine
end

section
/-! PROOFS. A changeover begins: what a plan keeps as its flags are set, when it submits no claim, and what its settling leaves
(R107, R108, R118). -/

namespace Sys2Proof.Machine
open Sys2Proof Sys2Proof.Claims

/-! ## A plan as its flags are set (R107) -/

section Recompute
variable (s : State) (n : TxId) (p : Plan)

@[simp] theorem State.recompute_target : (s.recompute n p).target = p.target := by
  unfold State.recompute; dsimp only; split <;> rfl

@[simp] theorem State.recompute_setp : (s.recompute n p).setp = p.setp := by
  unfold State.recompute; dsimp only; split <;> rfl

@[simp] theorem State.recompute_planned : (s.recompute n p).planned = p.planned := by
  unfold State.recompute; dsimp only; split <;> rfl

@[simp] theorem State.recompute_holdPoint : (s.recompute n p).holdPoint = p.holdPoint := by
  unfold State.recompute; dsimp only; split <;> rfl

end Recompute

/-- A plan whose flags are set and that needs no path has no claim to submit. -/
theorem State.recompute_claim {s : State} {n : TxId} {p : Plan} (path : s.needsPath n p.setp = false)
    (waits : (s.recompute n p).phases.claim = .waiting) : (s.recompute n p).deferFlags = true := by
  unfold State.recompute at waits ⊢
  dsimp only at waits ⊢
  split at waits
  next tuning => rw [if_pos tuning]
  · simp [path, needed] at waits

/-- A plan whose flags are set is not over where it goes to an occurrence or RF is not OFF. -/
theorem State.recompute_unfinished {s : State} {n : TxId} {p : Plan} (work : p.setp.isSome = true ∨ (s.ctx n).rf ≠ .off) :
    (s.recompute n p).phases.allOver (phaseDeps .done) = false := by
  have waits {q : Plan} {ph : Phase} (listed : ph ∈ phaseDeps .done) (still : q.phases.get ph = .waiting) :
      q.phases.allOver (phaseDeps .done) = false :=
    List.all_eq_false.2 ⟨ph, listed, by simp [Phases.over, still]⟩
  unfold State.recompute
  dsimp only
  split
  · exact waits (ph := .warm) (by decide) rfl
  · rcases work with occ | rf
    · exact waits (ph := .rampup) (by decide) (by simp only [Phases.get, needed, occ, if_true])
    · exact waits (ph := .rfOff) (by decide) (by simp [Phases.get, needed, rf])

theorem State.needsPath_owned {s : State} {n : TxId} {q : Setpoint} (owns : ∀ a, q.path = some a → s.owned n = some a) :
    s.needsPath n (some q) = false := by
  cases path : q.path with
  | none => simp only [State.needsPath, targetPath, Option.bind_some, path]
  | some a => simp [State.needsPath, targetPath, path, owns a path]

/-! ## SCH's part of the state (R131, R134) -/

@[simp] theorem State.offer_sch (a : AntId) (s : State) : (s.offer a).sch = s.sch := by
  unfold State.offer
  split
  · split
    · split <;> rfl
    · rfl
  · rfl

@[simp] theorem State.withdrawFrom_sch (a : AntId) (n : TxId) (s : State) : (s.withdrawFrom a n).sch = s.sch := by
  unfold State.withdrawFrom
  split
  · dsimp only; split <;> simp
  · rfl

@[simp] theorem State.withdrawClaim_sch (n : TxId) (s : State) : (s.withdrawClaim n).sch = s.sch := by
  unfold State.withdrawClaim; split <;> simp

@[simp] theorem State.dropHeld_sch (p : Held → Bool) (s : State) : (s.dropHeld p).sch = s.sch :=
  State.each_view State.sch (s.amx.held.filter p) (f := State.retell) (fun _ _ => rfl) _

@[simp] theorem State.removePlan_sch (n : TxId) (s : State) : (s.removePlan n).sch = s.sch := by
  simp [State.removePlan]

/-! ## A plan that submits no claim, and its settling (R107, R118) -/

/-- The plan a changeover creates for TXn, its flags set. -/
def State.newPlan (s : State) (n : TxId) (c : Changeover) : Plan := s.recompute n (s.freshPlan n c none false)

/-- What the new plan takes from the request and from the transmitter's hold-point setting (R106, R107, R117). -/
theorem State.newPlan_fields (s : State) (n : TxId) (c : Changeover) :
    (s.newPlan n c).target = c.target ∧ (s.newPlan n c).setp = c.setp ∧ (s.newPlan n c).planned = c.planned ∧
      (s.newPlan n c).holdPoint = s.csq.hold[n] ∧ (s.newPlan n c).windDown = false :=
  ⟨State.recompute_target .., State.recompute_setp .., State.recompute_planned .., State.recompute_holdPoint ..,
    State.recompute_windDown ..⟩

/-- A changeover has created its plan, and has taken over a ramp (R107). -/
def State.createPlan (n : TxId) (c : Changeover) (s : State) : State := (s.setPlan n (some (s.newPlan n c))).takeOverRamp n

theorem State.createPlan_plan (n : TxId) (c : Changeover) (s : State) : (s.createPlan n c).plan n = some (s.newPlan n c) :=
  State.setPlan_plan n _ s

/-- A changeover whose target needs no path submits no claim. -/
theorem State.changeover_unclaimed {s : State} {n : TxId} {c : Changeover} (unplanned : s.plan n = none)
    (path : s.needsPath n c.setp = false) : s.changeover n c = (s.createPlan n c).settlePlan n := by
  have idle : (s.createPlan n c).claimIfNeeded n = s.createPlan n c := by
    unfold State.claimIfNeeded
    rw [State.createPlan_plan]
    refine if_neg fun ⟨waits, set⟩ => ?_
    rw [State.newPlan, State.recompute_claim path waits] at set
    cases set
  unfold State.changeover
  rw [unplanned]
  exact congrArg (State.settlePlan n) idle

/-- A plan that is not over stands as it settles, or comes to its hold. -/
theorem State.settlePlan_unfinished {s : State} {n : TxId} {p : Plan} (planned : s.plan n = some p)
    (unfinished : p.phases.allOver (phaseDeps .done) = false) :
    s.settlePlan n = s ∨ p.setp.isSome = true ∧ s.settlePlan n = s.reachHold n p := by
  unfold State.settlePlan
  rw [planned]
  dsimp only
  rw [unfinished]
  split
  · exact .inl rfl
  · split
    next never => cases never
    · split
      next hold =>
        simp only [Plan.atAfterTune, Bool.and_eq_true] at hold
        obtain ⟨⟨⟨⟨-, occ⟩, -⟩, -⟩, -⟩ := hold
        exact .inr ⟨occ, rfl⟩
      · exact .inl rfl

/-- What a changeover leaves where its target needs no path and it has work to do: the plan it created, come to its hold or not. -/
theorem State.changeover_begins {s : State} {n : TxId} {c : Changeover} (unplanned : s.plan n = none)
    (path : s.needsPath n c.setp = false) (work : c.setp.isSome = true ∨ (s.ctx n).rf ≠ .off) :
    s.changeover n c = s.createPlan n c ∨
      c.setp.isSome = true ∧ s.changeover n c = (s.createPlan n c).reachHold n (s.newPlan n c) := by
  have settled := State.settlePlan_unfinished (State.createPlan_plan n c s)
    (State.recompute_unfinished (p := s.freshPlan n c none false) work)
  rw [State.newPlan, State.recompute_setp] at settled
  rw [State.changeover_unclaimed unplanned path]
  exact settled

/-! ## A changeover toward NONE (R65, R69, R75) -/

theorem State.needsPath_toNone (s : State) (n : TxId) (d : Nat) : s.needsPath n (Changeover.toNone d).setp = false := rfl

/-- Settling a plan toward NONE changes no record and no booking. -/
theorem State.settlePlan_sch_toNone {s : State} {n : TxId} {p : Plan} (planned : s.plan n = some p) (target : p.target = none)
    (setp : p.setp = none) : (s.settlePlan n).sch = s.sch := by
  unfold State.settlePlan
  rw [planned]
  dsimp only
  split_ifs
  · rfl
  · simp only [State.planDone, target, setp, State.removePlan_sch]
  · rfl
  · rfl

/-- A changeover toward NONE changes no record and no booking. -/
@[simp] theorem State.changeoverToNone_sch (n : TxId) (s : State) : (s.changeoverToNone n).sch = s.sch := by
  unfold State.changeoverToNone
  cases planned : s.drawnDuration.plan n with
  | some p => simp only [State.changeover, planned]; rfl
  | none =>
    obtain ⟨target, setp, -⟩ := State.newPlan_fields s.drawnDuration n (.toNone s.noneDuration)
    rw [State.changeover_unclaimed planned (State.needsPath_toNone _ n _),
      State.settlePlan_sch_toNone (State.createPlan_plan n _ _) target setp]
    rfl

end Sys2Proof.Machine
end

section
/-! PROOFS. CANCEL-BOOKING and SET-SOURCE (R61, R75 to R77). -/

namespace Sys2Proof.Machine
open Sys2Proof Sys2Proof.Claims

/-! ## CANCEL-BOOKING (R75) -/

theorem exec_cancelBooking {s : State} (free : portFree .a s) (tag : Byte) (id : Nat) :
    exec (.cancelBooking .a tag id) s =
      .next (replied .a tag 0x22 (s.reqCancelBooking id).res (s.reqCancelBooking id).st) :=
  exec_request (.cancelBooking id) rfl free (s.permitted_a _) rfl

theorem State.reqCancelBooking_range {id : Nat} (outside : id = 0 ∨ 32 < id) (s : State) :
    s.reqCancelBooking id = s.refused .range 1 :=
  if_neg (by rw [within_iff]; omega)

theorem State.reqCancelBooking_absent {s : State} {id : Nat} (low : 1 ≤ id) (high : id ≤ 32)
    (absent : ∀ b ∈ s.sch.bookings, b.id ≠ id) : s.reqCancelBooking id = s.refused .noSuch id := by
  have none : s.sch.bookings.find? (fun b => decide (b.id = id)) = none :=
    List.find?_eq_none.2 fun b mem => by simpa using absent b mem
  rw [State.reqCancelBooking, if_pos (within_iff.2 ⟨low, high⟩), none]

theorem State.reqCancelBooking_held {s : State} {id : Nat} {b : Booking} (low : 1 ≤ id) (high : id ≤ 32)
    (held : s.sch.bookings.find? (fun b => decide (b.id = id)) = some b) :
    s.reqCancelBooking id = ((s.bookingLeaves id .cancelled).cancelRecord b).ok
      (.cancelled ((s.recordOf b.tx (.booking b.id b.start)).map (·.status))) := by
  rw [State.reqCancelBooking, if_pos (within_iff.2 ⟨low, high⟩), held]

theorem State.recordDone_bookings (n : TxId) (id : TargetId) (why : DoneReason) (s : State) :
    (s.recordDone n id why).sch.bookings = s.sch.bookings := by
  unfold State.recordDone
  split
  · split
    · dsimp only; split <;> rfl
    · rfl
  · rfl

/-- The record of a cancelled booking ends; the changeover that may follow writes no record. -/
theorem State.cancelRecord_sch (b : Booking) (s : State) :
    (s.cancelRecord b).sch = (s.recordDone b.tx (.booking b.id b.start) .cancelled).sch := by
  unfold State.cancelRecord
  dsimp only
  split
  · split <;> simp
  next unrecorded => simp only [State.recordDone, unrecorded]

@[simp] theorem State.cancelRecord_core (b : Booking) (s : State) :
    (s.cancelRecord b).outline.core = s.outline.core := by
  unfold State.cancelRecord
  dsimp only
  split
  · split <;> simp
  · rfl

/-! ## SET-SOURCE (R77) -/

theorem exec_setSource {s : State} (free : portFree .a s) (tag : Byte) (number : Nat) (src : Stored) :
    exec (.setSource .a tag number src) s =
      .next (replied .a tag 0x20 (s.reqSetSource number src).res (s.reqSetSource number src).st) :=
  exec_request (.setSource number src) rfl free (s.permitted_a _) rfl

section Defined
variable {s : State} {number : Nat} {n : TxId} (item : itemOf 16 number = some n) (defined : s.txDefined n = true)
include item defined

theorem State.reqSetSource_planned {src : Stored} (planned : s.plan n ≠ none) :
    s.reqSetSource number src = s.refused .state 0 := by
  rw [State.reqSetSource, State.withTx_defined item defined, if_pos (Option.isSome_iff_ne_none.2 planned)]

variable (unplanned : s.plan n = none)
include unplanned

theorem State.reqSetSource_same : s.reqSetSource number (s.ctx n).stored =
    s.ok (.source (s.ctx n).source (s.ctx n).stored 0) := by
  rw [State.reqSetSource, State.withTx_defined item defined, unplanned]
  simp only [Option.isSome_none, Bool.false_eq_true, if_false, if_true]

theorem State.reqSetSource_other {src : Stored} (other : (s.ctx n).stored ≠ src) : s.reqSetSource number src =
    (s.storeSource n src).ok (.source ((s.storeSource n src).ctx n).source src (s.sourceRemoves n src)) := by
  rw [State.reqSetSource, State.withTx_defined item defined, unplanned]
  simp only [Option.isSome_none, Bool.false_eq_true, if_false, other]

end Defined

theorem State.ctx_of_txs {s t : State} (same : t.txs = s.txs) : t.ctx = s.ctx := by
  funext n; simp only [State.ctx, same]

theorem State.occ_of_sch {s t : State} (same : t.sch = s.sch) {n : TxId} : t.occ n = s.occ n := by
  simp only [State.occ, same]

/-- A context with a setting stored, and the source in force that it gives. -/
def Ctx.withSource (src : Stored) (c : Ctx) : Ctx :=
  { c with stored := src, source := if c.source = .localKey then .localKey else sourceOf src }

/-- A setting is stored and no booking ends where it is not AUTO, or the source in force is not MANUAL. -/
theorem State.storeSource_spares {s : State} {n : TxId} {src : Stored} (spares : ¬ (src = .auto ∧ (s.ctx n).source = .manual)) :
    s.storeSource n src = s.updCtx n (Ctx.withSource src) ∧ s.sourceRemoves n src = 0 := ⟨if_neg spares, if_neg spares⟩

/-- From MANUAL to AUTO the bookings end. -/
theorem State.storeSource_ends {s : State} {n : TxId} (manual : (s.ctx n).source = .manual) :
    s.storeSource n .auto = (s.updCtx n (Ctx.withSource .auto)).endBookings n ∧
      s.sourceRemoves n .auto = (s.bookingsToEnd n).length := ⟨if_pos ⟨rfl, manual⟩, if_pos ⟨rfl, manual⟩⟩

/-- A change of a context that is the same at the context as it stands. -/
theorem State.updCtx_congr {s : State} {n : TxId} {f g : Ctx → Ctx} (same : f (s.ctx n) = g (s.ctx n)) :
    s.updCtx n f = s.updCtx n g := by
  have here : f s.txs.ctx[n] = g s.txs.ctx[n] := same
  simp only [State.updCtx, here]

theorem State.mem_bookingsToEnd {s : State} {n : TxId} {b : Booking} :
    b ∈ s.bookingsToEnd n ↔ b ∈ s.sch.bookings ∧ b.tx = n ∧ s.bookingLive b = false := by
  simp [State.bookingsToEnd]

/-- Of the bookings of TXn only those that a LIVE record names are left. -/
theorem State.endBookings_left {s : State} {n : TxId} {b : Booking} (left : b ∈ (s.endBookings n).sch.bookings) :
    b ∈ s.sch.bookings ∧ (b.tx = n → s.bookingLive b = true) := by
  rw [State.endBookings_eq, State.bookingsLeave_mem] at left
  obtain ⟨stands, spared⟩ := left
  refine ⟨stands, fun own => ?_⟩
  by_contra live
  exact spared b (State.mem_bookingsToEnd.2 ⟨stands, own, by simpa using live⟩) rfl

/-- On a list of distinct IDs a LIVE booking and one of another transmitter stay. -/
theorem State.endBookings_spares {s : State} {n : TxId} {b : Booking} (distinct : (s.sch.bookings.map (·.id)).Nodup)
    (stands : b ∈ s.sch.bookings) (spared : b.tx ≠ n ∨ s.bookingLive b = true) : b ∈ (s.endBookings n).sch.bookings := by
  rw [State.endBookings_eq, State.bookingsLeave_mem]
  refine ⟨stands, fun x ends same => ?_⟩
  obtain ⟨held, own, live⟩ := State.mem_bookingsToEnd.1 ends
  obtain rfl := List.inj_on_of_nodup_map distinct stands held same
  rcases spared with other | kept
  · exact other own
  · rw [live] at kept; cases kept

end Sys2Proof.Machine

namespace Sys2Proof.Proofs
open Sys2Proof Sys2Proof.Machine Sys2Proof.Claims

/-- R75: CANCEL-BOOKING with an ID of the list. -/
theorem cancelBooking_held {s : State} (tag : Byte) {id : Nat} (free : portFree .a s) {b : Booking} (low : 1 ≤ id)
    (high : id ≤ 32) (held : s.sch.bookings.find? (fun x => decide (x.id = id)) = some b) :
    let target := TargetId.booking b.id b.start
    ∃ t, exec (.cancelBooking .a tag id) s = .next t ∧
      slotHolds .a tag (.accepted (.cancelled ((s.recordOf b.tx target).map (·.status)))) t ∧
      t.sch.bookings = s.sch.bookings.filter (fun x => !decide (x.id = id)) ∧
      (t.recordOf b.tx target).map (·.status) =
        (s.recordOf b.tx target).map (fun r => if r.inService then .done .cancelled else r.status) ∧
      t.hds = s.hds ∧ t.clk = s.clk ∧ t.snaps = s.snaps ∧ t.pins = s.pins := by
  intro target
  have still : ((s.bookingLeaves id .cancelled).cancelRecord b).still = s.still := by simp
  have core : ((s.bookingLeaves id .cancelled).cancelRecord b).outline.core = s.outline.core := by simp
  have left : (s.bookingLeaves id .cancelled).recordOf b.tx = s.recordOf b.tx :=
    State.recordOf_congr (congrFun (State.occ_of_beside (s.bookingLeaves_beside id .cancelled)) b.tx)
  have ended : ((s.bookingLeaves id .cancelled).cancelRecord b).recordOf b.tx target =
      (s.recordOf b.tx target).map (OccRec.doneBy .cancelled) := by
    rw [State.recordOf_congr (State.occ_of_sch (State.cancelRecord_sch b _)), State.recordDone_recordOf, left]
  rw [exec_cancelBooking free, State.reqCancelBooking_held low high held]
  refine ⟨_, rfl, ⟨_, rfl, rfl, rfl⟩, ?_, ?_, ?_, ?_, ?_, ?_⟩
  · rw [replied_sch, State.ok, State.cancelRecord_sch, State.recordDone_bookings, State.bookingLeaves_bookings]
  · rw [State.recordOf_congr (replied_occ ..)]
    simp only [State.ok, ended, Option.map_map, Function.comp_def, OccRec.doneBy_status]
  · rw [replied_hds]; exact State.hds_of_still still
  · rw [replied_clk]; exact State.clk_of_core core
  · rw [replied_snaps]; exact State.snaps_of_still still
  · rw [replied_pins]; exact State.pins_of_still still

/-- R77: SET-SOURCE from MANUAL to AUTO, for a transmitter with no plan. -/
theorem setSource_auto {s : State} (tag : Byte) {number : Nat} {n : TxId} (free : portFree .a s)
    (item : itemOf 16 number = some n) (defined : s.txDefined n = true) (unplanned : s.plan n = none)
    (stored : (s.ctx n).stored = .manual) (source : (s.ctx n).source = .manual) :
    ∃ t k, exec (.setSource .a tag number .auto) s = .next t ∧ slotHolds .a tag (.accepted (.source .auto .auto k)) t ∧
      t.ctx n = { s.ctx n with stored := .auto, source := .auto } ∧ (∀ m, m ≠ n → t.ctx m = s.ctx m) ∧
      k = (s.sch.bookings.filter fun b => decide (b.tx = n) && !s.bookingLive b).length ∧
      (∀ b ∈ t.sch.bookings, b ∈ s.sch.bookings ∧ (b.tx = n → s.bookingLive b = true)) ∧
      ((s.sch.bookings.map (·.id)).Nodup →
        ∀ b ∈ s.sch.bookings, b.tx ≠ n ∨ s.bookingLive b = true → b ∈ t.sch.bookings) ∧
      t.sch.occ = s.sch.occ ∧ t.csq = s.csq ∧ t.amx = s.amx ∧ t.hds = s.hds := by
  obtain ⟨stores, removes⟩ := State.storeSource_ends source
  have beside : (s.storeSource n .auto).besideBookings = (s.updCtx n (Ctx.withSource .auto)).besideBookings := by
    rw [stores]; exact State.bookingsLeave_beside _ .source _
  have txs : (s.storeSource n .auto).txs = (s.updCtx n (Ctx.withSource .auto)).txs := (congrArg State.txs beside :)
  have auto : (s.storeSource n .auto).ctx n = { s.ctx n with stored := .auto, source := .auto } := by
    simp only [State.ctx_of_txs txs, State.updCtx_ctx, Ctx.withSource, source, reduceCtorEq, if_false, sourceOf]
  rw [exec_setSource free, State.reqSetSource_other item defined unplanned (by rw [stored]; decide), removes, auto]
  refine ⟨_, _, rfl, ⟨_, rfl, rfl, rfl⟩, (replied_ctx ..).trans auto, fun m other => ?_, rfl, fun b left => ?_,
    fun distinct b stands spared => ?_, (congrArg (fun t => t.sch.occ) beside :), (congrArg State.csq beside :),
    (congrArg State.amx beside :), (congrArg State.hds beside :)⟩
  · rw [replied_ctx]
    exact (congrFun (State.ctx_of_txs txs) m).trans (State.updCtx_ctx_ne n m other _ s)
  · rw [replied_sch, State.ok, stores] at left
    exact State.endBookings_left (s := s.updCtx n (Ctx.withSource .auto)) left
  · rw [replied_sch, State.ok, stores]
    exact State.endBookings_spares (s := s.updCtx n (Ctx.withSource .auto)) distinct stands spared

/-- Settles O23, by the answers of the two requests; the bookings that end leave one after another. -/
theorem bookingsEndAndSourcesChange : Obligations.BookingsEndAndSourcesChange := by
  refine ⟨fun s tag id free => ⟨fun outside => ?_, fun low high absent => ?_,
      fun b low high held => cancelBooking_held tag free low high held⟩,
    fun s tag number src n free item => ⟨fun undefined => ?_, fun defined planned => ?_, fun defined unplanned =>
      ⟨fun same => ?_, fun other key => ?_, ?_, ?_⟩⟩⟩
  · rw [exec_cancelBooking free, State.reqCancelBooking_range outside]; rfl
  · rw [exec_cancelBooking free, State.reqCancelBooking_absent low high absent]; rfl
  · rw [exec_setSource free, State.reqSetSource, State.withTx_undefined item undefined]; rfl
  · rw [exec_setSource free, State.reqSetSource_planned item defined planned]; rfl
  · subst same
    rw [exec_setSource free, State.reqSetSource_same item defined unplanned]; rfl
  · have spares : ¬ (src = .auto ∧ (s.ctx n).source = .manual) := by rw [key]; exact fun ⟨_, never⟩ => nomatch never
    have stores := State.updCtx_congr (s := s) (n := n) (f := Ctx.withSource src) (g := fun c => { c with stored := src })
      (by simp only [Ctx.withSource, key, if_true])
    rw [exec_setSource free, State.reqSetSource_other item defined unplanned other, (State.storeSource_spares spares).1,
      (State.storeSource_spares spares).2, stores]
    simp only [State.ok, State.updCtx_ctx, key]
  · rintro rfl stored remote
    have spares : ¬ (Stored.manual = .auto ∧ (s.ctx n).source = .manual) := fun ⟨never, _⟩ => nomatch never
    have stores := State.updCtx_congr (s := s) (n := n) (f := Ctx.withSource .manual)
      (g := fun c => { c with stored := .manual, source := .manual })
      (by simp only [Ctx.withSource, remote, if_false, sourceOf])
    rw [exec_setSource free, State.reqSetSource_other item defined unplanned (by rw [stored]; decide),
      (State.storeSource_spares spares).1, (State.storeSource_spares spares).2, stores]
    simp only [State.ok, State.updCtx_ctx]
  · rintro rfl stored source
    exact setSource_auto tag free item defined unplanned stored source

end Sys2Proof.Proofs
end

section
/-! PROOFS. The targets that the occurrence records name: nothing but a new record changes them (R60, R61). -/

namespace Sys2Proof.Machine
open Sys2Proof Sys2Proof.Claims

/-- The targets that the two records of a transmitter name. -/
def Sch.names (v : Sch) (n : TxId) : Option TargetId × Option TargetId :=
  ((v.occ[n]).cur.map (·.id), (v.occ[n]).prev.map (·.id))

theorem State.recorded_iff {s : State} {n : TxId} {id : TargetId} :
    s.recorded n id = true ↔ (s.sch.names n).1 = some id ∨ (s.sch.names n).2 = some id := by
  have occ : s.sch.occ[n] = s.occ n := rfl
  simp only [State.recorded, State.recordOf, Sch.names, occ]
  cases (s.occ n).cur with
  | none => cases (s.occ n).prev <;> simp [Option.filter_some, apply_ite Option.isSome]
  | some r =>
    by_cases named : r.id = id
    · simp [named]
    · cases (s.occ n).prev <;> simp [named, Option.filter_some, apply_ite Option.isSome]

theorem State.recorded_of_names {s t : State} {n : TxId} {id : TargetId} (same : t.sch.names = s.sch.names)
    (held : s.recorded n id = true) : t.recorded n id = true := by
  rw [State.recorded_iff, same]; exact State.recorded_iff.1 held

/-! ## A change of status -/

theorem Occ.change_names {id : TargetId} {f : OccRec → OccRec} (keeps : ∀ r, (f r).id = r.id) (o : Occ) :
    (o.change id f).cur.map (·.id) = o.cur.map (·.id) ∧ (o.change id f).prev.map (·.id) = o.prev.map (·.id) := by
  have one (q : OccRec) : (if q.id = id then f q else q).id = q.id := by split <;> simp [keeps]
  unfold Occ.change
  split
  · split <;> simp [*, Function.comp_def]
  · simp [*, Function.comp_def]

theorem State.updOcc_names {n : TxId} {id : TargetId} {f : OccRec → OccRec} (keeps : ∀ r, (f r).id = r.id) (s : State) :
    (s.updOcc n (Occ.change id f)).sch.names = s.sch.names := by
  funext m
  by_cases same : m = n
  · subst same
    obtain ⟨cur, prev⟩ := Occ.change_names (id := id) keeps (s.occ m)
    have occ : (s.updOcc m (Occ.change id f)).sch.occ[m] = (s.occ m).change id f := State.updOcc_occ m _ s
    simp only [Sch.names, occ, cur, prev]
    rfl
  · have occ : (s.updOcc n (Occ.change id f)).sch.occ[m] = s.sch.occ[m] := getElem_set_of_ne s.sch.occ same _
    simp only [Sch.names, occ]

@[simp] theorem State.setStatus_names (n : TxId) (id : TargetId) (st : OccStatus) (s : State) :
    (s.setStatus n id st).sch.names = s.sch.names :=
  State.updOcc_names (f := fun r => { r with status := st }) (fun _ => rfl) s

@[simp] theorem State.bookingLeaves_names (id : Nat) (c : BookEnd) (s : State) :
    (s.bookingLeaves id c).sch.names = s.sch.names := by
  unfold State.bookingLeaves; split <;> rfl

@[simp] theorem State.targetBookingLeaves_names (id : TargetId) (c : BookEnd) (s : State) :
    (s.targetBookingLeaves id c).sch.names = s.sch.names := by
  unfold State.targetBookingLeaves
  split
  · split <;> simp
  · rfl

@[simp] theorem State.recordLive_names (n : TxId) (id : TargetId) (s : State) :
    (s.recordLive n id).sch.names = s.sch.names := by
  unfold State.recordLive
  split
  · split
    · exact State.updOcc_names (f := fun q => { q with status := .live, onAir := some s.now }) (fun _ => rfl) s
    · rfl
  · rfl

@[simp] theorem State.recordLost_names (n : TxId) (id : TargetId) (cause : Cause) (s : State) :
    (s.recordLost n id cause).sch.names = s.sch.names := by
  unfold State.recordLost
  split
  · split
    · split <;> simp
    · rfl
  · rfl

/-! ## Plans and causes -/

@[simp] theorem State.stopRecycle_sch (n : TxId) (s : State) : (s.stopRecycle n).sch = s.sch := by
  have left (t : State) : (t.leaveTripped n).sch = t.sch := by unfold State.leaveTripped; dsimp only; split <;> rfl
  unfold State.stopRecycle
  split
  · rw [State.endTrip, left]; rfl
  · rfl

@[simp] theorem State.ownAs_sch (n : TxId) (t : Setpoint) (s : State) : (s.ownAs n t).sch = s.sch := by
  unfold State.ownAs; split <;> rfl

@[simp] theorem State.planDone_names (n : TxId) (p : Plan) (s : State) : (s.planDone n p).sch.names = s.sch.names := by
  unfold State.planDone
  dsimp only
  split <;> split <;> simp

@[simp] theorem State.settlePlan_names (n : TxId) (s : State) : (s.settlePlan n).sch.names = s.sch.names := by
  unfold State.settlePlan
  split
  · split_ifs
    · rfl
    · simp
    · rfl
    · rfl
  · rfl

@[simp] theorem State.windDown_names (n : TxId) (cause : Cause) (k : Nat) (hp : HoldPoint) (s : State) :
    (s.windDown n cause k hp).sch.names = s.sch.names := by simp [State.windDown]

@[simp] theorem State.abandon_names (n : TxId) (cause : Cause) (s : State) :
    (s.abandon n cause).sch.names = s.sch.names := by
  unfold State.abandon
  split
  · dsimp only
    split <;> split <;> simp
  · rfl

@[simp] theorem State.takeDown_names (n : TxId) (cause : Cause) (s : State) :
    (s.takeDown n cause).sch.names = s.sch.names := by
  have lost : (s.liveLost n cause).sch.names = s.sch.names := by unfold State.liveLost; split <;> simp
  unfold State.takeDown
  dsimp only
  split <;> simp [State.drawnDuration, lost]

@[simp] theorem State.causeReaches_names (n : TxId) (cause : Cause) (s : State) :
    (s.causeReaches n cause).sch.names = s.sch.names := by
  unfold State.causeReaches
  split
  · split_ifs <;> simp
  · unfold State.interrupt; split <;> simp

@[simp] theorem State.nameCause_names (n : TxId) (cause : Cause) (s : State) :
    (s.nameCause n cause).sch.names = s.sch.names := by
  unfold State.nameCause; split <;> simp

/-! ## Claims -/

theorem State.enterQueue_sch {a : AntId} {c : Claim} {s t : State} (enters : s.enterQueue a c = some t) :
    t.sch = s.sch := by
  have reserved (u : State) : (u.reserve a c).sch = u.sch := by unfold State.reserve; dsimp only; split <;> rfl
  unfold State.enterQueue at enters
  repeat' split at enters
  all_goals cases enters
  · exact reserved s
  · exact reserved _

@[simp] theorem State.judgeClaim_names (a : AntId) (c : Claim) (s : State) :
    (s.judgeClaim a c).1.sch.names = s.sch.names := by
  unfold State.judgeClaim
  extract_lets unowned emptyQueue obstacle
  split
  · rfl
  · split
    · split
      next enters => simp [State.enterQueue_sch enters]
      · rfl
    · split
      · unfold State.entered
        split
        next enters => rw [State.enterQueue_sch enters]
        · rfl
      · rfl

@[simp] theorem State.claim_names (a : AntId) (c : Claim) (s : State) : (s.claim a c).1.sch.names = s.sch.names := by
  unfold State.claim
  split_ifs
  · rfl
  · rfl
  · rfl
  · rw [State.judgeClaim_names]; split <;> simp

@[simp] theorem State.submitClaim_names (n : TxId) (s : State) : (s.submitClaim n).sch.names = s.sch.names := by
  unfold State.submitClaim
  split
  · split
    · dsimp only
      split <;> simp
    · rfl
  · rfl

@[simp] theorem State.changeover_names (n : TxId) (c : Changeover) (s : State) :
    (s.changeover n c).sch.names = s.sch.names := by
  have claimed (t : State) : (t.claimIfNeeded n).sch.names = t.sch.names := by
    unfold State.claimIfNeeded
    split
    · split
      · split <;> simp
      · rfl
    · rfl
  unfold State.changeover
  split
  · rfl
  · rw [State.settlePlan_names, claimed]; rfl

end Sys2Proof.Machine
end

section
/-! PROOFS. The decision for a covering target that is not recorded (R62, R64, R70, R124). -/

namespace Sys2Proof.Machine
open Sys2Proof Sys2Proof.Claims

/-! ## The stage a transmitter comes to (R62, R69) -/

theorem State.unjudged_eq_false {s : State} {n : TxId} : s.unjudged n = false ↔ ((s.ctx n).source ≠ .localKey ∧
    (s.ctx n).state ≠ .faulted ∧ (s.ctx n).state ≠ .tripped ∧ (s.ctx n).state ≠ .unknown) ∧ (s.ctx n).lineUp = true := by
  simp [State.unjudged, and_assoc]

theorem State.decisionStage_unjudged {s : State} {n : TxId} (unjudged : s.unjudged n = true) (ended : Option TargetId) :
    s.decisionStage n ended = s := by
  simp only [State.decisionStage, unjudged, Bool.or_true, if_true]

section Judged
variable {s : State} {n : TxId} (judged : s.unjudged n = false)
include judged

theorem State.decisionStage_running (running : s.txs.hall = .running) (unplanned : s.plan n = none) (ended : Option TargetId) :
    s.decisionStage n ended = s.decideTx n ended := by
  simp [State.decisionStage, State.hallRuns, running, judged, unplanned]

theorem State.decisionStage_halting (halting : s.txs.hall = .halting) (unplanned : s.plan n = none) (ended : Option TargetId) :
    s.decisionStage n ended = s.decideHalting n := by
  simp [State.decisionStage, State.hallRuns, halting, judged, unplanned]

theorem State.decisionStage_planned (runs : s.txs.hall = .running ∨ s.txs.hall = .halting) {p : Plan}
    (planned : s.plan n = some p) (ended : Option TargetId) : s.decisionStage n ended = s.retargetCheck n p := by
  rcases runs with hall | hall <;> simp [State.decisionStage, State.hallRuns, hall, judged, planned]

end Judged

/-! ## Orders that change neither records nor plans (R82, R87) -/

/-- Records, plans and the context state of TXn stand. -/
def State.Spares (n : TxId) (s t : State) : Prop := t.sch = s.sch ∧ t.csq = s.csq ∧ (t.ctx n).state = (s.ctx n).state

theorem State.Spares.refl (n : TxId) (s : State) : s.Spares n s := ⟨rfl, rfl, rfl⟩

theorem State.Spares.trans {n : TxId} {s t u : State} (first : s.Spares n t) (next : t.Spares n u) : s.Spares n u := by
  obtain ⟨sch, csq, state⟩ := first
  obtain ⟨sch', csq', state'⟩ := next
  exact ⟨sch'.trans sch, csq'.trans csq, state'.trans state⟩

theorem State.updCtx_spares {n : TxId} {f : Ctx → Ctx} {s : State} (keeps : (f (s.ctx n)).state = (s.ctx n).state) :
    s.Spares n (s.updCtx n f) := ⟨rfl, rfl, by rw [State.updCtx_ctx, keeps]⟩

theorem State.startRamp_spares (n : TxId) (k : RampKind) (s : State) : s.Spares n (s.startRamp n k) :=
  State.updCtx_spares (s := s.startChan _ _) rfl

/-- DARKEN and DRIVE: the orders whose sending leaves the context state. -/
def Order.calm (o : Order) : Bool := decide (o = .darken) || o.isDrive

theorem State.sendNow_spares {n : TxId} {o : Order} (calm : o.calm = true) (who : Asker) (s : State) :
    s.Spares n (s.sendNow n who o) := by
  have sent : s.Spares n ((s.startChan (.tx n .accept) 1000).updCtx n fun c => { c with
      outstanding := some ⟨o, s.now, who, c.state, c.drive⟩, unshown := noteSent o c.unshown,
      sentSince := c.sentSince.note o }) := State.updCtx_spares (s := s.startChan _ _) rfl
  cases o with
  | darken => exact sent
  | drive v => exact sent.trans (State.updCtx_spares rfl)
  | _ => cases calm

/-- An order that is not barred, or whose refusal changes nothing, asked with none deferred. -/
theorem State.askOrder_spares {s : State} {n : TxId} {who : Asker} {o : Order} (calm : o.calm = true)
    (undeferred : (s.ctx n).deferred = none)
    (refusal : ∀ why, (s.ctx n).lineUp = false ∨ s.orderBar n who o = some why → s.refuse n who o why = s) :
    s.Spares n (s.askOrder n who o) := by
  have slotted : s.Spares n (s.defer n who o) := by
    simp only [State.defer, undeferred]
    exact State.updCtx_spares rfl
  unfold State.askOrder
  split
  · split
    · split
      next why barred => rw [refusal why (.inr barred)]; exact .refl n s
      · split
        · exact .refl n s
        · split
          · exact slotted
          · exact State.sendNow_spares calm who s
    next lost =>
      split
      next owed => exact State.updCtx_spares rfl
      · rw [refusal _ (.inl (by simpa using lost))]; exact .refl n s
  · exact .refl n s

/-- The idle-darken test leaves the records and the plans where no order is deferred on the line, or the transmitter is not in
STANDBY (R70). -/
theorem State.idleDarken_spares {s : State} {n : TxId} (quiet : (s.ctx n).deferred = none ∨ (s.ctx n).state ≠ .standby) :
    s.Spares n (s.idleDarken n) := by
  unfold State.idleDarken
  dsimp only
  split
  · split
    next idle =>
      obtain ⟨standby, -⟩ := idle
      exact State.askOrder_spares rfl (quiet.resolve_right fun other => other standby) fun _ _ => rfl
    · exact .refl n s
  · exact .refl n s

/-! ## The match (R124) -/

/-- The recomposition of a drive touches RFP's record alone (R159). -/
theorem State.recomposed_spares (n : TxId) (s : State) :
    s.Spares n (s.recomposed n).1 ∧ (s.recomposed n).1.ctx n = s.ctx n := by
  unfold State.recomposed State.drawn
  split
  · split <;> exact ⟨.refl n s, rfl⟩
  · exact ⟨.refl n s, rfl⟩

/-- The ownership and RFP's record after a match, as the drive is about to be recomposed (R124). -/
def State.relinked (n : TxId) (q : Setpoint) (s : State) : State :=
  ((s.ownAs n q).updProt n fun p => { p with power := some q.power, path := q.path }).updCtx n fun c => { c with adopted := false }

theorem State.matched_eq (n : TxId) (q : Setpoint) (s : State) :
    s.matched n q = ((s.relinked n q).recomposed n).1.driveTo n := rfl

theorem State.relinked_spares (n : TxId) (q : Setpoint) (s : State) :
    s.Spares n (s.relinked n q) ∧ (s.relinked n q).ctx n = { s.ctx n with adopted := false } := by
  have owned : (s.ownAs n q).sch = s.sch ∧ (s.ownAs n q).csq = s.csq ∧ (s.ownAs n q).ctx n = s.ctx n := by
    unfold State.ownAs; split <;> exact ⟨rfl, rfl, rfl⟩
  obtain ⟨sch, csq, ctx⟩ := owned
  have unlinked : (s.relinked n q).ctx n = { s.ctx n with adopted := false } := by
    rw [State.relinked, State.updCtx_ctx, State.updProt_ctx, ctx]
  exact ⟨⟨sch, csq, by rw [unlinked]⟩, unlinked⟩

section OnAir
variable {s : State} {n : TxId} (judged : s.unjudged n = false) (undeferred : (s.ctx n).deferred = none)
  (air : (s.ctx n).state = .onAir)
include judged undeferred air

/-- No check of R87 and R88 bars a lower drive on air. -/
theorem State.driveTo_spares (on : (s.ctx n).rf = .on) : s.Spares n (s.driveTo n) := by
  obtain ⟨⟨remote, -⟩, up⟩ := State.unjudged_eq_false.1 judged
  unfold State.driveTo
  dsimp only
  rw [if_neg remote, air]
  dsimp only
  split_ifs with lower
  · refine State.askOrder_spares rfl undeferred fun why barred => ?_
    have free : s.orderBar n .rfp (.drive (s.prot n).d) = none := by
      simp [State.orderBar, remote, Ctx.takes, air, on, Order.upward, lower.le]
    rw [up, free] at barred
    exact absurd barred (by simp)
  · exact State.startRamp_spares n .air s
  · exact .refl n s

/-- A transmitter that is linked by a match keeps its records and its plan, and stays ON_AIR. -/
theorem State.matched_spares (on : (s.ctx n).rf = .on) (q : Setpoint) : s.Spares n (s.matched n q) := by
  obtain ⟨linked, unlinked⟩ := s.relinked_spares n q
  obtain ⟨shaped, kept⟩ := (s.relinked n q).recomposed_spares n
  have ready := kept.trans unlinked
  rw [State.matched_eq]
  refine (linked.trans shaped).trans (State.driveTo_spares ?_ ?_ ?_ ?_)
  · simpa only [State.unjudged, ready] using judged
  · rw [ready]; exact undeferred
  · rw [ready]; exact air
  · rw [ready]; exact on

end OnAir

/-! ## The covering target (R64) -/

/-- A candidate's record, once it is created, whatever follows that keeps SCH's records. -/
theorem State.recordOf_of_record {s t : State} {n : TxId} {c : Cand} {st : OccStatus} {onAir : Option Nat}
    (occ : t.occ n = (s.newRecord n (c.record st onAir)).occ n) : t.recordOf n c.id = some (c.record st onAir) := by
  rw [State.recordOf_congr occ]
  exact State.newRecord_recordOf n (c.record st onAir) s

theorem State.miss_occ (n : TxId) (c : Cand) (why : MissCause) (s : State) :
    (s.miss n c why).occ n = (s.newRecord n (c.record (.missed why) none)).occ n :=
  congrFun (State.occ_of_beside (State.targetBookingLeaves_beside c.id (.missed why) _)) n

theorem State.miss_ctx (n : TxId) (c : Cand) (why : MissCause) (s : State) : (s.miss n c why).ctx n = s.ctx n := by
  have txs : (s.miss n c why).txs = s.txs := (congrArg State.txs (State.targetBookingLeaves_beside c.id (.missed why) _) :)
  rw [State.ctx_of_txs txs]

/-- A candidate that is given up is MISSED, through the idle-darken test that follows. -/
theorem State.miss_missed {s : State} {n : TxId} (undeferred : (s.ctx n).deferred = none) (c : Cand) (why : MissCause) :
    (((s.miss n c why).idleDarken n).recordOf n c.id).map (·.status) = some (.missed why) := by
  obtain ⟨sch, -⟩ := State.idleDarken_spares (s := s.miss n c why) (n := n) (.inl (by rw [State.miss_ctx, undeferred]))
  rw [State.recordOf_of_record ((State.occ_of_sch sch).trans (State.miss_occ n c why s))]
  rfl

theorem State.link_occ (n : TxId) (c : Cand) (s : State) :
    (s.link n c).occ n = ((s.matched n c.setp).newRecord n (c.record .live (some s.now))).occ n :=
  State.occ_of_sch (by simp only [State.link, State.post_sch])

theorem State.link_ctx (n : TxId) (c : Cand) (s : State) : (s.link n c).ctx n = (s.matched n c.setp).ctx n := by
  simp only [State.link, State.ctx, State.post_txs, State.newRecord, State.updOcc_txs]

theorem State.link_csq (n : TxId) (c : Cand) (s : State) : (s.link n c).csq = (s.matched n c.setp).csq := by
  simp only [State.link, State.post_csq, State.newRecord, State.updOcc_csq]

/-- The transmitter is linked LIVE with no plan, through the idle-darken test that follows. -/
theorem State.link_live {s : State} {n : TxId} {c : Cand} (judged : s.unjudged n = false)
    (undeferred : (s.ctx n).deferred = none) (matching : s.matching n c.setp = true) :
    (((s.link n c).idleDarken n).recordOf n c.id).map (·.status) = some .live ∧ ((s.link n c).idleDarken n).plan n = none := by
  simp only [State.matching, Bool.and_eq_true, decide_eq_true_eq, Option.isNone_iff_eq_none] at matching
  obtain ⟨⟨⟨⟨⟨⟨air, on⟩, unplanned⟩, -⟩, -⟩, -⟩, -⟩ := matching
  obtain ⟨-, csq, state⟩ := State.matched_spares judged undeferred air on c.setp
  have standing : ((s.link n c).ctx n).state ≠ .standby := by
    rw [State.link_ctx, state, air]; decide
  obtain ⟨sch, csq', -⟩ := State.idleDarken_spares (.inr standing)
  refine ⟨?_, ?_⟩
  · rw [State.recordOf_of_record ((State.occ_of_sch sch).trans (State.link_occ n c s))]
    rfl
  · rw [State.plan_of_csq (csq'.trans ((State.link_csq n c s).trans csq)), unplanned]

theorem State.inServiceRec_of_new {s : State} {n : TxId} {id : TargetId} (new : s.recorded n id = false) :
    s.inServiceRec n id = false := by
  rw [State.recorded, Option.isSome_eq_false_iff, Option.isNone_iff_eq_none] at new
  simp only [State.inServiceRec, new]

theorem State.gapNotice_sch (n : TxId) (c : Cand) (ended : Option TargetId) (s : State) :
    (s.gapNotice n c ended).sch = s.sch := by
  cases ended with
  | none => rfl
  | some old =>
    simp only [State.gapNotice]
    split
    · rw [State.post_sch]
    · rfl

theorem State.pend_new {s : State} {n : TxId} {c : Cand} (new : s.inServiceRec n c.id = false) :
    s.pend n c = s.newRecord n (c.record .pending none) := by
  simp only [State.pend, new, Bool.false_eq_true, if_false]

/-- A changeover toward a candidate that is not recorded records it. -/
theorem State.startToward_recorded {s : State} {n : TxId} {c : Cand} (new : s.recorded n c.id = false)
    (ended : Option TargetId) : (s.startToward n c ended).recorded n c.id = true := by
  have pended : (s.pend n c).recorded n c.id = true := by
    have held : (s.pend n c).recordOf n c.id = some (c.record .pending none) := by
      rw [State.pend_new (State.inServiceRec_of_new new)]
      exact State.newRecord_recordOf n (c.record .pending none) s
    rw [State.recorded, held, Option.isSome_some]
  have names : (s.startToward n c ended).sch.names = (s.pend n c).sch.names := by
    rw [State.startToward, State.changeover_names, State.gapNotice_sch]
  exact State.recorded_of_names names pended

/-- The decision for a covering target that is not recorded. -/
theorem State.decideTx_covering {s : State} {n : TxId} {c : Cand} (covered : s.covering n = some c)
    (idle : s.inServiceRec n c.id = false) (ended : Option TargetId) : s.decideTx n ended =
      if !s.invalidBooking n c && !s.matching n c.setp && !s.tooLate c then s.takeUp n c ended
      else (s.takeUp n c ended).idleDarken n := by
  simp only [State.decideTx, State.startsChangeover, State.serveTarget, covered, idle, Bool.not_false, Bool.true_and,
    Bool.false_eq_true, if_false]

end Sys2Proof.Machine

namespace Sys2Proof.Proofs
open Sys2Proof Sys2Proof.Machine Sys2Proof.Claims

/-- Settles O24, by the four ways R64 takes an unrecorded covering target, each followed by the idle-darken test but the last. -/
theorem coveringTargetIsDecided : Obligations.CoveringTargetIsDecided := by
  intro s n c ended
  refine ⟨fun unjudged => State.decisionStage_unjudged unjudged ended,
    fun running judged unplanned undeferred covered new => ?_⟩
  have idle := State.inServiceRec_of_new new
  intro t
  dsimp only
  have decided : t = if !s.invalidBooking n c && !s.matching n c.setp && !s.tooLate c then s.takeUp n c ended
      else (s.takeUp n c ended).idleDarken n :=
    (State.decisionStage_running judged running unplanned ended).trans (State.decideTx_covering covered idle ended)
  refine ⟨fun invalid => ?_, fun valid matching => ?_, fun valid other late => ?_, fun valid other inTime => ?_⟩
  · have missed : t = (s.miss n c .invalid).idleDarken n := by simp [decided, State.takeUp, invalid]
    rw [missed, State.miss_missed undeferred]
  · have linked : t = (s.link n c).idleDarken n := by simp [decided, State.takeUp, valid, matching]
    rw [linked]
    exact State.link_live judged undeferred matching
  · have missed : t = (s.miss n c .late).idleDarken n := by simp [decided, State.takeUp, valid, other, late]
    rw [missed, State.miss_missed undeferred]
  · have started : t = s.startToward n c (if c.start = s.now then ended else none) := by
      simp [decided, State.takeUp, valid, other, inTime]
    rw [started, State.startToward_recorded new]

end Sys2Proof.Proofs
end

section
/-! PROOFS. The bookkeeping of a second: ends of LIVE records, bookings that expire, disabled entries (R61, R63, R77). -/

namespace Sys2Proof.Machine
open Sys2Proof Sys2Proof.Claims

/-! ## Views that bookings do not enter -/

theorem State.now_of_beside {s t : State} (same : t.besideBookings = s.besideBookings) : t.now = s.now := by
  have clk : t.clk = s.clk := (congrArg State.clk same :)
  simp only [State.now, clk]

theorem State.entryOccs_of_beside {s t : State} (same : t.besideBookings = s.besideBookings) : t.entryOccs = s.entryOccs := by
  have clk : t.clk = s.clk := (congrArg State.clk same :)
  have active : t.sch.active = s.sch.active := (congrArg (fun u : State => u.sch.active) same :)
  funext n disabled
  simp only [State.entryOccs, State.nearDays, clk, active]

theorem State.ctx_of_beside {s t : State} (same : t.besideBookings = s.besideBookings) : t.ctx = s.ctx :=
  State.ctx_of_txs (congrArg State.txs same :)

theorem State.expireBookings_beside (n : TxId) (s : State) : (s.expireBookings n).besideBookings = s.besideBookings :=
  State.bookingsLeave_beside _ .ended s

/-! ## The end of a LIVE record (R63 step 1) -/

theorem State.endLive_ends {s : State} {n : TxId} {r : OccRec} {why : DoneReason} (live : s.liveRec n = some r)
    (ends : s.liveEnd n r = some why) :
    s.endLive n = ((s.recordDone n r.id why).targetBookingLeaves r.id why.bookEnd, some r.id) := by
  simp only [State.endLive, live, ends]

theorem State.endLive_keeps {s : State} {n : TxId} {r : OccRec} (live : s.liveRec n = some r)
    (stays : s.liveEnd n r = none) : s.endLive n = (s, none) := by
  simp only [State.endLive, live, stays]

theorem State.endLive_none {s : State} {n : TxId} (none : s.liveRec n = none) : s.endLive n = (s, .none) := by
  simp only [State.endLive, none]

theorem State.liveEnd_over {s : State} {n : TxId} {r : OccRec} (isOver : covers r.start r.finish s.now = false) :
    s.liveEnd n r = some .ended := by
  simp only [State.liveEnd, isOver, Bool.not_false, if_true]

theorem State.liveEnd_source {s : State} {n : TxId} {r : OccRec} {c : Cand} (covered : covers r.start r.finish s.now = true)
    (target : s.covering n = some c) (kind : c.id.isBooking ≠ r.id.isBooking) : s.liveEnd n r = some .source := by
  simp only [State.liveEnd, covered, target, kind, Bool.not_true, Bool.false_eq_true, if_false]

theorem State.liveEnd_stays {s : State} {n : TxId} {r : OccRec} (covered : covers r.start r.finish s.now = true)
    (kind : ∀ c, s.covering n = some c → c.id.isBooking = r.id.isBooking) : s.liveEnd n r = none := by
  cases target : s.covering n with
  | none => simp only [State.liveEnd, covered, target, Bool.not_true, Bool.false_eq_true, if_false]
  | some c => simp only [State.liveEnd, covered, target, kind c target, Bool.not_true, Bool.false_eq_true, if_false, if_true]

/-- The record that names a target, once step 1 has ended the LIVE one. -/
theorem State.endLive_recordOf {s : State} {n : TxId} {r : OccRec} {why : DoneReason} (live : s.liveRec n = some r)
    (ends : s.liveEnd n r = some why) : (s.endLive n).1.recordOf n r.id = some (r.doneBy why) ∧
      ∀ id, id ≠ r.id → (s.endLive n).1.recordOf n id = s.recordOf n id := by
  have beside := (s.recordDone n r.id why).targetBookingLeaves_beside r.id why.bookEnd
  have left := State.recordOf_congr (congrFun (State.occ_of_beside beside) n)
  obtain ⟨cur, -⟩ := State.liveRec_eq_some.1 live
  rw [State.endLive_ends live ends]
  refine ⟨?_, fun id other => ?_⟩
  · rw [left, State.recordDone_recordOf, State.recordOf_cur cur, Option.map_some]
  · rw [left, State.recordDone_recordOf_ne other]

/-- A record in service after step 1 was in service before it. -/
theorem State.inServiceRec_of_endLive {s : State} {n : TxId} {id : TargetId}
    (serves : (s.endLive n).1.inServiceRec n id = true) : s.inServiceRec n id = true := by
  cases live : s.liveRec n with
  | none => rwa [State.endLive_none live] at serves
  | some r => cases ends : s.liveEnd n r with
    | none => rwa [State.endLive_keeps live ends] at serves
    | some why =>
      obtain ⟨done, others⟩ := State.endLive_recordOf live ends
      by_cases same : id = r.id
      · subst same
        rw [State.inServiceRec, done] at serves
        exact absurd serves (by simp [OccRec.doneBy_inService])
      · rwa [State.inServiceRec, others id same] at serves

/-! ## Bookings that expire, and disabled entries (R63 steps 2 and 3) -/

/-- The disabled entry that step 3 records. -/
def State.disabledNow (s : State) (n : TxId) : Option Cand :=
  (s.entryOccs n true).find? fun c => covers c.start c.finish s.now && !s.recorded n c.id

theorem State.noteDisabled_busy {s : State} {n : TxId} {r : OccRec} (cur : (s.occ n).cur = some r)
    (serves : r.inService = true) : s.noteDisabled n = s := by
  simp [State.noteDisabled, cur, serves]

theorem State.noteDisabled_none {s : State} {n : TxId} (none : s.disabledNow n = none) : s.noteDisabled n = s := by
  unfold State.disabledNow at none
  simp [State.noteDisabled, none]

theorem State.noteDisabled_occ {s : State} {n : TxId} {c : Cand} (found : s.disabledNow n = some c) :
    s.noteDisabled n = s ∨ (s.noteDisabled n).occ n = ⟨some (c.record .disabled none), (s.occ n).cur⟩ := by
  unfold State.disabledNow at found
  simp only [State.noteDisabled, found]
  split
  · exact .inr (State.newRecord_occ n _ s)
  · exact .inl rfl

theorem State.noteDisabled_records {s : State} {n : TxId} {c : Cand} (auto : (s.ctx n).source = .auto)
    (idle : ∀ r, (s.occ n).cur = some r → r.inService = false) (found : s.disabledNow n = some c) :
    (s.noteDisabled n).occ n = ⟨some (c.record .disabled none), (s.occ n).cur⟩ := by
  have free : (s.occ n).cur.any OccRec.inService = false := by
    cases cur : (s.occ n).cur with
    | none => rfl
    | some r => exact idle r cur
  unfold State.disabledNow at found
  simp only [State.noteDisabled, found, auto, free, and_self, if_true]
  exact State.newRecord_occ n _ s

/-- The current record is still found by its target once a disabled entry has been recorded. -/
theorem State.noteDisabled_recordOf {s : State} {n : TxId} {r : OccRec} (cur : (s.occ n).cur = some r) :
    (s.noteDisabled n).recordOf n r.id = some r := by
  cases found : s.disabledNow n with
  | none => rw [State.noteDisabled_none found, State.recordOf_cur cur]
  | some c =>
    rcases State.noteDisabled_occ found with same | occ
    · rw [same, State.recordOf_cur cur]
    · refine State.recordOf_prev (by rw [occ]) (by rw [occ, cur]) fun (same : c.id = r.id) => ?_
      have new := List.find?_some found
      rw [same, State.recorded, State.recordOf_cur cur] at new
      simp at new

theorem State.noteDisabled_bookings (n : TxId) (s : State) : (s.noteDisabled n).sch.bookings = s.sch.bookings := by
  unfold State.noteDisabled
  dsimp only
  split
  · split <;> rfl
  · rfl

/-! ## The bookkeeping stage (R63) -/

theorem State.bookkeep_eq (n : TxId) (s : State) :
    s.bookkeep n = (((s.endLive n).1.expireBookings n).noteDisabled n, (s.endLive n).2) := rfl

theorem State.recordDone_names (n : TxId) (id : TargetId) (why : DoneReason) (s : State) :
    (s.recordDone n id why).sch.names = s.sch.names := by
  unfold State.recordDone
  split
  · split
    · dsimp only; split <;> simp
    · rfl
  · rfl

/-- The current record after step 1 is the one that it ended. -/
theorem State.endLive_cur {s : State} {n : TxId} {r : OccRec} {why : DoneReason} (live : s.liveRec n = some r)
    (ends : s.liveEnd n r = some why) : ((s.endLive n).1.occ n).cur = some (r.doneBy why) := by
  obtain ⟨cur, -⟩ := State.liveRec_eq_some.1 live
  obtain ⟨done, -⟩ := State.endLive_recordOf live ends
  have names : (s.endLive n).1.sch.names = s.sch.names := by
    rw [State.endLive_ends live ends, State.targetBookingLeaves_names, State.recordDone_names]
  have named : ((s.endLive n).1.occ n).cur.map (·.id) = some r.id := by
    calc ((s.endLive n).1.occ n).cur.map (·.id)
      _ = (s.sch.names n).1 := congrArg (fun v => (v n).1) names
      _ = some r.id := by rw [show (s.sch.names n).1 = (s.occ n).cur.map (·.id) from rfl, cur, Option.map_some]
  obtain ⟨q, now, same⟩ := Option.map_eq_some_iff.1 named
  rw [← same, State.recordOf_cur now] at done
  rw [now, done]

/-- A LIVE record that step 1 ends is DONE after the whole stage. -/
theorem State.bookkeep_ends {s : State} {n : TxId} {r : OccRec} {why : DoneReason} (live : s.liveRec n = some r)
    (ends : s.liveEnd n r = some why) :
    ((s.bookkeep n).1.recordOf n r.id).map (·.status) = some (.done why) ∧ (s.bookkeep n).2 = some r.id := by
  obtain ⟨-, status⟩ := State.liveRec_eq_some.1 live
  have done : r.doneBy why = { r with status := .done why } := by simp [OccRec.doneBy, OccRec.inService, status]
  have cur : (((s.endLive n).1.expireBookings n).occ n).cur = some { r with status := .done why } := by
    rw [State.occ_of_beside (State.expireBookings_beside n _), State.endLive_cur live ends, done]
  have held := State.noteDisabled_recordOf cur
  rw [State.bookkeep_eq]
  refine ⟨?_, ?_⟩
  · rw [show r.id = ({ r with status := .done why } : OccRec).id from rfl, held, Option.map_some]
  · rw [State.endLive_ends live ends]

/-- A LIVE record that stays leaves both records as they are. -/
theorem State.bookkeep_stays {s : State} {n : TxId} {r : OccRec} (live : s.liveRec n = some r)
    (stays : s.liveEnd n r = none) : (s.bookkeep n).2 = none ∧ (s.bookkeep n).1.occ n = s.occ n := by
  obtain ⟨cur, status⟩ := State.liveRec_eq_some.1 live
  have occ := congrFun (State.occ_of_beside (s.expireBookings_beside n)) n
  have busy := State.noteDisabled_busy (s := s.expireBookings n) (by rw [occ, cur]) (by simp [OccRec.inService, status])
  rw [State.bookkeep_eq, State.endLive_keeps live stays]
  exact ⟨rfl, by rw [busy, occ]⟩

theorem State.now_of_clk {s t : State} (same : t.clk = s.clk) : t.now = s.now := by
  simp only [State.now, same]

/-- A booking that the stage leaves stood before, and has not ended unless it is in service. -/
theorem State.bookkeep_bookings {s : State} {n : TxId} {b : Booking} (left : b ∈ (s.bookkeep n).1.sch.bookings) :
    b ∈ s.sch.bookings ∧ (b.tx = n → hasEnded b.finish s.now = true → s.inServiceRec n (.booking b.id b.start) = true) := by
  obtain ⟨-, sublist, -⟩ := (State.Works.refl s).endLive (n := n)
  have now := State.now_of_clk (State.clk_of_core (congrArg Outline.core (s.endLive_outline n)))
  rw [State.bookkeep_eq, State.noteDisabled_bookings, State.expireBookings_eq, State.bookingsLeave_mem] at left
  obtain ⟨stands, spared⟩ := left
  refine ⟨sublist.subset stands, fun own hasEnd => ?_⟩
  by_contra idle
  refine spared b (List.mem_filter.2 ⟨stands, ?_⟩) rfl
  have unserved : (s.endLive n).1.inServiceRec n (.booking b.id b.start) = false := by
    rw [← Bool.not_eq_true]; exact mt State.inServiceRec_of_endLive idle
  simp [own, now, hasEnd, unserved]

/-- A disabled entry that covers now is recorded, for a transmitter under AUTO with no record in service. -/
theorem State.bookkeep_disabled {s : State} {n : TxId} {c : Cand} (auto : (s.ctx n).source = .auto)
    (idle : ∀ r, (s.occ n).cur = some r → r.inService = false) (found : s.disabledNow n = some c) :
    (s.bookkeep n).1.occ n = ⟨some (c.record .disabled none), (s.occ n).cur⟩ := by
  have unlive : s.liveRec n = none := by
    cases live : s.liveRec n with
    | none => rfl
    | some r =>
      obtain ⟨cur, status⟩ := State.liveRec_eq_some.1 live
      exact absurd (idle r cur) (by simp [OccRec.inService, status])
  have beside := s.expireBookings_beside n
  have occ := congrFun (State.occ_of_beside beside) n
  have same : (s.expireBookings n).disabledNow n = s.disabledNow n := by
    simp only [State.disabledNow, State.entryOccs_of_beside beside, State.now_of_beside beside, State.recorded_congr occ]
  rw [State.bookkeep_eq, State.endLive_none unlive]
  exact (State.noteDisabled_records (by rw [State.ctx_of_beside beside, auto]) (by rw [occ]; exact idle)
    (same.trans found)).trans (by rw [occ])

end Sys2Proof.Machine
end

section
/-! PROOFS. The decision where no target covers, or one in service does: the next target, NONE, idle darkening, HALTING (R64, R65,
R68 to R70). -/

namespace Sys2Proof.Machine
open Sys2Proof Sys2Proof.Claims

/-! ## The plan of a changeover that needs no claim (R107) -/

/-- A changeover that needs no path and has work to do stands as the plan of TXn, and writes no record. -/
theorem State.changeover_plan {s : State} {n : TxId} {c : Changeover} (unplanned : s.plan n = none)
    (path : s.needsPath n c.setp = false) (work : c.setp.isSome = true ∨ (s.ctx n).rf ≠ .off) :
    (∃ p, (s.changeover n c).plan n = some p ∧ p.target = c.target ∧ p.setp = c.setp ∧ p.planned = c.planned ∧
      p.windDown = false ∧ p.holdPoint = s.csq.hold[n]) ∧ (s.changeover n c).sch = s.sch := by
  obtain ⟨target, setp, planned, hold, wind⟩ := s.newPlan_fields n c
  rcases State.changeover_begins unplanned path work with begun | ⟨-, held⟩
  · rw [begun]
    exact ⟨⟨_, s.createPlan_plan n c, target, setp, planned, wind, hold⟩, rfl⟩
  · rw [held]
    exact ⟨⟨_, State.setPlan_plan n _ (s.createPlan n c), target, setp, planned, wind, hold⟩, rfl⟩

/-- A transmitter with RF is taken toward NONE (R65, R69). -/
theorem State.changeoverToNone_plan {s : State} {n : TxId} (unplanned : s.plan n = none) (rf : (s.ctx n).rf ≠ .off) :
    ∃ p, (s.changeoverToNone n).plan n = some p ∧ p.target = none ∧ p.windDown = false ∧ p.holdPoint = s.csq.hold[n] := by
  obtain ⟨⟨p, stands, target, -, -, wind, hold⟩, -⟩ := State.changeover_plan (s := s.drawnDuration)
    (c := .toNone s.noneDuration) unplanned (State.needsPath_toNone _ n _) (.inr rf)
  exact ⟨p, stands, target, wind, hold⟩

/-! ## A changeover toward a candidate (R61, R65, R68) -/

section Pend
variable (n : TxId) (c : Cand) (s : State)

theorem State.pend_csq : (s.pend n c).csq = s.csq := by unfold State.pend; split <;> rfl

theorem State.pend_amx : (s.pend n c).amx = s.amx := by unfold State.pend; split <;> rfl

theorem State.pend_lnk : (s.pend n c).lnk = s.lnk := by unfold State.pend; split <;> rfl

theorem State.pend_now : (s.pend n c).now = s.now := by unfold State.pend; split <;> rfl

theorem State.pend_plannedFor : (s.pend n c).plannedFor = s.plannedFor := by unfold State.pend; split <;> rfl

/-- The candidate has a record in service. -/
theorem State.pend_serves : (s.pend n c).inServiceRec n c.id = true := by
  cases served : s.inServiceRec n c.id with
  | true => rw [State.pend, if_pos served, served]
  | false =>
    rw [State.pend_new served, State.inServiceRec_iff]
    exact ⟨_, State.newRecord_recordOf n (c.record .pending none) s, rfl⟩

theorem State.gapNotice_csq (ended : Option TargetId) : (s.gapNotice n c ended).csq = s.csq := by
  cases ended with
  | none => rfl
  | some old =>
    simp only [State.gapNotice]
    split
    · rw [State.post_csq]
    · rfl

theorem State.gapNotice_amx (ended : Option TargetId) : (s.gapNotice n c ended).amx = s.amx := by
  cases ended with
  | none => rfl
  | some old =>
    simp only [State.gapNotice]
    split
    · rw [State.post_amx]
    · rfl

end Pend

theorem State.owned_of_amx {s t : State} (same : t.amx = s.amx) : t.owned = s.owned := by
  funext n; simp only [State.owned, State.run, same]

theorem State.needsPath_of_amx {s t : State} (same : t.amx = s.amx) : t.needsPath = s.needsPath := by
  funext n q; simp only [State.needsPath, State.owned_of_amx same]

/-- A changeover toward a candidate that needs no path: its plan stands, and its record is in service. -/
theorem State.startToward_plan {s : State} {n : TxId} {x : Cand} (unplanned : s.plan n = none)
    (owns : ∀ a, x.setp.path = some a → s.owned n = some a) (ended : Option TargetId) :
    (∃ p, (s.startToward n x ended).plan n = some p ∧ p.target = some x.id ∧ p.setp = some x.setp ∧ p.planned = some x.start ∧
      p.holdPoint = s.csq.hold[n]) ∧ (s.startToward n x ended).inServiceRec n x.id = true := by
  have csq : ((s.pend n x).gapNotice n x ended).csq = s.csq := (State.gapNotice_csq n x _ ended).trans (s.pend_csq n x)
  have amx : ((s.pend n x).gapNotice n x ended).amx = s.amx := (State.gapNotice_amx n x _ ended).trans (s.pend_amx n x)
  obtain ⟨⟨p, stands, target, setp, planned, -, hold⟩, sch⟩ := State.changeover_plan
    (s := (s.pend n x).gapNotice n x ended) (n := n) (c := s.toward n x)
    (by rw [State.plan_of_csq csq, unplanned])
    (by rw [State.needsPath_of_amx amx]; exact State.needsPath_owned owns) (.inl rfl)
  refine ⟨⟨p, stands, target, setp, planned, by rw [hold, csq]⟩, ?_⟩
  rw [State.startToward, State.inServiceRec_congr (State.occ_of_sch (sch.trans (State.gapNotice_sch n x ended _)))]
  exact s.pend_serves n x

/-- GAP-EXTENDED is told where the changeover follows an end too closely (R68). -/
theorem State.startToward_told {s : State} {n : TxId} {x : Cand} {old : TargetId}
    (close : ringSub x.start s.now < s.plannedFor n x.setp) :
    told s (.gapExtended n x.id old x.start (s.plannedFor n x.setp) (s.plannedFor n x.setp - ringSub x.start s.now))
      (s.startToward n x (some old)) := by
  intro port room
  have noticed : (s.pend n x).gapNotice n x (some old) = (s.pend n x).post (.gapExtended n x.id old x.start
      (s.plannedFor n x.setp) (s.plannedFor n x.setp - ringSub x.start s.now)) := by
    simp only [State.gapNotice, State.pend_now, State.pend_plannedFor, close, if_true]
  have ports : (s.pend n x).port port = s.port port := by cases port <;> simp only [State.port, State.pend_lnk]
  obtain ⟨-, -, keeps⟩ := (State.Works.refl ((s.pend n x).gapNotice n x (some old))).changeover (n := n) (c := s.toward n x)
  exact keeps port _ (by rw [noticed]; exact State.post_waits _ (by rw [ports]; exact room))

/-! ## The idle-darken test (R70) -/

/-- Only a transmitter in STANDBY, with RF OFF and nothing to serve, is put to the test. -/
theorem State.idleDarken_rests {s : State} {n : TxId}
    (rests : ¬ ((s.ctx n).state = .standby ∧ (s.ctx n).rf = .off ∧ s.covering n = none)) : s.idleDarken n = s := by
  unfold State.idleDarken
  dsimp only
  split
  · exact if_neg fun ⟨standby, off, _, _, uncovered, _⟩ => rests ⟨standby, off, uncovered⟩
  · rfl

theorem State.idleDarken_covered {s : State} {n : TxId} {c : Cand} (covered : s.covering n = some c) : s.idleDarken n = s :=
  State.idleDarken_rests fun ⟨_, _, bare⟩ => by rw [covered] at bare; cases bare

theorem State.idleDarken_carrying {s : State} {n : TxId} (rf : (s.ctx n).rf ≠ .off) : s.idleDarken n = s :=
  State.idleDarken_rests fun ⟨_, off, _⟩ => rf off

theorem State.idleDarken_other {s : State} {n : TxId} (state : (s.ctx n).state ≠ .standby) : s.idleDarken n = s :=
  State.idleDarken_rests fun ⟨standby, _⟩ => state standby

section IdleDarken
variable {s : State} {n : TxId} {d : TxDef} (defined : s.txDef n = some d)
include defined

/-- IDLE-DARKEN 0, or a start within it, sends nothing. -/
theorem State.idleDarken_waits (waits : d.idleDarken = 0 ∨
    ∃ x ∈ s.candidates n, 0 < ringSub x.start s.now ∧ ringSub x.start s.now ≤ d.idleDarken * 60) : s.idleDarken n = s := by
  simp only [State.idleDarken, defined]
  refine if_neg fun ⟨_, _, _, timed, _, soon, _⟩ => ?_
  rcases waits with zero | ⟨x, mem, ahead, near⟩
  · omega
  · have within : ((s.candidates n).any fun x => decide (0 < ringSub x.start s.now) &&
        decide (ringSub x.start s.now ≤ d.idleDarken * 60)) = true :=
      List.any_eq_true.2 ⟨x, mem, by simp [ahead, near]⟩
    rw [within] at soon
    cases soon

/-- An idle transmitter with no start within IDLE-DARKEN and no order on its line is asked to darken. -/
theorem State.idleDarken_asks (standby : (s.ctx n).state = .standby) (off : (s.ctx n).rf = .off) (unplanned : s.plan n = none)
    (uncovered : s.covering n = none) (timed : 0 < d.idleDarken)
    (later : ∀ x ∈ s.candidates n, 0 < ringSub x.start s.now → d.idleDarken * 60 < ringSub x.start s.now)
    (outstanding : (s.ctx n).outstanding = none) (deferred : (s.ctx n).deferred = none) :
    s.idleDarken n = s.askOrder n .sch .darken := by
  have soon : ((s.candidates n).any fun x => decide (0 < ringSub x.start s.now) &&
      decide (ringSub x.start s.now ≤ d.idleDarken * 60)) = false := by
    simp only [List.any_eq_false, Bool.and_eq_true, decide_eq_true_eq, not_and, Nat.not_le]
    exact later
  simp only [State.idleDarken, defined]
  exact if_pos ⟨standby, off, unplanned, timed, uncovered, soon, by rw [outstanding, deferred]; rfl⟩

/-- DARKEN leaves on the line of an idle transmitter. -/
theorem State.askOrder_darken (judged : s.unjudged n = false) (standby : (s.ctx n).state = .standby) (off : (s.ctx n).rf = .off)
    (declined : (s.ctx n).declined = false) (outstanding : (s.ctx n).outstanding = none) :
    s.askOrder n .sch .darken = s.sendNow n .sch .darken := by
  obtain ⟨⟨remote, -⟩, up⟩ := State.unjudged_eq_false.1 judged
  have there : s.txDefined n = true := by rw [State.txDefined, defined, Option.isSome_some]
  have free : s.orderBar n .sch .darken = none := by
    simp [State.orderBar, remote, Ctx.takes, standby, off, declined, Order.upward]
  simp [State.askOrder, there, up, free, outstanding]

end IdleDarken

theorem State.sendNow_darken (n : TxId) (who : Asker) (s : State) :
    ∃ o, ((s.sendNow n who .darken).ctx n).outstanding = some o ∧ o.order = .darken := by
  refine ⟨⟨.darken, s.now, who, (s.ctx n).state, (s.ctx n).drive⟩, ?_, rfl⟩
  simp only [State.sendNow, State.updCtx_ctx, State.startChan_ctx]

/-! ## The next target that is due (R65) -/

theorem State.dueNext_eq_some {s : State} {n : TxId} {x : Cand} : s.dueNext n = some x ↔
    s.nextTarget n = some x ∧ ringSub x.start s.now ≤ s.plannedFor n x.setp := by
  simp [State.dueNext, State.due, Option.filter_eq_some_iff]

/-! ## The decision of a RUNNING hall (R64, R65, R70) -/

/-- A covering target in service starts nothing. -/
theorem State.decideTx_served {s : State} {n : TxId} {x : Cand} (covered : s.covering n = some x)
    (served : s.inServiceRec n x.id = true) (ended : Option TargetId) : s.decideTx n ended = s := by
  simp [State.decideTx, State.startsChangeover, State.serveTarget, covered, served, State.idleDarken_covered covered]

section Uncovered
variable {s : State} {n : TxId} (uncovered : s.covering n = none)
include uncovered

theorem State.decideTx_uncovered (ended : Option TargetId) : s.decideTx n ended =
    if s.uncoveredStarts n (s.dueNext n) then s.uncovered n (s.dueNext n) ended
    else (s.uncovered n (s.dueNext n) ended).idleDarken n := by
  simp only [State.decideTx, State.startsChangeover, State.serveTarget, uncovered]

/-- RF on a LIVE record that nothing covers any more: the transmitter is left on the air. -/
theorem State.decideTx_onAir (rf : (s.ctx n).rf ≠ .off) (live : (s.liveRec n).isSome = true) (ended : Option TargetId) :
    s.decideTx n ended = s := by
  rw [State.decideTx_uncovered uncovered]
  cases s.dueNext n <;> simp [State.uncoveredStarts, State.uncovered, rf, live, State.idleDarken_carrying rf]

theorem State.decideTx_starts {x : Cand} (due : s.dueNext n = some x) (free : (s.ctx n).rf = .off ∨ s.liveRec n = none)
    (ended : Option TargetId) : s.decideTx n ended = s.startToward n x ended := by
  rw [State.decideTx_uncovered uncovered, due]
  rcases free with off | unlive
  · simp [State.uncoveredStarts, State.uncovered, off]
  · simp [State.uncoveredStarts, State.uncovered, unlive]

variable (undue : s.dueNext n = none)
include undue

theorem State.decideTx_toNone (rf : (s.ctx n).rf ≠ .off) (unlive : s.liveRec n = none) (ended : Option TargetId) :
    s.decideTx n ended = s.changeoverToNone n := by
  rw [State.decideTx_uncovered uncovered, undue]
  simp [State.uncoveredStarts, State.uncovered, rf, unlive]

theorem State.decideTx_idle (off : (s.ctx n).rf = .off) (ended : Option TargetId) : s.decideTx n ended = s.idleDarken n := by
  rw [State.decideTx_uncovered uncovered, undue]
  simp [State.uncoveredStarts, State.uncovered, off]

end Uncovered

/-! ## The decision of a HALTING hall (R69) -/

/-- Where a covering target is in service, or RF is OFF or stands on a LIVE record, nothing is done. -/
theorem State.decideHalting_rests {s : State} {n : TxId} (rests : (∃ x, s.covering n = some x ∧ s.inServiceRec n x.id = true) ∨
    (s.ctx n).rf = .off ∨ (s.liveRec n).isSome = true) : s.decideHalting n = s := by
  have uncovered (free : (s.ctx n).rf = .off ∨ (s.liveRec n).isSome = true) : s.uncovered n none none = s := by
    rcases free with off | live
    · simp [State.uncovered, off]
    · simp [State.uncovered, live]
  rcases rests with ⟨x, covered, served⟩ | free
  · simp [State.decideHalting, covered, served]
  · unfold State.decideHalting
    split
    · split
      · rfl
      · exact uncovered free
    · exact uncovered free

theorem State.decideHalting_toNone {s : State} {n : TxId}
    (unserved : ¬ ∃ x, s.covering n = some x ∧ s.inServiceRec n x.id = true) (rf : (s.ctx n).rf ≠ .off)
    (unlive : s.liveRec n = none) : s.decideHalting n = s.changeoverToNone n := by
  have taken : s.uncovered n none none = s.changeoverToNone n := by simp [State.uncovered, rf, unlive]
  unfold State.decideHalting
  split
  next c covered => rw [if_neg fun served => unserved ⟨c, covered, served⟩, taken]
  · exact taken

end Sys2Proof.Machine
end

section
/-! PROOFS. The retarget check: a plan whose target is due is kept, one whose target has ended is abandoned, and one that is wanted
elsewhere takes a retarget (R66, R120, R121). -/

namespace Sys2Proof.Machine
open Sys2Proof Sys2Proof.Claims

/-! ## What a retarget leaves of the plan and of the moves (R120, R134) -/

/-- TXn has a plan with the target and the hold point of a given one. -/
def State.Aims (n : TxId) (p : Plan) (s : State) : Prop :=
  ∃ q, s.plan n = some q ∧ q.target = p.target ∧ q.holdPoint = p.holdPoint

/-- The held moves, and the superseded moves to be asked anew. -/
def State.moves (s : State) : List Held × List (TxId × ActId × Place) := (s.amx.held, s.amx.reask)

section Aims
variable {s : State} {n : TxId} {p : Plan} (aims : s.Aims n p)
include aims

theorem State.Aims.of_csq {t : State} (same : t.csq = s.csq) : t.Aims n p := by
  rw [State.Aims, State.plan_of_csq same]; exact aims

theorem State.Aims.updPlan (m : TxId) {f : Plan → Plan}
    (keeps : ∀ q, (f q).target = q.target ∧ (f q).holdPoint = q.holdPoint) : (s.updPlan m f).Aims n p := by
  obtain ⟨q, planned, target, hold⟩ := aims
  by_cases same : n = m
  · subst same
    obtain ⟨target', hold'⟩ := keeps q
    exact ⟨f q, by rw [State.updPlan_plan, planned, Option.map_some], target'.trans target, hold'.trans hold⟩
  · exact ⟨q, (State.setPlan_plan_ne m n same _ s).trans planned, target, hold⟩

theorem State.Aims.offer (a : AntId) : (s.offer a).Aims n p := by
  unfold State.offer
  split
  · split
    · split
      · exact State.Aims.updPlan (aims.of_csq rfl) _ fun _ => ⟨rfl, rfl⟩
      · exact aims
    · exact aims
  · exact aims

theorem State.Aims.withdrawClaim (m : TxId) : (s.withdrawClaim m).Aims n p := by
  have kept (a : AntId) (f : AntRun → AntRun) : (s.updRun a f).Aims n p := aims.of_csq rfl
  unfold State.withdrawClaim State.withdrawFrom
  split
  · split
    · dsimp only
      split
      · exact (kept _ _).offer _
      · exact kept _ _
    · exact aims
  · exact aims

theorem State.Aims.withdrawForRetarget (path : Option AntId) : (s.withdrawForRetarget n path).Aims n p := by
  unfold State.withdrawForRetarget
  split
  · split
    · exact (aims.withdrawClaim n).updPlan n fun _ => ⟨rfl, rfl⟩
    · exact aims
  · exact aims

end Aims

theorem State.offer_moves (a : AntId) (s : State) : (s.offer a).moves = s.moves := by
  unfold State.offer
  split
  · split
    · split <;> rfl
    · rfl
  · rfl

theorem State.withdrawForRetarget_moves (n : TxId) (path : Option AntId) (s : State) :
    (s.withdrawForRetarget n path).moves = s.moves := by
  have withdrawn : (s.withdrawClaim n).moves = s.moves := by
    unfold State.withdrawClaim State.withdrawFrom
    split
    · split
      · dsimp only
        split
        · exact State.offer_moves ..
        · rfl
      · rfl
    · rfl
  unfold State.withdrawForRetarget
  split
  · split
    · exact withdrawn
    · rfl
  · rfl

/-- Dropped moves that superseded none leave none to be asked anew. -/
theorem State.dropHeld_reask {s : State} {d : Held → Bool} (untold : ∀ h ∈ s.amx.held, d h = true → h.told = []) :
    (s.dropHeld d).amx.reask = s.amx.reask := by
  have retold (l : List Held) (none : ∀ h ∈ l, h.told = []) (t : State) :
      (t.each l State.retell).amx.reask = t.amx.reask := by
    unfold State.each
    induction l generalizing t with
    | nil => rfl
    | cons h l ih =>
      obtain ⟨first, rest⟩ := List.forall_mem_cons.1 none
      rw [List.foldl_cons, ih rest]
      simp [State.retell, first]
  exact retold _ (fun h mem => untold h (List.mem_filter.1 mem).1 (List.mem_filter.1 mem).2) _

theorem State.askAgain_csq_of_none {s : State} (none : s.amx.reask = []) : s.askAgain.csq = s.csq := by
  simp only [State.askAgain, none, State.each, List.foldl_nil]

/-- A plan that takes a retarget holds it pending, with its target and hold point as they were (R120). -/
theorem State.retarget_plan {s : State} {n : TxId} {p : Plan} (planned : s.plan n = some p) (takes : p.takesRetarget = true)
    (fresh : s.amx.reask = []) (untold : ∀ h ∈ s.amx.held, h.asker = .plan n → h.told = []) (c : Changeover) :
    ∃ q, (s.retarget n c).plan n = some q ∧ q.pend = some ⟨c.target, c.setp, c.planned, c.d⟩ ∧ q.target = p.target ∧
      q.holdPoint = p.holdPoint ∧ q.atHold = false := by
  obtain ⟨q, stands, target, hold⟩ := State.Aims.withdrawForRetarget (p := p) ⟨p, planned, rfl, rfl⟩ (targetPath c.setp)
  have moves := s.withdrawForRetarget_moves n (targetPath c.setp)
  simp only [State.moves, Prod.mk.injEq] at moves
  obtain ⟨held, reask⟩ := moves
  have dropped : ((s.withdrawForRetarget n (targetPath c.setp)).dropHeld fun h => decide (h.asker = .plan n)).amx.reask = [] := by
    rw [State.dropHeld_reask (by rw [held]; simpa using untold), reask, fresh]
  simp only [State.retarget, planned, takes, if_true]
  rw [State.plan_of_csq (State.askAgain_csq_of_none (by rw [State.updPlan_amx]; exact dropped)), State.updPlan_plan,
    State.plan_of_csq (State.dropHeld_csq _ _), stands, Option.map_some]
  exact ⟨_, rfl, rfl, target, hold, rfl⟩

/-! ## The check (R66) -/

theorem Plan.takesRetarget_eq_false {p : Plan} :
    p.takesRetarget = false ↔ p.phases.rampup = .running ∨ p.phases.rampup = .ended := by
  simp only [Plan.takesRetarget, Bool.and_eq_false_iff, Bool.not_eq_false', decide_eq_true_eq]

theorem State.targetDue_of_ended {s : State} {n : TxId} {p : Plan} (ended : s.targetEnded n p = true) :
    s.targetDue n p = false := by
  unfold State.targetEnded at ended
  unfold State.targetDue
  split at ended
  · split at ended
    · simp_all
    · cases ended
  · cases ended

section Check
variable {s : State} {n : TxId} {p : Plan}

theorem State.retargetCheck_due (due : s.targetDue n p = true) : s.retargetCheck n p = s := if_pos due

/-- The abandonment of a plan whose target has ended is told (R121). -/
theorem State.retargetCheck_told (planned : s.plan n = some p) (ended : s.targetEnded n p = true) :
    told s (.planAbandoned n p.concerned .targetEnded p.phase (s.windable n)) (s.retargetCheck n p) := by
  intro port room
  have waits := State.abandon_told planned .targetEnded port room
  simp only [State.retargetCheck, State.targetDue_of_ended ended, ended, Bool.false_eq_true, if_false, if_true]
  split
  · obtain ⟨-, -, keeps⟩ := (State.Works.refl (s.abandon n .targetEnded)).retargetTo
    exact keeps port _ waits
  · exact waits

theorem State.retargetCheck_turns (planned : s.plan n = some p) (undue : s.targetDue n p = false)
    (running : s.targetEnded n p = false) : s.retargetCheck n p = s.retargetTo n p := by
  simp only [State.retargetCheck, undue, running, Bool.false_eq_true, if_false, planned]

theorem State.retargetTo_rests (rests : (s.wanted n).map (·.id) = p.concerned ∨ p.takesRetarget = false) :
    s.retargetTo n p = s := if_pos rests

/-- A plan whose target is not the wanted one takes a retarget toward it. -/
theorem State.retargetTo_plan (planned : s.plan n = some p) (elsewhere : (s.wanted n).map (·.id) ≠ p.concerned)
    (takes : p.takesRetarget = true) (fresh : s.amx.reask = []) (untold : ∀ h ∈ s.amx.held, h.asker = .plan n → h.told = []) :
    ∃ q r, (s.retargetTo n p).plan n = some q ∧ q.pend = some r ∧ r.target = (s.wanted n).map (·.id) ∧
      r.setp = (s.wanted n).map (·.setp) ∧ r.planned = (s.wanted n).map (·.start) ∧ q.target = p.target ∧
      q.holdPoint = p.holdPoint ∧ q.atHold = false := by
  have turns : ¬ ((s.wanted n).map (·.id) = p.concerned ∨ p.takesRetarget = false) := by simp [elsewhere, takes]
  simp only [State.retargetTo, if_neg turns]
  cases wanted : s.wanted n with
  | none =>
    obtain ⟨q, stands, pend, target, hold, free⟩ := State.retarget_plan (s := s.drawnDuration) planned takes fresh untold
      (.toNone s.noneDuration)
    exact ⟨q, _, stands, pend, rfl, rfl, rfl, target, hold, free⟩
  | some c =>
    obtain ⟨q, stands, pend, target, hold, free⟩ := State.retarget_plan (s := s.pend n c)
      (by rw [State.plan_of_csq (s.pend_csq n c), planned]) takes (by rw [State.pend_amx, fresh])
      (by rw [State.pend_amx]; exact untold) (s.toward n c)
    exact ⟨q, _, stands, pend, rfl, rfl, rfl, target, hold, free⟩

end Check

end Sys2Proof.Machine
end

section
/-! PROOFS. What the evaluator keeps and serves (O25): the bookkeeping of a second and the decisions, put together from the cases
of R63, R65, R66 and R68 to R70. -/

namespace Sys2Proof.Proofs
open Sys2Proof Sys2Proof.Machine Sys2Proof.Claims

/-- R65, R68, R70: a RUNNING hall, a transmitter with no plan, and no target that covers. -/
theorem nextTargetIsServed {s : State} {n : TxId} (judged : s.unjudged n = false) (running : s.txs.hall = .running)
    (unplanned : s.plan n = none) (uncovered : s.covering n = none) (ended : Option TargetId) :
    let t := s.decisionStage n ended
    let due (x : Cand) : Prop := s.nextTarget n = some x ∧ ringSub x.start s.now ≤ s.plannedFor n x.setp
    (∀ x, due x → (s.ctx n).rf = .off ∨ s.liveRec n = none → (∀ a, x.setp.path = some a → s.owned n = some a) →
      (∃ p, t.plan n = some p ∧ p.target = some x.id ∧ p.setp = some x.setp ∧ p.planned = some x.start ∧
        p.holdPoint = s.csq.hold[n]) ∧ t.inServiceRec n x.id = true ∧
      ∀ old, ended = some old → ringSub x.start s.now < s.plannedFor n x.setp →
        told s (.gapExtended n x.id old x.start (s.plannedFor n x.setp)
          (s.plannedFor n x.setp - ringSub x.start s.now)) t) ∧
    ((∀ x, ¬ due x) →
      ((s.ctx n).rf ≠ .off → s.liveRec n = none →
        (∃ p, t.plan n = some p ∧ p.target = none ∧ p.windDown = false ∧ p.holdPoint = s.csq.hold[n]) ∧ t.sch = s.sch) ∧
      ((s.ctx n).rf = .off → (s.ctx n).state ≠ .standby → t = s) ∧
      ∀ d, (s.ctx n).rf = .off → (s.ctx n).state = .standby → s.txDef n = some d →
        (d.idleDarken = 0 ∨ (∃ x ∈ s.candidates n, 0 < ringSub x.start s.now ∧ ringSub x.start s.now ≤ d.idleDarken * 60) →
          t = s) ∧
        (0 < d.idleDarken → (∀ x ∈ s.candidates n, 0 < ringSub x.start s.now → d.idleDarken * 60 < ringSub x.start s.now) →
          (s.ctx n).declined = false → (s.ctx n).outstanding = none → (s.ctx n).deferred = none →
          ∃ o, (t.ctx n).outstanding = some o ∧ o.order = .darken ∧ t.sch = s.sch ∧ t.csq = s.csq)) := by
  intro t due
  have decided : t = s.decideTx n ended := State.decisionStage_running judged running unplanned ended
  refine ⟨fun x isDue free owns => ?_, fun undue => ?_⟩
  · have starts : t = s.startToward n x ended :=
      decided.trans (State.decideTx_starts uncovered (State.dueNext_eq_some.2 isDue) free ended)
    obtain ⟨stands, serves⟩ := State.startToward_plan unplanned owns ended
    refine ⟨by rw [starts]; exact stands, by rw [starts, serves], fun old after close => ?_⟩
    rw [starts, after]
    exact State.startToward_told close
  · have none : s.dueNext n = none := by
      cases next : s.dueNext n with
      | none => rfl
      | some x => exact absurd (State.dueNext_eq_some.1 next) (undue x)
    refine ⟨fun rf unlive => ?_, fun off other => ?_, fun d off standby defined => ?_⟩
    · rw [decided, State.decideTx_toNone uncovered none rf unlive]
      exact ⟨State.changeoverToNone_plan unplanned rf, State.changeoverToNone_sch n s⟩
    · rw [decided, State.decideTx_idle uncovered none off, State.idleDarken_other other]
    · rw [decided, State.decideTx_idle uncovered none off]
      refine ⟨State.idleDarken_waits defined, fun timed later declined outstanding deferred => ?_⟩
      rw [State.idleDarken_asks defined standby off unplanned uncovered timed later outstanding deferred,
        State.askOrder_darken defined judged standby off declined outstanding]
      obtain ⟨o, sent, darken⟩ := State.sendNow_darken n .sch s
      obtain ⟨sch, csq, -⟩ := State.sendNow_spares (n := n) (o := .darken) rfl .sch s
      exact ⟨o, sent, darken, sch, csq⟩

/-- R69: a HALTING hall starts nothing toward an occurrence, and takes a transmitter with RF and nothing to serve toward NONE. -/
theorem haltingStartsNothing {s : State} {n : TxId} (judged : s.unjudged n = false) (halting : s.txs.hall = .halting)
    (unplanned : s.plan n = none) (ended : Option TargetId) :
    let t := s.decisionStage n ended
    let serves : Prop := ∃ x, s.covering n = some x ∧ s.inServiceRec n x.id = true
    t.sch = s.sch ∧ (serves ∨ (s.ctx n).rf = .off ∨ (s.liveRec n).isSome = true → t = s) ∧
      (¬ serves → (s.ctx n).rf ≠ .off → s.liveRec n = none →
        ∃ p, t.plan n = some p ∧ p.target = none ∧ p.windDown = false ∧ p.holdPoint = s.csq.hold[n]) := by
  intro t serves
  have decided : t = s.decideHalting n := State.decisionStage_halting judged halting unplanned ended
  have rests (free : serves ∨ (s.ctx n).rf = .off ∨ (s.liveRec n).isSome = true) : t = s :=
    decided.trans (State.decideHalting_rests free)
  have leaves (unserved : ¬ serves) (rf : (s.ctx n).rf ≠ .off) (unlive : s.liveRec n = none) : t = s.changeoverToNone n :=
    decided.trans (State.decideHalting_toNone unserved rf unlive)
  refine ⟨?_, rests, fun unserved rf unlive => ?_⟩
  · by_cases free : serves ∨ (s.ctx n).rf = .off ∨ (s.liveRec n).isSome = true
    · rw [rests free]
    · obtain ⟨unserved, rf, unlive⟩ : ¬ serves ∧ (s.ctx n).rf ≠ .off ∧ s.liveRec n = none := by simpa using free
      rw [leaves unserved rf unlive, State.changeoverToNone_sch]
  · rw [leaves unserved rf unlive]
    exact State.changeoverToNone_plan unplanned rf

/-- Settles O25: the bookkeeping by the end that a LIVE record has, the decisions by the state of the hall and the plan in flight. -/
theorem evaluatorKeepsItsBooksAndServesTheNext : Obligations.EvaluatorKeepsItsBooksAndServesTheNext := by
  refine ⟨fun s n => ⟨fun r live => ⟨fun isOver => ?_, fun c covered target kind => ?_, fun covered kind => ?_⟩, fun unlive => ?_,
      fun b left => State.bookkeep_bookings left, fun c auto idle found => ?_⟩,
    fun s n ended judged => ⟨fun running unplanned => ⟨?_, fun uncovered rf live => ?_, ?_, ?_⟩,
      fun halting unplanned => ?_, fun p runs planned => ?_⟩⟩
  · exact State.bookkeep_ends live (State.liveEnd_over isOver)
  · exact State.bookkeep_ends live (State.liveEnd_source covered target kind)
  · exact State.bookkeep_stays live (State.liveEnd_stays covered kind)
  · rw [State.bookkeep_eq, State.endLive_none unlive]
  · have occ := State.bookkeep_disabled auto idle found
    exact ⟨by rw [occ]; rfl, by rw [occ]⟩
  · rintro ⟨x, covered, served⟩
    rw [State.decisionStage_running judged running unplanned, State.decideTx_served covered served]
  · rw [State.decisionStage_running judged running unplanned, State.decideTx_onAir uncovered rf live]
  · intro x uncovered
    exact (nextTargetIsServed judged running unplanned uncovered ended).1 x
  · intro uncovered
    exact (nextTargetIsServed judged running unplanned uncovered ended).2
  · exact haltingStartsNothing judged halting unplanned ended
  · rw [State.decisionStage_planned judged runs planned]
    refine ⟨State.retargetCheck_due, State.retargetCheck_told planned, fun undue unended => ?_⟩
    rw [State.retargetCheck_turns planned undue unended]
    refine ⟨fun rests => ?_, fun elsewhere early fresh untold => ?_⟩
    · exact State.retargetTo_rests (rests.imp_right Plan.takesRetarget_eq_false.2)
    · have takes : p.takesRetarget = true := by rwa [← Plan.takesRetarget_eq_false, Bool.not_eq_false] at early
      exact State.retargetTo_plan planned elsewhere takes fresh untold

end Sys2Proof.Proofs
end

section
/-! PROOFS. A trip whose RF-OFF displaces a deferred RF-ON of RFP (R82, R169 to R171): the RF-ON is answered SUPERSEDED before the
recycle is judged, and that answer winds the transmitter down, so that the trip counts no recycle. -/

namespace Sys2Proof.Machine
open Sys2Proof Sys2Proof.Claims

/-- A transmitter record with a recycle limit of 3. -/
def recyclingTx : TxDef := ⟨500, 5000, 6000, [500, 1000], 100, 100, 0, 1, 2, 3, 10, 5, 10, 3, 5, 60, 150, 200, 250, 0⟩

/-- TX1 is on the air with no plan and no reservation; a STATUS-ASK is outstanding, and an RF-ON that RFP asked waits behind it. -/
def deferredRecycle : State :=
  ({ State.reset with hds := { Hds.powerOn with tx := Hds.powerOn.tx.set 0 (some recyclingTx) } } : State).updCtx 0 fun c =>
    { c with
      state := .onAir
      rf := .on
      outstanding := some ⟨.statusAsk, 0, .txs, .onAir, 0⟩
      deferred := some ⟨.rfOn 1, .rfp⟩ }

/-- The trip of that transmitter counts no recycle, though its limit is 3 and none was counted before. -/
theorem deferredRecycle_trip {t : State} (trips : exec (.trip 0 .overload) deferredRecycle = .next t) :
    (t.prot 0).recycleCount = 0 := by
  cases trips
  rfl

end Sys2Proof.Machine

namespace Sys2Proof.Proofs
open Sys2Proof Sys2Proof.Machine Sys2Proof.Claims

/-- Refutes O49: with an RF-ON of RFP deferred, the RF-OFF of the trip answers it SUPERSEDED, RFP names REJECTED for it, and the
wind-down that follows leaves the trip without its recycle (`deferredRecycle_trip`). -/
theorem not_tripsTakeTheRfOffAndRecycleReturnsIt : ¬ Obligations.TripsTakeTheRfOffAndRecycleReturnsIt := by
  rintro ⟨trips, -⟩
  obtain ⟨-, -, counted, -⟩ := trips deferredRecycle 0 .overload recyclingTx rfl rfl (by decide)
  obtain ⟨t, runs, -, -, count⟩ := counted (by decide) (.inr (.inl rfl)) rfl rfl (by decide) (by decide)
  obtain ⟨-, one, -⟩ := (count 0 (fun _ => rfl) fun _ => rfl).2 (by decide)
  rw [deferredRecycle_trip runs] at one
  exact absurd one (by decide)

end Sys2Proof.Proofs
end

section
/-! PROOFS. What the work of CSQ, AMX and SCH leaves of TXS and SWB: a context is as it was, or as the end of its recycle leaves
it (R95, R172); the hall, the survey and the switch bus are as they were. -/

namespace Sys2Proof.Machine
open Sys2Proof Sys2Proof.Claims

/-! ## A context that takes a state, and one whose recycle ends -/

/-- A context once it has taken a state. -/
def Ctx.moved (st : CtxState) (c : Ctx) : Ctx :=
  if c.state = st then c
  else { c with
    state := st
    declined := false
    sentSince := .none
    cause := none
    tripEnded := false
    clearing := []
    tuneLate := false
    adopted := c.adopted && decide (st = .onAir) }

@[simp] theorem State.toState_ctx (n : TxId) (st : CtxState) (s : State) : (s.toState n st).ctx n = (s.ctx n).moved st :=
  State.updCtx_ctx n _ s

theorem State.toState_ctx_ne {n m : TxId} (h : m ≠ n) (st : CtxState) (s : State) : (s.toState n st).ctx m = s.ctx m :=
  State.updCtx_ctx_ne n m h _ s

@[simp] theorem Ctx.moved_state (st : CtxState) (c : Ctx) : (c.moved st).state = st := by
  unfold Ctx.moved
  split
  next same => exact same
  · rfl

theorem Ctx.moved_same {st : CtxState} {c : Ctx} (same : c.state = st) : c.moved st = c := if_pos same

theorem Ctx.moved_cause {st : CtxState} {c : Ctx} (other : c.state ≠ st) : (c.moved st).cause = none := by
  rw [Ctx.moved, if_neg other]

/-- What neither a change of state nor a ramp writes of a context. -/
def Ctx.beside (c : Ctx) : Ctx :=
  { c with
    state := .unknown
    declined := false
    sentSince := .none
    cause := none
    tripEnded := false
    clearing := []
    tuneLate := false
    adopted := false
    ramp := none }

@[simp] theorem Ctx.moved_beside (st : CtxState) (c : Ctx) : (c.moved st).beside = c.beside := by
  unfold Ctx.moved; split <;> rfl

/-- A context of which RFP has ended the recycle without a return (R95, R169). -/
def Ctx.recycleEnded (c : Ctx) : Ctx :=
  if c.state = .tripped then
    if c.rf = .off then Ctx.moved (offState c.last) { c with tripEnded := true } else { c with tripEnded := true }
  else c

theorem offState_ne_tripped (r : Option StateReport) : offState r ≠ .tripped := by
  unfold offState
  split
  · split
    · decide
    · split <;> decide
    · decide
  · decide

theorem Ctx.recycleEnded_untripped {c : Ctx} (untripped : c.state ≠ .tripped) : c.recycleEnded = c := if_neg untripped

theorem Ctx.recycleEnded_again (c : Ctx) : c.recycleEnded.recycleEnded = c.recycleEnded := by
  by_cases tripped : c.state = .tripped
  · by_cases off : c.rf = .off
    · refine Ctx.recycleEnded_untripped ?_
      rw [Ctx.recycleEnded, if_pos tripped, if_pos off, Ctx.moved_state]
      exact offState_ne_tripped c.last
    · simp only [Ctx.recycleEnded, tripped, off, if_true, if_false]
  · rw [Ctx.recycleEnded_untripped tripped, Ctx.recycleEnded_untripped tripped]

@[simp] theorem Ctx.recycleEnded_beside (c : Ctx) : c.recycleEnded.beside = c.beside := by
  unfold Ctx.recycleEnded
  split
  · split
    · rw [Ctx.moved_beside]; rfl
    · rfl
  · rfl

/-- While RF is not OFF the end of a recycle leaves the context TRIPPED. -/
theorem Ctx.recycleEnded_carrying {c : Ctx} (rf : c.rf ≠ .off) :
    c.recycleEnded.state = c.state ∧ c.recycleEnded.cause = c.cause := by
  simp only [Ctx.recycleEnded, rf, if_false]
  split <;> exact ⟨rfl, rfl⟩

theorem State.leaveTripped_untripped {n : TxId} {s : State} (untripped : (s.ctx n).state ≠ .tripped) : s.leaveTripped n = s :=
  if_neg fun h => untripped h.1

theorem State.leaveTripped_cases (n : TxId) (s : State) :
    s.leaveTripped n = s ∨ s.leaveTripped n = s.toState n (offState (s.ctx n).last) := by
  unfold State.leaveTripped
  dsimp only
  split
  exacts [.inr rfl, .inl rfl]

theorem State.endTrip_ctx (n : TxId) (s : State) : (s.endTrip n).ctx n = (s.ctx n).recycleEnded := by
  unfold State.endTrip State.leaveTripped
  simp only [State.updCtx_ctx, Ctx.recycleEnded]
  by_cases tripped : (s.ctx n).state = .tripped
  · by_cases off : (s.ctx n).rf = .off
    · simp [tripped, off]
    · simp [tripped, off]
  · simp [tripped]

theorem State.endTrip_ctx_ne {n m : TxId} (h : m ≠ n) (s : State) : (s.endTrip n).ctx m = s.ctx m := by
  unfold State.endTrip
  rcases State.leaveTripped_cases n (s.updCtx n fun c => { c with tripEnded := decide (c.state = .tripped) || c.tripEnded })
    with same | moved
  · rw [same, State.updCtx_ctx_ne n m h]
  · rw [moved, State.toState_ctx_ne h, State.updCtx_ctx_ne n m h]

/-! ## What writes neither TXS nor SWB -/

/-- TXS and SWB. -/
def State.txsAndBus (s : State) : Txs × Swb := (s.txs, s.swb)

theorem State.txs_of_txsAndBus {s t : State} (h : t.txsAndBus = s.txsAndBus) : t.txs = s.txs := congrArg Prod.fst h

@[simp] theorem State.post_txsAndBus (nt : Notice) (s : State) : (s.post nt).txsAndBus = s.txsAndBus := rfl

@[simp] theorem State.setPlan_txsAndBus (n : TxId) (p : Option Plan) (s : State) : (s.setPlan n p).txsAndBus = s.txsAndBus := rfl

@[simp] theorem State.updPlan_txsAndBus (n : TxId) (f : Plan → Plan) (s : State) : (s.updPlan n f).txsAndBus = s.txsAndBus := rfl

@[simp] theorem State.updRun_txsAndBus (a : AntId) (f : AntRun → AntRun) (s : State) :
    (s.updRun a f).txsAndBus = s.txsAndBus := rfl

@[simp] theorem State.updOcc_txsAndBus (n : TxId) (f : Occ → Occ) (s : State) : (s.updOcc n f).txsAndBus = s.txsAndBus := rfl

@[simp] theorem State.bookingLeaves_txsAndBus (id : Nat) (c : BookEnd) (s : State) :
    (s.bookingLeaves id c).txsAndBus = s.txsAndBus := by
  unfold State.bookingLeaves; split <;> rfl

@[simp] theorem State.targetBookingLeaves_txsAndBus (id : TargetId) (c : BookEnd) (s : State) :
    (s.targetBookingLeaves id c).txsAndBus = s.txsAndBus := by
  unfold State.targetBookingLeaves
  split
  · split <;> simp
  · rfl

@[simp] theorem State.recordLive_txsAndBus (n : TxId) (id : TargetId) (s : State) :
    (s.recordLive n id).txsAndBus = s.txsAndBus := by
  unfold State.recordLive
  split
  · split <;> simp
  · rfl

@[simp] theorem State.recordLost_txsAndBus (n : TxId) (id : TargetId) (cause : Cause) (s : State) :
    (s.recordLost n id cause).txsAndBus = s.txsAndBus := by
  unfold State.recordLost State.setStatus
  split
  · split
    · split <;> simp
    · rfl
  · rfl

@[simp] theorem State.endBookings_txsAndBus (n : TxId) (s : State) : (s.endBookings n).txsAndBus = s.txsAndBus :=
  State.each_view State.txsAndBus (s.bookingsToEnd n) (f := fun b t => t.bookingLeaves b.id .source) (fun _ _ => by simp) s

@[simp] theorem State.takeAnt_txsAndBus (a : AntId) (o : Own) (s : State) : (s.takeAnt a o).txsAndBus = s.txsAndBus := rfl

@[simp] theorem State.offer_txsAndBus (a : AntId) (s : State) : (s.offer a).txsAndBus = s.txsAndBus := by
  unfold State.offer
  split
  · split
    · split <;> rfl
    · rfl
  · rfl

@[simp] theorem State.withdrawFrom_txsAndBus (a : AntId) (n : TxId) (s : State) :
    (s.withdrawFrom a n).txsAndBus = s.txsAndBus := by
  unfold State.withdrawFrom
  split
  · dsimp only
    split <;> simp
  · rfl

@[simp] theorem State.withdrawClaim_txsAndBus (n : TxId) (s : State) : (s.withdrawClaim n).txsAndBus = s.txsAndBus := by
  unfold State.withdrawClaim; split <;> simp

@[simp] theorem State.dropHeld_txsAndBus (p : Held → Bool) (s : State) : (s.dropHeld p).txsAndBus = s.txsAndBus :=
  State.each_view State.txsAndBus (s.amx.held.filter p) (f := State.retell) (fun _ _ => rfl) _

@[simp] theorem State.localOwn_txsAndBus (n : TxId) (s : State) : (s.localOwn n).txsAndBus = s.txsAndBus := by
  unfold State.localOwn
  split
  · split
    · split <;> rfl
    · split
      · split <;> rfl
      · rfl
  · rfl

@[simp] theorem State.localReturn_txsAndBus (n : TxId) (s : State) : (s.localReturn n).txsAndBus = s.txsAndBus := by
  unfold State.localReturn; split <;> rfl

@[simp] theorem State.removePlan_txsAndBus (n : TxId) (s : State) : (s.removePlan n).txsAndBus = s.txsAndBus := by
  have removed : (s.removePlan n).txsAndBus =
      ((s.withdrawClaim n).dropHeld fun h => decide (h.asker = .plan n)).txsAndBus := rfl
  rw [removed]; simp

@[simp] theorem State.planDone_txsAndBus (n : TxId) (p : Plan) (s : State) : (s.planDone n p).txsAndBus = s.txsAndBus := by
  have owned (q : Setpoint) : (s.ownAs n q).txsAndBus = s.txsAndBus := by unfold State.ownAs; split <;> rfl
  unfold State.planDone
  dsimp only
  split <;> split <;> simp [owned]

@[simp] theorem State.settlePlan_txsAndBus (n : TxId) (s : State) : (s.settlePlan n).txsAndBus = s.txsAndBus := by
  unfold State.settlePlan
  split
  · split_ifs <;> simp [State.reachHold]
  · rfl

@[simp] theorem State.endPhase_txsAndBus (n : TxId) (ph : Phase) (s : State) : (s.endPhase n ph).txsAndBus = s.txsAndBus := by
  unfold State.endPhase
  split
  · split <;> simp
  · rfl

@[simp] theorem State.windDown_txsAndBus (n : TxId) (cause : Cause) (k : Nat) (hp : HoldPoint) (s : State) :
    (s.windDown n cause k hp).txsAndBus = s.txsAndBus := by simp [State.windDown]

/-- The end of a phase leaves every context. -/
@[simp] theorem State.endPhase_ctx (n : TxId) (ph : Phase) (s : State) : (s.endPhase n ph).ctx = s.ctx :=
  State.ctx_of_txs (State.txs_of_txsAndBus (s.endPhase_txsAndBus n ph))

/-! ## The relation -/

/-- The work leads from s to t: each context stands or has had its recycle ended, and the hall, the survey and the switch bus
stand. -/
structure State.Settles (s t : State) : Prop where
  ctx : ∀ m, t.ctx m = s.ctx m ∨ t.ctx m = (s.ctx m).recycleEnded
  hall : t.txs.hall = s.txs.hall
  survey : t.txs.survey = s.txs.survey
  swb : t.swb = s.swb

theorem State.Settles.refl (s : State) : s.Settles s := ⟨fun _ => .inl rfl, rfl, rfl, rfl⟩

section Settles
variable {s₀ s : State} (h : s₀.Settles s)
include h

/-! ### What follows for a context -/

theorem State.Settles.beside (m : TxId) : (s.ctx m).beside = (s₀.ctx m).beside := by
  rcases h.ctx m with same | ended
  · rw [same]
  · rw [ended, Ctx.recycleEnded_beside]

theorem State.Settles.untripped {m : TxId} (untripped : (s₀.ctx m).state ≠ .tripped) : s.ctx m = s₀.ctx m := by
  rcases h.ctx m with same | ended
  · exact same
  · rw [ended, Ctx.recycleEnded_untripped untripped]

theorem State.Settles.carrying {m : TxId} (rf : (s₀.ctx m).rf ≠ .off) :
    (s.ctx m).state = (s₀.ctx m).state ∧ (s.ctx m).cause = (s₀.ctx m).cause := by
  rcases h.ctx m with same | ended
  · rw [same]; exact ⟨rfl, rfl⟩
  · rw [ended]; exact Ctx.recycleEnded_carrying rf

theorem State.Settles.trans {t : State} (next : s.Settles t) : s₀.Settles t := by
  refine ⟨fun m => ?_, next.hall.trans h.hall, next.survey.trans h.survey, next.swb.trans h.swb⟩
  rcases next.ctx m with same | ended
  · rw [same]; exact h.ctx m
  · rcases h.ctx m with same | before
    · exact .inr (by rw [ended, same])
    · exact .inr (by rw [ended, before, Ctx.recycleEnded_again])

/-- An operation that writes neither TXS nor SWB. -/
theorem State.Settles.same {t : State} (same : t.txsAndBus = s.txsAndBus := by simp) : s₀.Settles t := by
  obtain ⟨txs, swb⟩ := Prod.ext_iff.mp same
  exact h.trans ⟨fun m => .inl (by rw [State.ctx_of_txs txs]), congrArg Txs.hall txs, congrArg Txs.survey txs, swb⟩

theorem State.Settles.each {α : Type} {f : α → State → State} {l : List α}
    (step : ∀ x t, s₀.Settles t → s₀.Settles (f x t)) : s₀.Settles (s.each l f) := State.each_keeps step l h

/-! ### The end of a recycle and the causes of R121 -/

theorem State.Settles.endTrip {n : TxId} : s₀.Settles (s.endTrip n) := by
  have left (t : State) : (t.leaveTripped n).txs.hall = t.txs.hall ∧ (t.leaveTripped n).txs.survey = t.txs.survey ∧
      (t.leaveTripped n).swb = t.swb := by
    rcases t.leaveTripped_cases n with same | moved
    · rw [same]; exact ⟨rfl, rfl, rfl⟩
    · rw [moved]; exact ⟨rfl, rfl, rfl⟩
  obtain ⟨hall, survey, swb⟩ := left (s.updCtx n fun c => { c with tripEnded := decide (c.state = .tripped) || c.tripEnded })
  refine h.trans ⟨fun m => ?_, hall, survey, swb⟩
  by_cases same : m = n
  · subst same; exact .inr (s.endTrip_ctx m)
  · exact .inl (State.endTrip_ctx_ne same s)

theorem State.Settles.stopRecycle {n : TxId} : s₀.Settles (s.stopRecycle n) := by
  unfold State.stopRecycle
  split
  · exact (h.same (t := (s.stopChan (.tx n .recycle)).updProt n fun p => { p with waiting := false }) rfl).endTrip
  · exact h

theorem State.Settles.abandon {n : TxId} {cause : Cause} : s₀.Settles (s.abandon n cause) := by
  unfold State.abandon
  split
  next p _ =>
    extract_lets wd posted marked dropped lost stopped
    have recycle : s₀.Settles stopped := by
      refine State.Settles.stopRecycle (h.same ?_)
      unfold lost
      split <;> simp [dropped, marked, posted]
    split
    exacts [recycle.same, recycle.same]
  · exact h

theorem State.Settles.takeDown {n : TxId} {cause : Cause} : s₀.Settles (s.takeDown n cause) := by
  have lost : (s.liveLost n cause).txsAndBus = s.txsAndBus := by unfold State.liveLost; split <;> simp
  have stopped := (h.same lost).stopRecycle (n := n)
  unfold State.takeDown
  dsimp only
  split
  · exact stopped.same (by rw [State.windDown_txsAndBus]; rfl)
  · exact stopped

theorem State.Settles.interrupt {n : TxId} {cause : Cause} : s₀.Settles (s.interrupt n cause) := by
  unfold State.interrupt
  split
  exacts [h.takeDown, h]

theorem State.Settles.causeReaches {n : TxId} {cause : Cause} : s₀.Settles (s.causeReaches n cause) := by
  unfold State.causeReaches
  split
  · split_ifs
    exacts [h.same, h, h.abandon]
  · exact h.interrupt

theorem State.Settles.planRefused {n : TxId} {ph : Phase} {why : Refused} : s₀.Settles (s.planRefused n ph why) := by
  unfold State.planRefused
  split
  · split
    exacts [h.causeReaches, h]
  · exact h

theorem State.Settles.nameCause {n : TxId} {cause : Cause} : s₀.Settles (s.nameCause n cause) := by
  unfold State.nameCause
  split
  exacts [h.causeReaches, h.takeDown]

theorem State.Settles.recycleFails {n : TxId} {cause : Cause} : s₀.Settles (s.recycleFails n cause) :=
  (h.same (t := s.updProt n fun p => { p with waiting := false }) rfl).endTrip.nameCause

theorem State.Settles.answer {n : TxId} {who : Asker} {o : Order} {why : Refused} : s₀.Settles (s.answer n who o why) := by
  unfold State.answer
  split
  · exact h.planRefused
  · split
    exacts [h.recycleFails, h]
  · exact h

/-! ### Claims -/

theorem State.Settles.enterQueue {a : AntId} {c : Claim} {t : State} (enters : s.enterQueue a c = some t) : s₀.Settles t := by
  have reserved (u : State) : (u.reserve a c).txsAndBus = u.txsAndBus := by
    unfold State.reserve; dsimp only; split <;> rfl
  unfold State.enterQueue at enters
  split at enters
  · split at enters
    · cases enters; exact h.same (reserved s)
    · split at enters
      · split at enters
        · cases enters; exact h.same (reserved _)
        · cases enters
      · cases enters
  · cases enters

theorem State.Settles.judgeClaim {a : AntId} {c : Claim} : s₀.Settles (s.judgeClaim a c).1 := by
  have entered : s₀.Settles (s.entered a c).1 := by
    unfold State.entered
    split
    next enters => exact h.enterQueue enters
    · exact h
  unfold State.judgeClaim
  extract_lets unowned emptyQueue obstacle
  split
  · exact h.same rfl
  · split
    · split
      next enters => exact (h.enterQueue enters).nameCause
      · exact h
    · split
      exacts [entered, h]

theorem State.Settles.claim {a : AntId} {c : Claim} : s₀.Settles (s.claim a c).1 := by
  unfold State.claim
  split_ifs
  · exact h
  · exact h
  · exact h
  · refine State.Settles.judgeClaim ?_
    split
    exacts [h.same, h]

theorem State.Settles.submitClaim {n : TxId} : s₀.Settles (s.submitClaim n) := by
  unfold State.submitClaim
  split
  · split
    · extract_lets sec phases claiming answered
      have claimed : s₀.Settles answered.1 := State.Settles.claim (h.same (t := claiming) rfl)
      split
      exacts [claimed.same, claimed.same, claimed.same, claimed.causeReaches]
    · exact h
  · exact h

theorem State.Settles.flagsDue {n : TxId} : s₀.Settles (s.flagsDue n) := by
  have claims (t : State) (ht : s₀.Settles t) : s₀.Settles (t.claimIfNeeded n) := by
    unfold State.claimIfNeeded
    split
    · split
      · split
        exacts [ht.same, ht.submitClaim]
      · exact ht
    · exact ht
  unfold State.flagsDue
  split
  next p _ =>
    have due : s₀.Settles (s.setPlan n (some (s.recompute n p))) := h.same
    split
    exacts [(claims _ due).same, h]
  · exact h

end Settles

/-! ## The operations that TXS and RFP call -/

theorem State.causeReaches_settles (n : TxId) (cause : Cause) (s : State) : s.Settles (s.causeReaches n cause) :=
  (State.Settles.refl s).causeReaches

theorem State.stopRecycle_settles (n : TxId) (s : State) : s.Settles (s.stopRecycle n) := (State.Settles.refl s).stopRecycle

theorem State.answer_settles (n : TxId) (who : Asker) (o : Order) (why : Refused) (s : State) :
    s.Settles (s.answer n who o why) := (State.Settles.refl s).answer

end Sys2Proof.Machine
end

section
/-! PROOFS. The orders of a hall line: what one that leaves writes (R81, R82, R91, R92), when one may leave (R87, R88), and what a
refusal leaves (R83, R91). -/

namespace Sys2Proof.Machine
open Sys2Proof Sys2Proof.Claims

/-! ## Reads after writes -/

@[simp] theorem State.setChan_ctx (ch : ChanId) (v : Chan) (s : State) : (s.setChan ch v).ctx = s.ctx := rfl

@[simp] theorem State.stopChan_ctx (ch : ChanId) (s : State) : (s.stopChan ch).ctx = s.ctx := rfl

@[simp] theorem State.stopRamp_ctx (n : TxId) (s : State) : (s.stopRamp n).ctx n = { s.ctx n with ramp := none } :=
  State.updCtx_ctx n _ _

theorem State.stopRamp_ctx_ne {n m : TxId} (h : m ≠ n) (s : State) : (s.stopRamp n).ctx m = s.ctx m :=
  State.updCtx_ctx_ne n m h _ _

@[simp] theorem State.updCtx_chan (n : TxId) (f : Ctx → Ctx) (s : State) (ch : ChanId) : (s.updCtx n f).chan ch = s.chan ch := rfl

@[simp] theorem State.updProt_chan (n : TxId) (f : Prot → Prot) (s : State) (ch : ChanId) :
    (s.updProt n f).chan ch = s.chan ch := rfl

@[simp] theorem State.toState_chan (n : TxId) (st : CtxState) (s : State) (ch : ChanId) :
    (s.toState n st).chan ch = s.chan ch := rfl

@[simp] theorem State.post_chan (nt : Notice) (s : State) (ch : ChanId) : (s.post nt).chan ch = s.chan ch := rfl

@[simp] theorem State.stopRamp_ramp (n : TxId) (s : State) : (s.stopRamp n).chan (.tx n .ramp) = .stopped :=
  State.stopChan_chan (.tx n .ramp) s

theorem State.stopChan_tx_ne {c d : TxChan} (h : d ≠ c) (n : TxId) (s : State) :
    (s.stopChan (.tx n c)).chan (.tx n d) = s.chan (.tx n d) := State.setChan_tx_ne h n _ s

theorem State.stopRamp_tx_ne {d : TxChan} (h : d ≠ .ramp) (n : TxId) (s : State) :
    (s.stopRamp n).chan (.tx n d) = s.chan (.tx n d) := State.stopChan_tx_ne h n s

/-! ## Sending -/

/-- A context once an order has left on its line (R81, R82, R91, R92). -/
def Ctx.sent (now : Nat) (who : Asker) (o : Order) (c : Ctx) : Ctx :=
  let d := { c with
    outstanding := some ⟨o, now, who, c.state, c.drive⟩
    unshown := noteSent o c.unshown
    sentSince := c.sentSince.note o }
  match o with
  | .rfOn tap =>
    { Ctx.moved .rampingUp { d with ramp := none } with
      rf := .on
      drive := 0
      tap := some tap
      rfShown := false
      tripSeen := false
      localTrip := false
      ramp := some ⟨.up, 0, 0, decide (who = .csq)⟩ }
  | .drive v => { d with drive := v }
  | .rfOff => { d with ramp := none, rf := .unsure }
  | _ => d

theorem State.sendNow_ctx (n : TxId) (who : Asker) (o : Order) (s : State) :
    (s.sendNow n who o).ctx n = (s.ctx n).sent s.now who o := by
  cases o <;> simp [State.sendNow, Ctx.sent]

theorem State.sendNow_ctx_ne {n m : TxId} (h : m ≠ n) (who : Asker) (o : Order) (s : State) :
    (s.sendNow n who o).ctx m = s.ctx m := by
  cases o <;> simp [State.sendNow, State.stopRamp_ctx_ne h, State.toState_ctx_ne h, State.updCtx_ctx_ne n m h]

theorem State.sendNow_prot_ne {n m : TxId} (h : m ≠ n) (who : Asker) (o : Order) (s : State) :
    (s.sendNow n who o).prot m = s.prot m := by
  cases o
  case rfOn => exact State.updProt_prot_ne n m h _ _
  case rfOff => exact State.updProt_prot_ne n m h _ _
  all_goals rfl

/-- An order that leaves writes TXS, RFP and the timers alone. -/
theorem State.sendNow_blocks (n : TxId) (who : Asker) (o : Order) (s : State) :
    (s.sendNow n who o).hds = s.hds ∧ (s.sendNow n who o).sch = s.sch ∧ (s.sendNow n who o).csq = s.csq ∧
      (s.sendNow n who o).amx = s.amx ∧ (s.sendNow n who o).swb = s.swb ∧ (s.sendNow n who o).lnk = s.lnk ∧
      (s.sendNow n who o).clk = s.clk ∧ (s.sendNow n who o).snaps = s.snaps ∧ (s.sendNow n who o).pins = s.pins := by
  cases o <;> simp [State.sendNow, State.stopRamp, State.stopChan, State.startChan, State.toState]

theorem State.sendNow_hall (n : TxId) (who : Asker) (o : Order) (s : State) :
    (s.sendNow n who o).txs.hall = s.txs.hall ∧ (s.sendNow n who o).txs.survey = s.txs.survey := by
  cases o <;> exact ⟨rfl, rfl⟩

/-- A DRIVE, and every order but the RF orders, starts the order accept channel alone. -/
theorem State.sendNow_tim {o : Order} (on : ∀ k, o ≠ .rfOn k) (off : o ≠ .rfOff) (n : TxId) (who : Asker) (s : State) :
    (s.sendNow n who o).tim = (s.startChan (.tx n .accept) 1000).tim ∧ (s.sendNow n who o).rfp = s.rfp := by
  cases o
  case rfOn k => exact absurd rfl (on k)
  case rfOff => exact absurd rfl off
  all_goals exact ⟨rfl, rfl⟩

theorem State.sendNow_accept (n : TxId) (who : Asker) (o : Order) (s : State) :
    (s.sendNow n who o).chan (.tx n .accept) = ⟨true, 1000, 1000⟩ := by
  cases o
  case rfOn k =>
    exact (State.stopRamp_tx_ne (d := .accept) (by decide) n _).trans (State.startChan_chan (.tx n .accept) 1000 s)
  case rfOff =>
    exact ((State.startChan_tx_ne (d := .accept) (by decide) n _ _).trans
      (State.stopRamp_tx_ne (d := .accept) (by decide) n _)).trans (State.startChan_chan (.tx n .accept) 1000 s)
  all_goals exact State.startChan_chan (.tx n .accept) 1000 s

/-- An RF-ON or an RF-OFF stops the ramp channel. -/
theorem State.sendNow_ramp {o : Order} (rf : (∃ k, o = .rfOn k) ∨ o = .rfOff) (n : TxId) (who : Asker) (s : State) :
    (s.sendNow n who o).chan (.tx n .ramp) = .stopped := by
  rcases rf with ⟨k, rfl⟩ | rfl
  · exact State.stopRamp_ramp n _
  · exact (State.startChan_tx_ne (d := .ramp) (by decide) n _ _).trans (State.stopRamp_ramp n _)

@[simp] theorem Ctx.sent_outstanding (now : Nat) (who : Asker) (o : Order) (c : Ctx) :
    (c.sent now who o).outstanding = some ⟨o, now, who, c.state, c.drive⟩ := by
  cases o <;> simp only [Ctx.sent, Ctx.moved]
  split <;> rfl

@[simp] theorem Ctx.sent_deferred (now : Nat) (who : Asker) (o : Order) (c : Ctx) :
    (c.sent now who o).deferred = c.deferred := by
  cases o <;> simp only [Ctx.sent, Ctx.moved]
  split <;> rfl

/-- Every order but RF-ON leaves the state. -/
@[simp] theorem Ctx.sent_state {o : Order} (on : ∀ k, o ≠ .rfOn k) (now : Nat) (who : Asker) (c : Ctx) :
    (c.sent now who o).state = c.state := by
  cases o
  case rfOn k => exact absurd rfl (on k)
  all_goals rfl

/-! ## Whether an order may leave (R87, R88, R97) -/

/-- R88, as the model tests it. -/
theorem State.mayRadiate_iff {s : State} {n : TxId} :
    mayRadiate n s ↔ (s.pathConfirmed n && s.hallRuns && !s.pins.emergency) = true := by
  have hall : s.hallRuns = true ↔ s.txs.hall = .running ∨ s.txs.hall = .halting := by simp [State.hallRuns]
  have clear (a : AntId) : (a ∈ s.standing n ∧ s.inService a = true ∧ s.zoneOpenAt a = false) ↔
      ∃ (r : AntRun) (d : AntDef), s.pos (.sel a) = .atp (.tx n) ∧
        s.run a = some r ∧ r.service = .inService ∧ s.antDef a = some d ∧ s.amx.zone[d.zone] ≠ some true := by
    simp only [State.standing, State.definedAnt, allAnt, List.mem_filter, List.mem_finRange, true_and, State.antDefined,
      State.inService, State.zoneOpenAt, decide_eq_true_eq]
    constructor
    · rintro ⟨⟨defined, stands⟩, service, zone⟩
      obtain ⟨d, found⟩ := Option.isSome_iff_exists.mp defined
      cases run : s.run a with
      | none => rw [run] at service; cases service
      | some r =>
        rw [run] at service
        rw [found] at zone
        exact ⟨r, d, stands, rfl, by simpa using service, found, by simpa using zone⟩
    · rintro ⟨r, d, stands, run, service, found, zone⟩
      refine ⟨⟨by rw [found]; rfl, stands⟩, ?_, ?_⟩
      · rw [run]; simpa using service
      · rw [found]; simpa using zone
  have path : s.pathConfirmed n = true ↔ s.pos (.row n) = .atp .load ∨ (s.pos (.row n) = .atp .matrix ∧
      (∃ a, a ∈ s.standing n ∧ s.inService a = true ∧ s.zoneOpenAt a = false) ∧ s.hallRuns = true ∧
      s.pins.emergency = false) := by
    simp [State.pathConfirmed, State.rowAt, and_assoc]
  simp only [clear] at path
  simp only [mayRadiate, Bool.and_eq_true, Bool.not_eq_true', path, hall]
  constructor
  · rintro ⟨runs, released, load | ⟨matrix, a, r, d, found⟩⟩
    · exact ⟨⟨.inl load, runs⟩, released⟩
    · exact ⟨⟨.inr ⟨matrix, ⟨a, r, d, found⟩, runs, released⟩, runs⟩, released⟩
  · rintro ⟨⟨load | ⟨matrix, ⟨a, r, d, found⟩, -, -⟩, runs⟩, released⟩
    · exact ⟨runs, released, .inl load⟩
    · exact ⟨runs, released, .inr ⟨matrix, a, r, d, found⟩⟩

/-- An order that nothing bars: its source is not LOCAL, its context takes it, and R88 allows an upward one. -/
theorem State.orderBar_none {s : State} {n : TxId} {who : Asker} {o : Order} (remote : (s.ctx n).source ≠ .localKey)
    (willing : o = .darken → (s.ctx n).declined = false) (takes : (s.ctx n).takes who o = true)
    (path : o.upward (s.ctx n).drive = true → mayRadiate n s) : s.orderBar n who o = none := by
  unfold State.orderBar
  rw [if_neg (fun h => remote h.1), if_neg (fun h => absurd (willing h.1) (by simp [h.2])), takes]
  by_cases up : o.upward (s.ctx n).drive = true
  · simp [State.mayRadiate_iff.mp (path up)]
  · simp [up]

/-- RF-OFF is barred by LOCAL alone, and not where its asker sends it over LOCAL (R97). -/
theorem State.orderBar_rfOff {s : State} {n : TxId} {who : Asker}
    (remote : (s.ctx n).source ≠ .localKey ∨ who.overLocal = true) : s.orderBar n who .rfOff = none := by
  unfold State.orderBar
  rw [if_neg (by rintro ⟨key, under⟩; rcases remote with other | sends <;> simp_all)]
  simp [Ctx.takes, Order.upward]

/-- An upward order that R88 does not allow is barred, by that or before it. -/
theorem State.orderBar_upward {s : State} {n : TxId} {o : Order} (up : o.upward (s.ctx n).drive = true)
    (barred : ¬ mayRadiate n s) (who : Asker) : ∃ why, s.orderBar n who o = some why := by
  have path : (s.pathConfirmed n && s.hallRuns && !s.pins.emergency) = false := by
    rwa [State.mayRadiate_iff, Bool.not_eq_true] at barred
  unfold State.orderBar
  dsimp only
  rw [up, path]
  split_ifs
  exacts [⟨_, rfl⟩, ⟨_, rfl⟩, ⟨_, rfl⟩, ⟨_, rfl⟩, absurd rfl ‹_›]

/-! ## Refusals (R83, R87, R88, R91) -/

/-- A ramp that fails keeps every context but for its ramp and the end of a recycle. -/
theorem State.rampFails_beside (n m : TxId) (why : Refused) (s : State) :
    ((s.rampFails n why).ctx m).beside = (s.ctx m).beside := by
  have stopped : ((s.stopRamp n).ctx m).beside = (s.ctx m).beside := by
    by_cases same : m = n
    · subst same; rw [State.stopRamp_ctx]; rfl
    · rw [State.stopRamp_ctx_ne same]
  have settles := State.Settles.refl (s.stopRamp n)
  unfold State.rampFails
  split
  · dsimp only
    split
    · split
      · exact (settles.planRefused.beside m).trans stopped
      · exact (settles.recycleFails.beside m).trans stopped
    · exact (settles.planRefused.beside m).trans stopped
    · exact stopped
  · rfl

/-- A refusal keeps every context but for its ramp and the end of a recycle. -/
theorem State.refuse_beside (n m : TxId) (who : Asker) (o : Order) (why : Refused) (s : State) :
    ((s.refuse n who o why).ctx m).beside = (s.ctx m).beside := by
  unfold State.refuse
  dsimp only
  rw [(State.answer_settles ..).beside m]
  split
  · exact State.rampFails_beside n m why s
  · rfl

/-- The parts of a context that no change of state and no ramp writes. -/
theorem Ctx.of_beside {c d : Ctx} (h : c.beside = d.beside) :
    c.outstanding = d.outstanding ∧ c.deferred = d.deferred ∧ c.rf = d.rf ∧ c.drive = d.drive ∧ c.tuned = d.tuned ∧
      c.source = d.source ∧ c.stored = d.stored ∧ c.trim = d.trim ∧ c.owed = d.owed ∧ c.lineUp = d.lineUp :=
  ⟨(congrArg Ctx.outstanding h :), (congrArg Ctx.deferred h :), (congrArg Ctx.rf h :), (congrArg Ctx.drive h :), (congrArg Ctx.tuned h :),
    (congrArg Ctx.source h :), (congrArg Ctx.stored h :), (congrArg Ctx.trim h :), (congrArg Ctx.owed h :), (congrArg Ctx.lineUp h :)⟩

/-! ## The deferred order (R82) -/

/-- The context with its deferred slot empty. -/
def State.undeferred (n : TxId) (s : State) : State := s.updCtx n fun c => { c with deferred := none }

theorem State.undeferred_ctx (n : TxId) (s : State) : (s.undeferred n).ctx n = { s.ctx n with deferred := none } :=
  State.updCtx_ctx n _ s

theorem State.undeferred_mayRadiate (n : TxId) (s : State) : mayRadiate n (s.undeferred n) ↔ mayRadiate n s := Iff.rfl

theorem State.sendDeferred_rests {s : State} {n : TxId}
    (rests : (s.ctx n).outstanding.isSome = true ∨ (s.ctx n).deferred = none) : s.sendDeferred n = s := by
  unfold State.sendDeferred
  split
  next free held =>
    rcases rests with sent | empty
    · rw [free] at sent; cases sent
    · rw [held] at empty; cases empty
  · rfl

section Deferred
variable {s : State} {n : TxId} {o : Order} {who : Asker} (free : (s.ctx n).outstanding = none)
  (held : (s.ctx n).deferred = some ⟨o, who⟩)
include free held

theorem State.sendDeferred_sends (clear : o = .rfOff ∨ (s.undeferred n).orderBar n who o = none) :
    s.sendDeferred n = (s.undeferred n).sendNow n who o := by
  have none : (if o = .rfOff then none else (s.undeferred n).orderBar n who o) = none := by
    split
    · rfl
    · exact clear.resolve_left ‹_›
  unfold State.sendDeferred
  rw [free, held]
  dsimp only [State.undeferred] at none ⊢
  rw [none]

theorem State.sendDeferred_refuses {why : Refused} (other : o ≠ .rfOff) (bars : (s.undeferred n).orderBar n who o = some why) :
    s.sendDeferred n = (s.undeferred n).refuse n who o why := by
  unfold State.sendDeferred
  rw [free, held]
  dsimp only [State.undeferred] at bars ⊢
  rw [if_neg other, bars]

/-- The deferred order is not sent where R88 bars it, and its refusal leaves the slot empty, the RF condition and the drive. -/
theorem State.sendDeferred_barred (up : o.upward (s.ctx n).drive = true) (barred : ¬ mayRadiate n s) :
    ((s.sendDeferred n).ctx n).outstanding = none ∧ ((s.sendDeferred n).ctx n).deferred = none ∧
      ((s.sendDeferred n).ctx n).rf = (s.ctx n).rf ∧ ((s.sendDeferred n).ctx n).drive = (s.ctx n).drive := by
  have other : o ≠ .rfOff := by rintro rfl; cases up
  obtain ⟨why, bars⟩ := State.orderBar_upward (s := s.undeferred n) (n := n) (o := o)
    (by rw [State.undeferred_ctx]; exact up) barred who
  rw [State.sendDeferred_refuses free held other bars]
  obtain ⟨outstanding, deferred, rf, drive, -⟩ := Ctx.of_beside ((s.undeferred n).refuse_beside n n who o why)
  rw [outstanding, deferred, rf, drive, State.undeferred_ctx]
  exact ⟨free, rfl, rfl, rfl⟩

/-- The deferred order leaves where its source is not LOCAL, the context takes it and R88 allows it. -/
theorem State.sendDeferred_taken (remote : (s.ctx n).source ≠ .localKey) (willing : o = .darken → (s.ctx n).declined = false)
    (takes : (s.ctx n).takes who o = true) (path : o.upward (s.ctx n).drive = true → mayRadiate n s) :
    s.sendDeferred n = (s.undeferred n).sendNow n who o := by
  refine State.sendDeferred_sends free held (.inr (State.orderBar_none ?_ ?_ ?_ ?_)) <;> rw [State.undeferred_ctx]
  exacts [remote, willing, takes, path]

end Deferred

end Sys2Proof.Machine

namespace Sys2Proof.Proofs
open Sys2Proof Sys2Proof.Machine Sys2Proof.Claims

/-- What stands of every deferred order once it has left. -/
theorem deferredOrder_sent (s : State) (n : TxId) (o : Order) (who : Asker) :
    let t := (s.undeferred n).sendNow n who o
    (t.ctx n).outstanding = some ⟨o, s.now, who, (s.ctx n).state, (s.ctx n).drive⟩ ∧ (t.ctx n).deferred = none ∧
      t.chan (.tx n .accept) = ⟨true, 1000, 1000⟩ ∧ (∀ m, m ≠ n → t.ctx m = s.ctx m ∧ t.prot m = s.prot m) ∧
      t.hds = s.hds ∧ t.sch = s.sch ∧ t.csq = s.csq ∧ t.amx = s.amx ∧ t.swb = s.swb ∧ t.lnk = s.lnk ∧ t.clk = s.clk ∧
      t.snaps = s.snaps ∧ t.pins = s.pins := by
  refine ⟨?_, ?_, State.sendNow_accept .., fun m other => ⟨?_, State.sendNow_prot_ne other ..⟩, State.sendNow_blocks ..⟩
  · rw [State.sendNow_ctx, State.undeferred_ctx, Ctx.sent_outstanding]; rfl
  · rw [State.sendNow_ctx, State.undeferred_ctx, Ctx.sent_deferred]
  · rw [State.sendNow_ctx_ne other]
    exact State.updCtx_ctx_ne n m other _ s

/-- Settles O27: with the slot full and the line free the order leaves (`deferredOrder_sent`), or R88 bars it
(`sendDeferred_barred`). -/
theorem deferredOrderIsSent : Obligations.DeferredOrderIsSent := by
  intro s n
  refine ⟨fun rests => congrArg _ (State.sendDeferred_rests rests), fun o who free held => ?_⟩
  have sends (go : s.sendDeferred n = (s.undeferred n).sendNow n who o) :
      exec (.deferredOrderSend n) s = .next ((s.undeferred n).sendNow n who o) := congrArg _ go
  have sent := deferredOrder_sent s n o who
  have ctx := (s.undeferred n).sendNow_ctx n who o
  rw [State.undeferred_ctx] at ctx
  refine ⟨?_, ?_, ?_, ?_, ?_, ?_, ?_, ?_, ?_⟩
  · rintro rfl
    obtain ⟨-, rfOff⟩ := (s.undeferred n).sendNow_rfOff_chans n who
    refine ⟨_, ⟨sends (State.sendDeferred_sends free held (.inl rfl)), sent⟩, ?_, ?_, ?_, ?_,
      State.sendNow_ramp (.inr rfl) n who _, rfOff⟩ <;> rw [ctx] <;> rfl
  · rintro k rfl remote state path
    have takes : (s.ctx n).takes who (.rfOn k) = true := by simpa [Ctx.takes] using state
    refine ⟨_, ⟨sends (State.sendDeferred_taken free held remote nofun takes fun _ => path), sent⟩, ?_, ?_, ?_, ?_,
      State.sendNow_ramp (.inl ⟨k, rfl⟩) n who _⟩ <;> rw [ctx]
    · rfl
    · exact Ctx.moved_state .rampingUp _
    · rfl
    · rfl
  · rintro k rfl barred
    obtain ⟨outstanding, deferred, rf, -⟩ := State.sendDeferred_barred free held rfl barred
    exact ⟨_, rfl, outstanding, deferred, rf⟩
  · rintro v rfl remote state on path
    have takes : (s.ctx n).takes who (.drive v) = true := by simpa [Ctx.takes, on, or_assoc] using state
    refine ⟨_, ⟨sends (State.sendDeferred_taken free held remote nofun takes fun up => ?_), sent⟩, ?_, ?_, ?_⟩
    · exact path.resolve_left (by simpa [Order.upward] using up)
    · rw [ctx]; rfl
    · rw [ctx]; exact on
    · rw [ctx]; rfl
  · rintro v rfl up barred
    obtain ⟨outstanding, deferred, -, drive⟩ := State.sendDeferred_barred free held (decide_eq_true up) barred
    exact ⟨_, rfl, outstanding, deferred, drive⟩
  · rintro f rfl remote state off
    have takes : (s.ctx n).takes who (.tune f) = true := by simpa [Ctx.takes, off] using state
    refine ⟨_, ⟨sends (State.sendDeferred_taken free held remote nofun takes nofun), sent⟩, ?_, ?_⟩ <;> rw [ctx]
    exacts [off, rfl]
  · rintro rfl remote state
    have takes : (s.ctx n).takes who .warm = true := by simp [Ctx.takes, state]
    refine ⟨_, ⟨sends (State.sendDeferred_taken free held remote nofun takes nofun), sent⟩, ?_⟩
    rw [ctx]; exact state
  · rintro rfl remote state off willing
    have takes : (s.ctx n).takes who .darken = true := by simpa [Ctx.takes, off, willing] using state
    refine ⟨_, ⟨sends (State.sendDeferred_taken free held remote (fun _ => willing) takes nofun), sent⟩, ?_⟩
    rw [ctx]; rfl
  · rintro rfl remote
    refine ⟨_, ⟨sends (State.sendDeferred_taken free held remote nofun rfl nofun), sent⟩, ?_, ?_⟩ <;> rw [ctx] <;> rfl

end Sys2Proof.Proofs
end

section
/-! PROOFS. The expiries of the ramp channel (R91, R160). -/

namespace Sys2Proof.Machine
open Sys2Proof Sys2Proof.Claims

/-- The gate of the ramp channel is OPEN where no DRIVE is outstanding and the plan is not at hold (R91). -/
theorem State.gateOpen_ramp_iff {s : State} {n : TxId} : s.gateOpen (.tx n .ramp) = true ↔
    (∀ o v, (s.ctx n).outstanding = some o → o.order ≠ .drive v) ∧ ∀ p, s.plan n = some p → p.atHold = false := by
  have drive (o : Order) : o.isDrive = false ↔ ∀ v, o ≠ .drive v := by cases o <;> simp [Order.isDrive]
  simp only [State.gateOpen, rampGate, Bool.and_eq_true, Bool.not_eq_true']
  refine and_congr ?_ ?_
  · cases (s.ctx n).outstanding with
    | none => simp
    | some o => exact (drive o.order).trans ⟨fun h _ v same => by cases same; exact h v, fun h v => h o v rfl⟩
  · cases s.plan n <;> simp

theorem State.onExpiry_shut {ch : ChanId} {s : State} (shut : ¬ ((s.chan ch).running = true ∧ s.gateOpen ch = true))
    (f : State → State) : s.onExpiry ch f = s := by
  have none : ((s.chan ch).running && s.gateOpen ch) = false := by rwa [← Bool.not_eq_true, Bool.and_eq_true]
  simp only [State.onExpiry, State.expire, none, Bool.false_eq_true, if_false]

/-- The state in which the expiry of a transmitter's ramp channel is handled: its time has passed and it runs its next period. -/
def State.rampReloaded (n : TxId) (s : State) : State :=
  (s.elapse (s.chan (.tx n .ramp)).remaining).setChan (.tx n .ramp)
    ⟨true, (s.chan (.tx n .ramp)).duration, (s.chan (.tx n .ramp)).duration⟩

theorem State.onExpiry_ramp {n : TxId} {s : State} (running : (s.chan (.tx n .ramp)).running = true)
    (isOpen : s.gateOpen (.tx n .ramp) = true) (f : State → State) : s.onExpiry (.tx n .ramp) f = f (s.rampReloaded n) := by
  simp only [State.onExpiry, State.expire, running, isOpen, Bool.and_self, if_true]
  rfl

theorem State.rampReloaded_ramp (n : TxId) (s : State) : (s.rampReloaded n).chan (.tx n .ramp) =
    ⟨true, (s.chan (.tx n .ramp)).duration, (s.chan (.tx n .ramp)).duration⟩ := State.setChan_chan _ _ _

/-- The end of a ramp down stops the ramp and leaves the rest of its context (R91). -/
theorem State.rampEnd_down {n : TxId} {s : State} {r : Ramp} (ramp : (s.ctx n).ramp = some r) (down : r.kind = .down) :
    (s.rampEnd n).ctx n = { s.ctx n with ramp := none } ∧ (s.rampEnd n).chan (.tx n .ramp) = .stopped := by
  have ends : s.rampEnd n = (s.stopRamp n).endPhase n .rampdown := by simp only [State.rampEnd, ramp, down]
  rw [ends, State.endPhase_ctx, State.stopRamp_ctx, State.chan_of_outline (State.endPhase_outline ..) (by decide),
    State.stopRamp_ramp]
  exact ⟨rfl, rfl⟩

/-- The context whose ramp has counted one more expiry. -/
def State.rampCounted (n : TxId) (r : Ramp) (s : State) : State :=
  s.updCtx n fun c => { c with ramp := some { r with count := r.count + 1 } }

theorem State.rampStepped_ends {n : TxId} {s : State} {r : Ramp} (ramp : (s.ctx n).ramp = some r)
    (last : r.kind = .down ∧ (s.ctx n).drive = 0) : s.rampStepped n = s.rampEnd n := by
  simp [State.rampStepped, ramp, last]

theorem State.rampStepped_asks {n : TxId} {s : State} {r : Ramp} (ramp : (s.ctx n).ramp = some r)
    (going : ¬ (r.kind = .down ∧ (s.ctx n).drive = 0)) : s.rampStepped n = (s.rampCounted n r).askOrder n .txs
      (.drive (rampValue r (r.count + 1) (s.rampStep n) (s.prot n).d)) := by
  have more : ¬ (decide (r.kind = .down) && decide ((s.ctx n).drive = 0)) = true := by simpa using going
  simp only [State.rampStepped, ramp, if_neg more, State.rampCounted]

/-- An order on a line that is UP and free leaves where nothing bars it. -/
theorem State.askOrder_sends {s : State} {n : TxId} {who : Asker} {o : Order} (defined : s.txDefined n = true)
    (up : (s.ctx n).lineUp = true) (clear : s.orderBar n who o = none) (free : (s.ctx n).outstanding = none)
    (cold : o = .warm → (s.ctx n).state ≠ .warming) : s.askOrder n who o = s.sendNow n who o := by
  have sends : ¬ (o = .warm ∧ (s.ctx n).state = .warming) := fun h => cold h.1 h.2
  simp [State.askOrder, defined, up, clear, free, sends]

end Sys2Proof.Machine

namespace Sys2Proof.Proofs
open Sys2Proof Sys2Proof.Machine Sys2Proof.Claims

/-- Settles O52: the channel's gate (`gateOpen_ramp_iff`), the end of a ramp down (`rampEnd_down`), and the DRIVE that leaves. -/
theorem rampStepsSendTheDrive : Obligations.RampStepsSendTheDrive := by
  intro s n
  dsimp only
  rw [← State.gateOpen_ramp_iff]
  refine ⟨fun shut => congrArg _ (State.onExpiry_shut shut _), fun r d isOpen ramp defined => ?_⟩
  have go : exec (.rampExpiry n) s = .next ((s.rampReloaded n).rampStepped n) :=
    congrArg _ (State.onExpiry_ramp isOpen.1 isOpen.2 _)
  have there : ((s.rampReloaded n).ctx n).ramp = some r := ramp
  refine ⟨fun down zero => ?_, fun going up remote free on state path => ?_⟩
  · obtain ⟨ctx, stopped⟩ := State.rampEnd_down there down
    rw [State.rampStepped_ends there ⟨down, zero⟩] at go
    refine ⟨_, go, ?_, stopped, ?_, ?_⟩ <;> rw [ctx] <;> rfl
  · have step : s.rampStep n = d.rampStep := by simp only [State.rampStep, defined]
    have known : s.txDefined n = true := by rw [State.txDefined, defined]; rfl
    rw [State.rampStepped_asks there going] at go
    have counted := State.updCtx_ctx n (fun c => { c with ramp := some { r with count := r.count + 1 } }) (s.rampReloaded n)
    generalize value : rampValue r (r.count + 1) ((s.rampReloaded n).rampStep n) ((s.rampReloaded n).prot n).d = v at go
    have goal : rampValue r (r.count + 1) d.rampStep (s.prot n).d = v := by rw [← step]; exact value
    simp only [rampValue] at goal
    rw [goal] at path ⊢
    have clear : ((s.rampReloaded n).rampCounted n r).orderBar n .txs (.drive v) = none := by
      refine State.orderBar_none ?_ nofun ?_ fun upward => ?_
      · rw [State.rampCounted, counted]; exact remote
      · rw [State.rampCounted, counted]
        have carries : (s.ctx n).takes .txs (.drive v) = true := by simpa [Ctx.takes, on, or_assoc] using state
        exact carries
      · have above : (s.ctx n).drive < v := by
          rw [State.rampCounted, counted] at upward; exact of_decide_eq_true upward
        exact path.resolve_left (Nat.not_le.mpr above)
    rw [State.askOrder_sends (s := (s.rampReloaded n).rampCounted n r) known
      (by rw [State.rampCounted, counted]; exact up) clear (by rw [State.rampCounted, counted]; exact free) (fun h => nomatch h)]
      at go
    have ctx := ((s.rampReloaded n).rampCounted n r).sendNow_ctx n .txs (.drive v)
    obtain ⟨hds, sch, csq, amx, swb, -⟩ := ((s.rampReloaded n).rampCounted n r).sendNow_blocks n .txs (.drive v)
    obtain ⟨tim, rfp⟩ := ((s.rampReloaded n).rampCounted n r).sendNow_tim nofun nofun n .txs (o := .drive v)
    refine ⟨_, go, ⟨_, (congrArg Ctx.outstanding ctx).trans (Ctx.sent_outstanding ..), rfl⟩,
      ?_, ?_, ?_, hds, sch, csq, amx, swb, rfp⟩
    · rw [ctx]; rfl
    · rw [ctx, State.rampCounted, counted]; rfl
    · rw [State.chan, tim]
      exact (State.startChan_tx_ne (c := .accept) (d := .ramp) (by decide) n 1000 _).trans (s.rampReloaded_ramp n)

end Sys2Proof.Proofs
end

section
/-! PROOFS. The trims and what an order leaves of a context (R98, R99), the rebuild of a context (R86), READ-TX, TRIM, READ-TRIM and
CLEAR-FAULT. -/

namespace Sys2Proof.Machine
open Sys2Proof Sys2Proof.Claims

/-! ## What no order and no ramp writes of a context -/

/-- The parts of a context that no order and no ramp writes: source, stored setting, trim and tuned frequency. -/
def Ctx.setting (c : Ctx) : Source × Stored × Nat × Option Nat := (c.source, c.stored, c.trim, c.tuned)

theorem Ctx.of_setting {c d : Ctx} (h : c.setting = d.setting) :
    c.source = d.source ∧ c.stored = d.stored ∧ c.trim = d.trim ∧ c.tuned = d.tuned :=
  by simpa only [Ctx.setting, Prod.mk.injEq] using h

theorem Ctx.setting_of_beside {c d : Ctx} (h : c.beside = d.beside) : c.setting = d.setting :=
  (congrArg Ctx.setting h :)

theorem Ctx.sent_setting (now : Nat) (who : Asker) (o : Order) (c : Ctx) : (c.sent now who o).setting = c.setting := by
  cases o
  case rfOn k => exact (Ctx.setting_of_beside (Ctx.moved_beside .rampingUp _) :)
  all_goals rfl

/-- A write of one context keeps the settings of all where it keeps those of that one. -/
theorem State.updCtx_setting {n : TxId} {f : Ctx → Ctx} (keeps : ∀ c, (f c).setting = c.setting) (m : TxId) (s : State) :
    ((s.updCtx n f).ctx m).setting = (s.ctx m).setting := by
  by_cases same : m = n
  · subst same; rw [State.updCtx_ctx, keeps]
  · rw [State.updCtx_ctx_ne n m same]

theorem State.sendNow_setting (n m : TxId) (who : Asker) (o : Order) (s : State) :
    ((s.sendNow n who o).ctx m).setting = (s.ctx m).setting := by
  by_cases same : m = n
  · subst same; rw [State.sendNow_ctx, Ctx.sent_setting]
  · rw [State.sendNow_ctx_ne same]

theorem State.refuse_setting (n m : TxId) (who : Asker) (o : Order) (why : Refused) (s : State) :
    ((s.refuse n who o why).ctx m).setting = (s.ctx m).setting := Ctx.setting_of_beside (State.refuse_beside ..)

theorem State.defer_setting (n m : TxId) (who : Asker) (o : Order) (s : State) :
    ((s.defer n who o).ctx m).setting = (s.ctx m).setting := by
  have slot : ((s.slot n who o).ctx m).setting = (s.ctx m).setting := State.updCtx_setting (by intro; rfl) m s
  unfold State.defer
  split
  · exact slot
  · split_ifs
    · rfl
    · exact State.refuse_setting ..
    · exact slot
    · exact (Ctx.setting_of_beside ((State.answer_settles ..).beside m)).trans slot

/-- An order asked for keeps source, stored setting, trim and tuned frequency of every context. -/
theorem State.askOrder_setting (n m : TxId) (who : Asker) (o : Order) (s : State) :
    ((s.askOrder n who o).ctx m).setting = (s.ctx m).setting := by
  unfold State.askOrder
  split
  · split
    · split
      · exact State.refuse_setting ..
      · split_ifs
        exacts [rfl, State.defer_setting .., State.sendNow_setting ..]
    · split
      · exact State.updCtx_setting (by intro; rfl) m s
      · exact State.refuse_setting ..
  · rfl

theorem State.startRamp_setting (n m : TxId) (k : RampKind) (s : State) :
    ((s.startRamp n k).ctx m).setting = (s.ctx m).setting := State.updCtx_setting (by intro; rfl) m _

theorem State.driveTo_setting (n m : TxId) (s : State) : ((s.driveTo n).ctx m).setting = (s.ctx m).setting := by
  unfold State.driveTo
  dsimp only
  split
  · rfl
  · split
    · split_ifs
      exacts [State.askOrder_setting .., State.startRamp_setting .., rfl]
    · split
      exacts [State.askOrder_setting .., rfl]
    · rfl

theorem State.recomposed_ctx (n : TxId) (s : State) : (s.recomposed n).1.ctx = s.ctx := by
  unfold State.recomposed
  split
  · unfold State.drawn; split <;> rfl
  · rfl

theorem State.reshape_setting (n m : TxId) (s : State) : ((s.reshape n).ctx m).setting = (s.ctx m).setting := by
  rw [State.reshape, State.driveTo_setting, State.recomposed_ctx]

/-! ## Trims (R99) -/

theorem State.storeTrim_trim (v : Nat) (n m : TxId) (s : State) :
    ((s.storeTrim v n).ctx m).trim = if m = n then v else (s.ctx m).trim := by
  have stored : ((s.updCtx n fun c => { c with trim := v }).ctx m).trim = if m = n then v else (s.ctx m).trim := by
    split
    next same => subst same; rw [State.updCtx_ctx]
    next other => rw [State.updCtx_ctx_ne n m other]
  have reshaped : ∀ t : State, ((t.reshape n).ctx m).trim = (t.ctx m).trim := fun t =>
    congrArg (fun x => x.2.2.1) (t.reshape_setting n m)
  rw [← stored]
  unfold State.storeTrim
  dsimp only
  split
  · rfl
  · split
    exacts [reshaped _, rfl]

/-- The trims that several transmitters take. -/
theorem State.storeTrims_trim (v : Nat) (l : List TxId) (m : TxId) (s : State) :
    ((s.each l (State.storeTrim v)).ctx m).trim = if m ∈ l then v else (s.ctx m).trim := by
  induction l generalizing s with
  | nil => simp [State.each]
  | cons n l ih =>
    have after : ((s.each (n :: l) (State.storeTrim v)).ctx m).trim =
        if m ∈ l then v else ((s.storeTrim v n).ctx m).trim := ih (s.storeTrim v n)
    rw [after, State.storeTrim_trim]
    by_cases same : m = n <;> simp [same]

/-! ## The rebuild of a context (R86) -/

theorem State.rebuildTo_state (n : TxId) (st : CtxState) (s : State) : ((s.rebuildTo n st).ctx n).state = st := by
  unfold State.rebuildTo
  split
  · assumption
  · rw [State.toState_ctx, Ctx.moved_state]

theorem State.toFaulted_ctx (n : TxId) (f : FaultCause) (s : State) :
    (s.toFaulted n f).ctx n = { (s.ctx n).moved .faulted with cause := some f } := by
  rw [State.toFaulted, State.updCtx_ctx, State.toState_ctx]

theorem State.toFaulted_state (n : TxId) (f : FaultCause) (s : State) : ((s.toFaulted n f).ctx n).state = .faulted := by
  rw [State.toFaulted_ctx]
  exact Ctx.moved_state ..

theorem State.rebuild_state {n : TxId} {s : State} (defined : s.txDefined n = true) (r : StateReport) :
    ((s.rebuild n r).ctx n).state = rebuiltState r := by
  obtain ⟨d, found⟩ := Option.isSome_iff_exists.mp defined
  cases unit : r.unit <;> simp only [State.rebuild, rebuiltState, unit, found]
  case warming => split <;> simp [State.rebuildTo_state]
  case tripped => split <;> simp [*, State.rebuildTo_state]
  case fault => exact State.toFaulted_state ..
  all_goals simp [State.rebuildTo_state]

theorem State.rebuildTo_prot (n m : TxId) (st : CtxState) (s : State) : (s.rebuildTo n st).prot m = s.prot m := by
  unfold State.rebuildTo
  split <;> rfl

theorem State.rebuild_prot (n m : TxId) (r : StateReport) (s : State) : (s.rebuild n r).prot m = s.prot m := by
  have written (f : Ctx → Ctx) (t : State) : (t.updCtx n f).prot m = t.prot m := rfl
  have started (ch : ChanId) (k : Nat) (t : State) : (t.startChan ch k).prot m = t.prot m := rfl
  unfold State.rebuild
  split
  case h_8 => rfl
  all_goals (try split) <;> (try split) <;> simp only [written, started, State.rebuildTo_prot]

/-! ## CLEAR-FAULT (R98) -/

/-- A clearing rebuilds the context and clears its cause, which a last report without FAULT does not set again. -/
theorem State.clearRebuild_of {n : TxId} {s : State} {r : StateReport} (defined : s.txDefined n = true)
    (last : (s.ctx n).last = some r) (sound : r.unit ≠ .fault) :
    ((s.clearRebuild n).ctx n).state = rebuiltState r ∧ ((s.clearRebuild n).ctx n).cause = none ∧
      ∀ m, (s.clearRebuild n).prot m = s.prot m := by
  have rebuilds : s.clearRebuild n = (s.rebuild n r).updCtx n fun c => { c with
      rf := c.rfBy r
      cause := if c.state = .faulted then some .unit else none } := by simp only [State.clearRebuild, last]
  have whole : rebuiltState r ≠ .faulted := by
    unfold rebuiltState
    split <;> first | decide | skip
    · split <;> decide
    · contradiction
  rw [rebuilds, State.updCtx_ctx]
  exact ⟨State.rebuild_state defined r, if_neg (by rw [State.rebuild_state defined r]; exact whole),
    fun m => State.rebuild_prot n m r s⟩

theorem State.updEntry_ctx (act : ActId) (f : ActEntry → ActEntry) (s : State) : (s.updEntry act f).ctx = s.ctx :=
  State.ctx_of_txs (State.setEntry_txs ..)

theorem State.askQuery_ctx (act : ActId) (who : Requester) (s : State) : (s.askQuery act who).ctx = s.ctx := by
  unfold State.askQuery
  split
  · dsimp only
    split_ifs
    · exact State.updEntry_ctx ..
    · exact State.updEntry_ctx ..
    · rw [State.updEntry_ctx, State.updEntry_ctx]
  · rfl

theorem State.clearByQuery_ctx (n : TxId) (l : List ActId) (s : State) :
    (s.clearByQuery n l).ctx n = { s.ctx n with clearing := l, queried := l } := by
  have asked := State.each_view State.ctx l (f := fun act t => t.askQuery act (clearAsker n act))
    (fun act t => State.askQuery_ctx act _ t) (s.updCtx n fun c => { c with clearing := l, queried := l })
  rw [State.clearByQuery, asked, State.updCtx_ctx]

theorem State.clearAdoption_ctx (n : TxId) (s : State) : ((s.clearAdoption n).ctx n).state = (s.ctx n).state ∧
    ((s.clearAdoption n).ctx n).cause = (s.ctx n).cause := by
  unfold State.clearAdoption
  split
  · rw [State.clearByQuery_ctx]; exact ⟨rfl, rfl⟩
  · exact ⟨rfl, rfl⟩

theorem State.clearFault_barred {n : TxId} {s : State} {k : Nat} (bar : (s.ctx n).clearBar = some k) :
    s.clearFault n = s.refused .state k := by simp only [State.clearFault, bar]

theorem State.trimmed_tx {s : State} {number : Nat} {n : TxId} (item : itemOf 16 number = some n)
    (defined : s.txDefined n = true) : s.trimmed (.tx number) = .ok [n] := by
  simp only [State.trimmed, item, if_pos defined]

theorem State.trimmed_group {s : State} {number : Nat} {g : GroupId} (item : itemOf 4 number = some g)
    (some : s.effective g ≠ []) : s.trimmed (.group number) = .ok (s.effective g) := by
  simp only [State.trimmed, item, List.isEmpty_iff, if_neg some]

theorem State.reqTrim_of {s : State} {target : TrimTarget} {l : List TxId} (named : s.trimmed target = .ok l) (x : Nat) :
    s.reqTrim target x = (s.each l (State.storeTrim (storedTrim x))).ok
      (.trims (l.map fun n => (n, storedTrim x)) (if storedTrim x = x then [] else [3])) := by
  simp only [State.reqTrim, named]

theorem State.reqTrim_refused {s : State} {target : TrimTarget} {why : Reason × Nat} (refused : s.trimmed target = .error why)
    (x : Nat) : s.reqTrim target x = s.refused why.1 why.2 := by
  simp only [State.reqTrim, refused]

theorem State.reqReadTrim_of {s : State} {target : TrimTarget} {n : TxId} {l : List TxId}
    (named : s.trimmed target = .ok (n :: l)) : s.reqReadTrim target = s.ok (.trimOf (s.ctx n).trim (n :: l)) := by
  simp only [State.reqReadTrim, named]

end Sys2Proof.Machine

namespace Sys2Proof.Proofs
open Sys2Proof Sys2Proof.Machine Sys2Proof.Claims

theorem slotHolds_replied (port : Port) (tag kind : Byte) (res : Result) (t : State) :
    slotHolds port tag res (replied port tag kind res t) := by
  cases port <;> exact ⟨_, rfl, rfl, rfl⟩

/-- The reply of a TRIM that is accepted, and the trims after it (R99). -/
theorem exec_trim {s : State} {port : Port} (free : portFree port s) (tag : Byte) {target : TrimTarget} {l : List TxId}
    (named : s.trimmed target = .ok l) (x : Nat) :
    ∃ t, exec (.trim port tag target x) s = .next t ∧
      slotHolds port tag (.accepted (.trims (l.map fun n => (n, storedTrim x)) (if storedTrim x = x then [] else [3]))) t ∧
      (∀ m, (t.ctx m).trim = if m ∈ l then storedTrim x else (s.ctx m).trim) ∧ t.hds = s.hds := by
  have still := s.reqTrim_still target x
  rw [State.reqTrim_of named] at still
  refine ⟨_, exec_read (.trim target x) rfl free rfl (State.reqTrim_of named x),
    slotHolds_replied .., fun m => ?_, ?_⟩
  · rw [replied_ctx]; exact State.storeTrims_trim ..
  · rw [replied_hds]; exact congrArg Still.hds still

/-- A CLEAR-FAULT that rebuilds the context at once (R98). -/
theorem exec_clearFault_rebuilds {s t : State} {port : Port} (free : portFree port s) (tag : Byte) {number : Nat} {n : TxId}
    {r : StateReport} (answer : s.reqClearFault number = t.clearedNow n) (defined : t.txDefined n = true)
    (last : (t.ctx n).last = some r) (sound : r.unit ≠ .fault) (hds : t.hds = s.hds) (snaps : t.snaps = s.snaps) :
    ∃ u, exec (.clearFault port tag number) s = .next u ∧ slotHolds port tag (.accepted (.cleared (u.ctx n).state)) u ∧
      (u.ctx n).cause = none ∧ (u.ctx n).state = rebuiltState r ∧ u.prot n = t.prot n ∧ u.hds = s.hds ∧ u.snaps = s.snaps := by
  obtain ⟨state, cause, prot⟩ := State.clearRebuild_of defined last sound
  have still := t.clearRebuild_still n
  refine ⟨_, exec_read (.clearFault number) rfl free rfl answer,
    ?_, ?_, ?_, ?_, ?_, ?_⟩
  · rw [replied_ctx]; exact slotHolds_replied ..
  · rw [replied_ctx]; exact cause
  · rw [replied_ctx]; exact state
  · rw [replied_prot]; exact prot n
  · rw [replied_hds]; exact (congrArg Still.hds still).trans hds
  · rw [replied_snaps]; exact (congrArg Still.snaps still).trans snaps

/-- A CLEAR-FAULT that waits for the bus keeps the context (R98, R185). -/
theorem exec_clearFault_waits {s t : State} {port : Port} (free : portFree port s) (tag : Byte) {number : Nat} {n : TxId}
    (answer : s.reqClearFault number = t.ok .clearPending)
    (state : (t.ctx n).state = (s.ctx n).state) (cause : (t.ctx n).cause = (s.ctx n).cause) :
    ∃ u, exec (.clearFault port tag number) s = .next u ∧ slotHolds port tag (.accepted .clearPending) u ∧
      (u.ctx n).state = (s.ctx n).state ∧ (u.ctx n).cause = (s.ctx n).cause := by
  refine ⟨_, exec_read (.clearFault number) rfl free rfl answer,
    slotHolds_replied .., ?_, ?_⟩
  · rw [replied_ctx]; exact state
  · rw [replied_ctx]; exact cause

/-- CLEAR-FAULT on a defined transmitter, after its three checks (R98). -/
theorem exec_clearFault_judged {s : State} {port : Port} (free : portFree port s) (tag : Byte) {number : Nat} {n : TxId}
    {r : StateReport} (item : itemOf 16 number = some n) (defined : s.txDefined n = true) (clear : (s.ctx n).clearBar = none)
    (last : (s.ctx n).last = some r) (sound : r.unit ≠ .fault) :
    ((s.ctx n).cause ≠ some .rowSwitch → (s.ctx n).cause ≠ some .adoption →
      ∃ u, exec (.clearFault port tag number) s = .next u ∧ slotHolds port tag (.accepted (.cleared (u.ctx n).state)) u ∧
        (u.ctx n).cause = none ∧ (u.ctx n).state = rebuiltState r ∧
        ((s.ctx n).cause = some .recycleLimit → (u.prot n).recycleCount = 0 ∧ (u.prot n).windowStart = some s.clk.elapsed) ∧
        u.hds = s.hds ∧ u.snaps = s.snaps) ∧
    ((s.ctx n).cause = some .rowSwitch ∨ (s.ctx n).cause = some .adoption →
      ∃ u, exec (.clearFault port tag number) s = .next u ∧ slotHolds port tag (.accepted .clearPending) u ∧
        (u.ctx n).state = (s.ctx n).state ∧ (u.ctx n).cause = (s.ctx n).cause) := by
  have answer : s.reqClearFault number = s.clearFault n := State.withTx_defined item defined
  simp only [State.clearFault, clear] at answer
  refine ⟨fun row adoption => ?_, ?_⟩
  · by_cases limit : (s.ctx n).cause = some .recycleLimit
    · simp only [limit] at answer
      obtain ⟨u, go, slot, cause, state, prot, rest⟩ := exec_clearFault_rebuilds free tag answer defined last sound rfl rfl
      refine ⟨u, go, slot, cause, state, fun _ => ?_, rest⟩
      rw [prot, State.freshRecycle, State.updProt_prot]
      exact ⟨rfl, rfl⟩
    · have direct : s.reqClearFault number = s.clearedNow n := by
        rw [answer]
        split <;> first | contradiction | rfl
      obtain ⟨u, go, slot, cause, state, -, rest⟩ := exec_clearFault_rebuilds free tag direct defined last sound rfl rfl
      exact ⟨u, go, slot, cause, state, fun h => absurd h limit, rest⟩
  · rintro (row | adoption)
    · simp only [row] at answer
      exact exec_clearFault_waits free tag answer (by rw [State.clearByQuery_ctx]) (by rw [State.clearByQuery_ctx])
    · simp only [adoption] at answer
      obtain ⟨state, cause⟩ := s.clearAdoption_ctx n
      exact exec_clearFault_waits free tag answer state cause

/-- Settles O33: refusals by what the requests name, the trims by `storeTrims_trim`, and CLEAR-FAULT by its checks
(`clearFault_barred`) and by what it finds behind them (`exec_clearFault_judged`). -/
theorem trimsAndFaultClearing : Obligations.TrimsAndFaultClearing := by
  intro s port tag number free
  dsimp only
  refine ⟨fun outside => ?_, fun x members => ⟨fun outside => ?_, fun g item names => ?_⟩, fun n item => ⟨fun undefined => ?_,
    fun defined => ⟨?_, ?_, fun x => ?_, fun sound => ?_, fun faulted => ⟨fun shows => ?_, fun quiet on => ?_,
      fun r last other off => ?_⟩⟩⟩⟩
  · have range (f : TxId → Answer) : s.withTx number 1 f = s.refused .range 1 := by simp [State.withTx, outside]
    exact ⟨exec_read (.readTx number) rfl free rfl (range _), exec_read (.clearFault number) rfl free rfl (range _)⟩
  · have named : s.trimmed (.tx number) = .error (.range, 2) := by simp only [State.trimmed, outside]
    exact exec_read (.trim (.tx number) x) rfl free rfl (State.reqTrim_refused named x)
  · subst names
    refine ⟨fun none => ?_, fun some => exec_trim free tag (State.trimmed_group item some) x, fun n l first => ?_⟩
    · have named : s.trimmed (.group number) = .error (.noSuch, number) := by
        simp only [State.trimmed, item]
        exact if_pos (List.isEmpty_iff.mpr none)
      exact exec_read (.trim (.group number) x) rfl free rfl (State.reqTrim_refused named x)
    · have named : s.trimmed (.group number) = .ok (n :: l) :=
        (State.trimmed_group item (by rw [State.effective]; exact first ▸ List.cons_ne_nil n l)).trans (congrArg _ first)
      rw [first]
      exact exec_read (.readTrim (.group number)) rfl free rfl (State.reqReadTrim_of named)
  · have none : s.trimmed (.tx number) = .error (.noSuch, number) := by simp [State.trimmed, item, undefined]
    have refused : s.reqReadTrim (.tx number) = s.refused .noSuch number := by simp only [State.reqReadTrim, none]
    exact ⟨exec_read (.readTx number) rfl free rfl (State.withTx_undefined item undefined),
      exec_read (.readTrim (.tx number)) rfl free rfl refused,
      exec_read (.clearFault number) rfl free rfl (State.withTx_undefined item undefined)⟩
  · exact exec_read (.readTx number) rfl free rfl (State.withTx_defined item defined)
  · exact exec_read (.readTrim (.tx number)) rfl free rfl (State.reqReadTrim_of (State.trimmed_tx item defined))
  · obtain ⟨t, go, slot, trims, hds⟩ := exec_trim free tag (State.trimmed_tx item defined) x
    exact ⟨t, go, slot, fun m => (trims m).trans (by simp only [List.mem_singleton]; rfl), hds⟩
  · have bar : (s.ctx n).clearBar = some 1 := by simp [Ctx.clearBar, sound]
    exact exec_read (.clearFault number) rfl free rfl
      ((State.withTx_defined item defined).trans (State.clearFault_barred bar))
  · obtain ⟨r, last, fault⟩ := shows
    have bar : (s.ctx n).clearBar = some 2 := by simp [Ctx.clearBar, faulted, last, fault]
    exact exec_read (.clearFault number) rfl free rfl
      ((State.withTx_defined item defined).trans (State.clearFault_barred bar))
  · have bar : (s.ctx n).clearBar = some 3 := by
      have none : ∀ r, (s.ctx n).last = some r → r.unit ≠ .fault := fun r last fault => quiet ⟨r, last, fault⟩
      cases last : (s.ctx n).last with
      | none => simp [Ctx.clearBar, faulted, on, last]
      | some r => simp [Ctx.clearBar, faulted, on, last, none r last]
    exact exec_read (.clearFault number) rfl free rfl
      ((State.withTx_defined item defined).trans (State.clearFault_barred bar))
  · have clear : (s.ctx n).clearBar = none := by simp [Ctx.clearBar, faulted, last, other, off]
    obtain ⟨rebuilds, waits⟩ := exec_clearFault_judged free tag item defined clear last other
    refine ⟨rebuilds, fun cause => ?_⟩
    obtain ⟨t, go, slot, state, same⟩ := waits cause
    exact ⟨t, go, slot, state.trans faulted, same⟩

end Sys2Proof.Proofs
end

section
/-! PROOFS. What a fault leaves of its transmitter (R94), an RF-OFF that is asked for (R92, R97), the reports of a served line (R83,
R85), and the expiries of its single channels (R28). -/

namespace Sys2Proof.Machine
open Sys2Proof Sys2Proof.Claims

/-! ## Reports on a line that is UP -/

theorem State.report_served {n : TxId} {s : State} (served : served n s) (isState : Bool) (f : State → State) :
    s.report n isState f = f (s.retrigger (.tx n .silence)) := by
  simp only [State.report, served.1, served.2, if_true]

@[simp] theorem State.retrigger_ctx (ch : ChanId) (s : State) : (s.retrigger ch).ctx = s.ctx :=
  State.ctx_of_txs (s.retrigger_txs ch)

theorem State.retrigger_lnk (ch : ChanId) (s : State) : (s.retrigger ch).lnk = s.lnk := by
  simp only [State.retrigger]; split <;> rfl

theorem State.retrigger_blocks (ch : ChanId) (s : State) : (s.retrigger ch).hds = s.hds ∧ (s.retrigger ch).clk = s.clk ∧
    (s.retrigger ch).sch = s.sch ∧ (s.retrigger ch).csq = s.csq ∧ (s.retrigger ch).txs = s.txs ∧
    (s.retrigger ch).amx = s.amx ∧ (s.retrigger ch).swb = s.swb ∧ (s.retrigger ch).rfp = s.rfp ∧
    (s.retrigger ch).snaps = s.snaps ∧ (s.retrigger ch).pins = s.pins := by
  simp only [State.retrigger]
  split <;> exact ⟨rfl, rfl, rfl, rfl, rfl, rfl, rfl, rfl, rfl, rfl⟩

theorem State.retrigger_chan {d : TxChan} (other : d ≠ .silence) (n : TxId) (s : State) :
    (s.retrigger (.tx n .silence)).chan (.tx n d) = s.chan (.tx n d) := by
  simp only [State.retrigger]
  split
  · exact State.setChan_tx_ne other n _ s
  · rfl

theorem State.known_of {n : TxId} {s : State} (known : (s.ctx n).state ≠ .unknown) (f : State → State) : s.known n f = f s :=
  if_neg known

theorem State.known_unknown {n : TxId} {s : State} (unknown : (s.ctx n).state = .unknown) (f : State → State) :
    s.known n f = s := if_pos unknown

/-! ## A fault (R94) -/

theorem State.txFault_settles (n : TxId) (f : FaultCause) (u : Option Nat) (s : State) :
    (s.toFaulted n f).Settles (s.txFault n f u) := by
  have posted : (s.toFaulted n f).Settles ((s.toFaulted n f).post (.txFault n f (s.ctx n).state u)) :=
    (State.Settles.refl _).same
  exact posted.stopRecycle.causeReaches

theorem State.txFault_ctx (n : TxId) (f : FaultCause) (u : Option Nat) (s : State) :
    (s.txFault n f u).ctx n = { (s.ctx n).moved .faulted with cause := some f } := by
  rw [(s.txFault_settles n f u).untripped (by rw [State.toFaulted_state]; decide), State.toFaulted_ctx]

theorem State.txFault_faulted (n : TxId) (f : FaultCause) (u : Option Nat) (s : State) :
    ((s.txFault n f u).ctx n).state = .faulted ∧ ((s.txFault n f u).ctx n).cause = some f := by
  rw [State.txFault_ctx]
  exact ⟨Ctx.moved_state .faulted _, rfl⟩

theorem State.txFault_beside (n : TxId) (f : FaultCause) (u : Option Nat) (s : State) :
    ((s.txFault n f u).ctx n).beside = (s.ctx n).beside := by
  rw [State.txFault_ctx]
  exact (Ctx.moved_beside .faulted (s.ctx n) :)

theorem State.txFault_chan {d : TxChan} (work : d ≠ .recycle) (n : TxId) (f : FaultCause) (u : Option Nat) (s : State) :
    (s.txFault n f u).chan (.tx n d) = s.chan (.tx n d) := by
  have outline : (s.txFault n f u).outline = (s.toFaulted n f).outline := by simp [State.txFault]
  exact State.chan_of_outline outline work

/-- A cause that no plan survives leaves none where CSQ may not wind down (R122, R123). -/
theorem State.causeReaches_plan_gone {n : TxId} {s : State} {cause : Cause} (hard : cause.hard = true)
    (still : s.windable n = false) : (s.causeReaches n cause).plan n = none := by
  unfold State.causeReaches
  split
  next p planned =>
    simp only [hard, if_true]
    split
    · exact State.removePlan_plan ..
    · simp only [State.abandon, planned, still, Bool.false_eq_true, if_false]
      exact State.removePlan_plan ..
  next unplanned =>
    unfold State.interrupt
    split
    · simp only [State.takeDown, hard, Bool.not_true, Bool.false_and, Bool.false_eq_true, if_false]
      rw [State.plan_of_csq ((State.stopRecycle_csq n _).trans (State.liveLost_csq n cause s)), unplanned]
    · exact unplanned

theorem State.unwindable_faulted {n : TxId} {s : State} (faulted : (s.ctx n).state = .faulted) : s.windable n = false := by
  simp [State.windable, faulted]

theorem State.txFault_plan (n : TxId) (f : FaultCause) (u : Option Nat) (s : State) : (s.txFault n f u).plan n = none := by
  have posted : (s.toFaulted n f).Settles ((s.toFaulted n f).post (.txFault n f (s.ctx n).state u)) :=
    (State.Settles.refl _).same
  refine State.causeReaches_plan_gone rfl (State.unwindable_faulted ?_)
  rw [(posted.stopRecycle (n := n)).untripped (by rw [State.toFaulted_state]; decide), State.toFaulted_state]

/-! ## An RF-OFF asked for (R92, R97) -/

/-- What a line that is UP does with an RF-OFF that nothing bars: it is there already, waits, takes the place of an order that waited,
or leaves. -/
theorem State.askOrder_rfOff_cases {n : TxId} {s : State} {who : Asker} (served : served n s)
    (heard : (s.ctx n).source ≠ .localKey ∨ who.overLocal = true) :
    (s.askOrder n who .rfOff = s ∧ ∃ d, (s.ctx n).deferred = some d ∧ d.order = .rfOff) ∨
    (s.askOrder n who .rfOff = s.slot n who .rfOff ∨ ∃ d : Deferred,
      s.askOrder n who .rfOff = (s.slot n who .rfOff).answer n d.who d.order .superseded) ∨
    (s.ctx n).outstanding = none ∧ s.askOrder n who .rfOff = s.sendNow n who .rfOff := by
  have clear := State.orderBar_rfOff heard
  cases line : (s.ctx n).outstanding with
  | none => exact .inr (.inr ⟨rfl, State.askOrder_sends served.1 served.2 clear line nofun⟩)
  | some o =>
    have waits : s.askOrder n who .rfOff = s.defer n who .rfOff := by
      simp [State.askOrder, served.1, served.2, clear, line]
    rw [waits, State.defer]
    cases held : (s.ctx n).deferred with
    | none => exact .inr (.inl (.inl rfl))
    | some d =>
      dsimp only
      split
      next off => exact .inl ⟨by rw [if_pos rfl], d, rfl, off⟩
      · split
        exacts [.inr (.inl (.inl rfl)), .inr (.inl (.inr ⟨d, rfl⟩))]

section RfOff
variable {n : TxId} {s : State} {who : Asker} (served : served n s)
  (heard : (s.ctx n).source ≠ .localKey ∨ who.overLocal = true)
include served heard

/-- An RF-OFF asked for on a line that is UP is there. -/
theorem State.askOrder_rfOff_there : rfOffOn ((s.askOrder n who .rfOff).ctx n) := by
  have slot : (s.slot n who .rfOff).ctx n = { s.ctx n with deferred := some ⟨.rfOff, who⟩ } := State.updCtx_ctx n _ s
  rcases State.askOrder_rfOff_cases served heard with ⟨same, d, held, off⟩ | (waits | ⟨d, replaces⟩) | ⟨-, leaves⟩
  · rw [same]; exact .inr ⟨d, held, off⟩
  · rw [waits, slot]; exact .inr ⟨_, rfl, rfl⟩
  · obtain ⟨-, deferred, -⟩ := Ctx.of_beside
      (((s.slot n who .rfOff).answer_settles n d.who d.order .superseded).beside n)
    rw [replaces]
    exact .inr ⟨_, deferred.trans (congrArg Ctx.deferred slot), rfl⟩
  · rw [leaves, State.sendNow_ctx]; exact .inl ⟨_, Ctx.sent_outstanding .., rfl⟩

/-- An RF-OFF asked for leaves a context that is not TRIPPED in its state. -/
theorem State.askOrder_rfOff_state (untripped : (s.ctx n).state ≠ .tripped) :
    ((s.askOrder n who .rfOff).ctx n).state = (s.ctx n).state ∧ ((s.askOrder n who .rfOff).ctx n).cause = (s.ctx n).cause := by
  have slot : (s.slot n who .rfOff).ctx n = { s.ctx n with deferred := some ⟨.rfOff, who⟩ } := State.updCtx_ctx n _ s
  rcases State.askOrder_rfOff_cases served heard with ⟨same, -⟩ | (waits | ⟨d, replaces⟩) | ⟨-, leaves⟩
  · rw [same]; exact ⟨rfl, rfl⟩
  · rw [waits, slot]; exact ⟨rfl, rfl⟩
  · rw [replaces, (State.answer_settles ..).untripped (by rw [slot]; exact untripped), slot]; exact ⟨rfl, rfl⟩
  · rw [leaves, State.sendNow_ctx]; exact ⟨rfl, rfl⟩

end RfOff

/-! ## The actions of a fault (R94) -/

theorem State.stopWork_ctx (n : TxId) (s : State) : (s.stopWork n).ctx n = { s.ctx n with ramp := none } :=
  State.stopRamp_ctx ..

theorem State.stopWork_chans (n : TxId) (s : State) : (s.stopWork n).chan (.tx n .warmUp) = .stopped ∧
    (s.stopWork n).chan (.tx n .tune) = .stopped ∧ (s.stopWork n).chan (.tx n .ramp) = .stopped := by
  refine ⟨?_, ?_, State.stopRamp_ramp n _⟩
  · exact (State.stopRamp_tx_ne (d := .warmUp) (by decide) n _).trans
      ((State.stopChan_tx_ne (d := .warmUp) (by decide) n _).trans (State.stopChan_chan (.tx n .warmUp) s))
  · exact (State.stopRamp_tx_ne (d := .tune) (by decide) n _).trans (State.stopChan_chan (.tx n .tune) _)

theorem State.faultActions_faulted (n : TxId) (f : FaultCause) (s : State) :
    ((s.faultActions n f).ctx n).state = .faulted ∧ ((s.faultActions n f).ctx n).cause = some f := State.txFault_faulted ..

theorem State.faultActions_plan (n : TxId) (f : FaultCause) (s : State) : (s.faultActions n f).plan n = none :=
  State.txFault_plan ..

theorem State.faultActions_chans (n : TxId) (f : FaultCause) (s : State) :
    (s.faultActions n f).chan (.tx n .warmUp) = .stopped ∧ (s.faultActions n f).chan (.tx n .tune) = .stopped ∧
      (s.faultActions n f).chan (.tx n .ramp) = .stopped := by
  obtain ⟨warmUp, tune, ramp⟩ := (s.rfOffUnlessOff n .fault).stopWork_chans n
  exact ⟨(State.txFault_chan (by decide) ..).trans warmUp, (State.txFault_chan (by decide) ..).trans tune,
    (State.txFault_chan (by decide) ..).trans ramp⟩

/-- A context that keeps its line keeps the RF-OFF on it. -/
theorem Ctx.rfOffOn_of_beside {c d : Ctx} (h : c.beside = d.beside) (there : rfOffOn d) : rfOffOn c := by
  obtain ⟨outstanding, deferred, -⟩ := Ctx.of_beside h
  rwa [rfOffOn, outstanding, deferred]

/-- Where RF is not OFF, a fault has RF-OFF on the line. -/
theorem State.faultActions_rfOff {n : TxId} {s : State} (served : served n s) (on : (s.ctx n).rf ≠ .off) (f : FaultCause) :
    rfOffOn ((s.faultActions n f).ctx n) := by
  have asked : s.rfOffUnlessOff n .fault = s.askOrder n .fault .rfOff := if_neg on
  refine Ctx.rfOffOn_of_beside (State.txFault_beside ..) (Ctx.rfOffOn_of_beside (d := (s.rfOffUnlessOff n .fault).ctx n) ?_ ?_)
  · rw [State.stopWork_ctx]; rfl
  · rw [asked]; exact State.askOrder_rfOff_there served (.inr rfl)

/-! ## Expiries (R28) -/

/-- The state in which the expiry of a single channel is handled: its time has passed and it is stopped. -/
def State.expired (ch : ChanId) (s : State) : State := (s.elapse (s.chan ch).remaining).stopChan ch

theorem State.expired_still (ch : ChanId) (s : State) : (s.expired ch).still = s.still := by
  simp [State.expired]

theorem State.expired_chan (ch : ChanId) (s : State) : (s.expired ch).chan ch = .stopped := State.stopChan_chan ..

/-! ## TUNED and TUNE-FAIL (R90) -/

@[simp] theorem State.flagsDue_outline (n : TxId) (s : State) : (s.flagsDue n).outline = s.outline := by
  unfold State.flagsDue
  split
  · split
    · simp
    · rfl
  · rfl

/-- A context of which the sent TUNE no longer counts as unshown (R34). -/
def Ctx.tuneShown (c : Ctx) : Ctx := { c with unshown := c.unshown.filter fun o => !o.sameKind (.tune 0) }

theorem State.tuned_arrives {n : TxId} {s : State} {f : Nat} (tuning : (s.ctx n).state = .tuning)
    (ordered : (s.ctx n).tuneFreq = some f) : (s.tuned n f).chan (.tx n .tune) = .stopped ∧
      ((s.tuned n f).ctx n).state = .ready ∧ ((s.tuned n f).ctx n).tuned = some f := by
  have ready : s.tuned n f = (((((s.updCtx n Ctx.tuneShown).stopChan (.tx n .tune)).toState n .ready).updCtx n
      fun x => { x with tuned := some f }).endPhase n .tune).flagsDue n := by
    have aimed : (s.ctx n).tuneFreq.all (fun g => decide (g = f)) = true := by rw [ordered]; exact decide_eq_true rfl
    simp only [State.tuned, State.updCtx_ctx, tuning, aimed, if_true]
    rfl
  rw [ready]
  generalize before : (((s.updCtx n Ctx.tuneShown).stopChan (.tx n .tune)).toState n .ready).updCtx n
      (fun x => { x with tuned := some f }) = t
  have ctx : t.ctx n = { ((s.ctx n).tuneShown).moved .ready with tuned := some f } := by
    subst before
    simp
  have state : (t.ctx n).state = .ready := by rw [ctx]; exact Ctx.moved_state .ready _
  have settles : t.Settles ((t.endPhase n .tune).flagsDue n) := (State.Settles.refl t).same.flagsDue
  have outline : ((t.endPhase n .tune).flagsDue n).outline = t.outline := by simp
  rw [State.chan_of_outline outline (by decide), settles.untripped (by rw [state]; decide)]
  refine ⟨?_, state, by rw [ctx]⟩
  subst before
  exact State.stopChan_chan (.tx n .tune) _

theorem State.tuned_astray {n : TxId} {s : State} {f f' : Nat} (tuning : (s.ctx n).state = .tuning)
    (ordered : (s.ctx n).tuneFreq = some f) (other : f' ≠ f) : (s.tuned n f').chan (.tx n .tune) = .stopped ∧
      ((s.tuned n f').ctx n).state = .faulted ∧ ((s.tuned n f').ctx n).cause = some .tune := by
  have faults : s.tuned n f' = ((s.updCtx n Ctx.tuneShown).stopChan (.tx n .tune)).txFault n .tune none := by
    have missed : (s.ctx n).tuneFreq.all (fun g => decide (g = f')) = false := by
      rw [ordered]; exact decide_eq_false fun h => other h.symm
    simp only [State.tuned, State.updCtx_ctx, tuning, missed, Bool.false_eq_true, if_false]
    rfl
  rw [faults, State.txFault_chan (by decide)]
  exact ⟨State.stopChan_chan .., State.txFault_faulted ..⟩

/-- TUNED in FAULTED gives the tuned frequency where the expiry of the tune channel awaits it (R90). -/
theorem State.tuned_faulted {n : TxId} {s : State} {f : Nat} (faulted : (s.ctx n).state = .faulted) :
    let c := (s.tuned n f).ctx n
    c.state = .faulted ∧ c.cause = (s.ctx n).cause ∧ c.tuneLate = false ∧
      c.tuned = if (s.ctx n).tuneLate then some f else (s.ctx n).tuned := by
  simp only [State.tuned, State.updCtx_ctx, faulted]
  by_cases late : (s.ctx n).tuneLate = true <;> simp [late, faulted]

theorem State.tuned_elsewhere {n : TxId} {s : State} (f : Nat) (tuning : (s.ctx n).state ≠ .tuning)
    (faulted : (s.ctx n).state ≠ .faulted) : (s.tuned n f).ctx n = (s.ctx n).tuneShown := by
  simp only [State.tuned, State.updCtx_ctx]
  rfl

theorem State.tuneFailed_tuning {n : TxId} {s : State} (k : Nat) (tuning : (s.ctx n).state = .tuning) :
    (s.tuneFailed n k).chan (.tx n .tune) = .stopped ∧ ((s.tuneFailed n k).ctx n).state = .faulted ∧
      ((s.tuneFailed n k).ctx n).cause = some .tune := by
  simp only [State.tuneFailed, State.updCtx_ctx, tuning, if_true]
  rw [State.txFault_chan (by decide)]
  exact ⟨State.stopChan_chan .., State.txFault_faulted ..⟩

theorem State.tuneFailed_elsewhere {n : TxId} {s : State} (k : Nat) (tuning : (s.ctx n).state ≠ .tuning) :
    (s.tuneFailed n k).ctx n = { (s.ctx n).tuneShown with tuneLate := false } := by
  simp only [State.tuneFailed, State.updCtx_ctx, tuning, if_false]
  rfl

/-! ## The end of the warm-up (R89) -/

theorem State.warmed_ctx (n : TxId) (s : State) : (s.warmed n).ctx n = (s.ctx n).moved .standby := by
  rw [State.warmed, State.endPhase_ctx, State.toState_ctx]

theorem State.warmUpEnds_warming {n : TxId} {s : State} (warming : (s.ctx n).state = .warming) :
    (s.warmUpEnds n).chan (.tx n .warmUp) = s.chan (.tx n .warmUp) ∧
      ((∃ r, (s.ctx n).last = some r ∧ r.unit = .standby) → ((s.warmUpEnds n).ctx n).state = .standby) ∧
      (¬ (∃ r, (s.ctx n).last = some r ∧ r.unit = .standby) →
        (s.warmUpEnds n).ctx n = { s.ctx n with warmWait := .nextReport }) := by
  have shows : ((s.ctx n).last.any fun r => decide (r.unit = .standby)) = true ↔
      ∃ r, (s.ctx n).last = some r ∧ r.unit = .standby := by simp [Option.any_eq_true]
  have outline : (s.warmed n).outline = (s.toState n .standby).outline := State.endPhase_outline ..
  unfold State.warmUpEnds
  dsimp only
  rw [if_pos warming, ← shows]
  split
  next standby =>
    refine ⟨State.chan_of_outline outline (by decide), fun _ => ?_, fun other => absurd standby other⟩
    rw [State.warmed_ctx, Ctx.moved_state]
  next other => exact ⟨rfl, fun standby => absurd standby other, fun _ => State.updCtx_ctx ..⟩

/-- The expiry of a running channel of a transmitter other than its ramp channel. -/
theorem State.onExpiry_single {n : TxId} {d : TxChan} {s : State} (running : (s.chan (.tx n d)).running = true)
    (single : d ≠ .ramp) (f : State → State) : s.onExpiry (.tx n d) f = f (s.expired (.tx n d)) := by
  have once : s.gateOpen (.tx n d) = true ∧ (ChanId.tx n d).mode ≠ .periodic := by
    cases d
    case ramp => exact absurd rfl single
    all_goals exact ⟨rfl, nofun⟩
  exact State.onExpiry_running running once.1 once.2 f

end Sys2Proof.Machine

namespace Sys2Proof.Proofs
open Sys2Proof Sys2Proof.Machine Sys2Proof.Claims

/-- What the expiry of a channel that faults its transmitter leaves (R90, R92). -/
theorem txFault_expired (n : TxId) (d : TxChan) (f : FaultCause) (s : State) (work : d ≠ .recycle) :
    let t := (s.expired (.tx n d)).txFault n f none
    (t.chan (.tx n d)).running = false ∧ (t.ctx n).state = .faulted ∧ (t.ctx n).cause = some f ∧ (t.ctx n).rf = (s.ctx n).rf ∧
      t.plan n = none ∧ t.hds = s.hds ∧ t.snaps = s.snaps ∧ t.pins = s.pins := by
  dsimp only
  obtain ⟨state, cause⟩ := (s.expired (.tx n d)).txFault_faulted n f none
  obtain ⟨-, -, rf, -⟩ := Ctx.of_beside ((s.expired (.tx n d)).txFault_beside n f none)
  have still : ((s.expired (.tx n d)).txFault n f none).still = s.still := by
    rw [State.txFault_still, State.expired_still]
  refine ⟨?_, state, cause, rf, State.txFault_plan .., congrArg Still.hds still, congrArg Still.snaps still,
    congrArg Still.pins still⟩
  rw [State.txFault_chan work, State.expired_chan]
  rfl

section Reports
variable {s : State} {n : TxId} (served : served n s)
include served

/-- A report other than STATE, ACCEPT and REJECT is judged with the silence channel retriggered (R29). -/
theorem unitReport_known {f : State → State} (known : (s.ctx n).state ≠ .unknown) :
    s.report n false (State.known n f) = f (s.retrigger (.tx n .silence)) := by
  rw [State.report_served served, State.known_of (by rwa [State.retrigger_ctx])]

theorem unitReport_unknown {f : State → State} (unknown : (s.ctx n).state = .unknown) :
    s.report n false (State.known n f) = s.retrigger (.tx n .silence) := by
  rw [State.report_served served, State.known_unknown (by rwa [State.retrigger_ctx])]

/-- A FAULT report in the three cases of the context (R94). -/
theorem exec_fault (f : UnitFault) :
    ((s.ctx n).state ≠ .unknown → (s.ctx n).state ≠ .faulted →
      ∃ t, exec (.fault n f) s = .next t ∧ (t.ctx n).state = .faulted ∧ (t.ctx n).cause = some (unitFaultCause f) ∧
        t.plan n = none ∧ ((s.ctx n).rf ≠ .off → rfOffOn (t.ctx n)) ∧ (t.chan (.tx n .warmUp)).running = false ∧
        (t.chan (.tx n .tune)).running = false ∧ (t.chan (.tx n .ramp)).running = false) ∧
    ((s.ctx n).state = .faulted → ∃ t, exec (.fault n f) s = .next t ∧ (t.ctx n).state = .faulted ∧
      (t.ctx n).cause = (if (s.ctx n).cause = some .unit then some (unitFaultCause f) else (s.ctx n).cause) ∧ t.lnk = s.lnk) ∧
    ((s.ctx n).state = .unknown → exec (.fault n f) s = .next (s.retrigger (.tx n .silence))) := by
  generalize base : s.retrigger (.tx n .silence) = u
  have ctx : u.ctx n = s.ctx n := by rw [← base, State.retrigger_ctx]
  have go (known : (s.ctx n).state ≠ .unknown) : exec (.fault n f) s = .next (u.unitFault n (unitFaultCause f)) := by
    rw [← base]; exact congrArg _ (unitReport_known served known)
  refine ⟨fun known sound => ?_, fun faulted => ?_, fun unknown => ?_⟩
  · have acts : u.unitFault n (unitFaultCause f) = u.faultActions n (unitFaultCause f) := if_neg (by rw [ctx]; exact sound)
    rw [acts] at go
    obtain ⟨state, cause⟩ := u.faultActions_faulted n (unitFaultCause f)
    obtain ⟨warmUp, tune, ramp⟩ := u.faultActions_chans n (unitFaultCause f)
    have line : Claims.served n u := by
      refine ⟨?_, by rw [ctx]; exact served.2⟩
      rw [← base, State.txDefined_congr (State.retrigger_blocks ..).1]; exact served.1
    refine ⟨_, go known, state, cause, State.faultActions_plan .., fun on => ?_, by rw [warmUp]; rfl, by rw [tune]; rfl,
      by rw [ramp]; rfl⟩
    exact State.faultActions_rfOff line (by rw [ctx]; exact on) _
  · refine ⟨_, go (by rw [faulted]; decide), ?_, ?_, ?_⟩ <;> simp only [State.unitFault, ctx, faulted, if_true]
    · split
      · rw [State.updCtx_ctx, ctx]; exact faulted
      · rw [ctx]; exact faulted
    · split
      · rw [State.updCtx_ctx]
      · rw [ctx]
    · rw [← s.retrigger_lnk (.tx n .silence), base]
      split <;> rfl
  · rw [← base]; exact congrArg _ (unitReport_unknown served unknown)

end Reports

/-- Settles O31: the reports by the state of the context (`tuned_arrives` to `tuneFailed_elsewhere`, `exec_fault`), and the
expiries by what each finds. -/
theorem unitReportsAndTimedEndsMoveTheContext : Obligations.UnitReportsAndTimedEndsMoveTheContext := by
  refine ⟨fun s n line => ?_, fun s n => ?_⟩
  · have ctx := congrFun (s.retrigger_ctx (.tx n .silence)) n
    have tuned (f : Nat) (known : (s.ctx n).state ≠ .unknown) :
        exec (.tuned n f) s = .next ((s.retrigger (.tx n .silence)).tuned n f) := congrArg _ (unitReport_known line known)
    have failed (k : Nat) (known : (s.ctx n).state ≠ .unknown) :
        exec (.tuneFail n k) s = .next ((s.retrigger (.tx n .silence)).tuneFailed n k) :=
      congrArg _ (unitReport_known line known)
    refine ⟨fun f f' tuning ordered => ?_, fun f faulted => ?_, fun f k tuning known => ⟨fun sound => ?_, ?_⟩,
      fun f k unknown => ⟨congrArg _ (unitReport_unknown line unknown), congrArg _ (unitReport_unknown line unknown)⟩,
      fun k tuning => ?_, fun f => ?_⟩
    · refine ⟨_, tuned f' (by rw [tuning]; decide), ?_⟩
      rw [← ctx] at tuning ordered
      by_cases same : f' = f
      · subst same
        obtain ⟨stopped, ready⟩ := State.tuned_arrives tuning ordered
        exact ⟨by rw [stopped]; rfl, fun _ => ready, fun other => absurd rfl other⟩
      · obtain ⟨stopped, faulted⟩ := State.tuned_astray tuning ordered same
        exact ⟨by rw [stopped]; rfl, fun equal => absurd equal same, fun _ => faulted⟩
    · refine ⟨_, tuned f (by rw [faulted]; decide), ?_⟩
      have left := State.tuned_faulted (s := s.retrigger (.tx n .silence)) (f := f) (ctx ▸ faulted)
      rwa [ctx] at left
    · refine ⟨_, tuned f known, ?_⟩
      rw [State.tuned_elsewhere f (ctx ▸ tuning) (ctx ▸ sound), ctx]
      exact ⟨rfl, rfl⟩
    · refine ⟨_, failed k known, ?_⟩
      rw [State.tuneFailed_elsewhere k (ctx ▸ tuning), ctx]
      exact ⟨rfl, rfl, rfl⟩
    · refine ⟨_, failed k (by rw [tuning]; decide), ?_⟩
      obtain ⟨stopped, faulted⟩ := State.tuneFailed_tuning (s := s.retrigger (.tx n .silence)) k (ctx ▸ tuning)
      exact ⟨by rw [stopped]; rfl, faulted⟩
    · have cases := exec_fault line f
      cases f <;> exact cases
  · have runs {d : TxChan} (single : d ≠ .ramp) (running : (s.chan (.tx n d)).running = true) (f : State → State) :
        s.onExpiry (.tx n d) f = f (s.expired (.tx n d)) :=
      State.onExpiry_single running single f
    refine ⟨fun stopped => congrArg _ (State.onExpiry_stopped stopped _), fun stopped => congrArg _ (State.onExpiry_stopped stopped _),
      fun stopped => congrArg _ (State.onExpiry_stopped stopped _), fun running warming => ?_, fun running tuning => ?_,
      fun running known => ?_⟩
    · have go : exec (.warmUpExpiry n) s = .next ((s.expired (.tx n .warmUp)).warmUpEnds n) :=
        congrArg _ (runs (by decide) running _)
      obtain ⟨stopped, standby, waits⟩ := State.warmUpEnds_warming (s := s.expired (.tx n .warmUp)) warming
      refine ⟨_, go, ?_, standby, waits⟩
      rw [stopped, State.expired_chan]
      rfl
    · have go : exec (.tuneExpiry n) s = .next (((s.expired (.tx n .tune)).txFault n .tune none).updCtx n
          fun c => { c with tuneLate := true }) := by
        exact congrArg _ ((runs (by decide) running (State.tuneEnds n)).trans (if_pos tuning))
      obtain ⟨stopped, state, cause, rf, rest⟩ := txFault_expired n .tune .tune s (by decide)
      obtain ⟨-, -, -, -, tuned, -⟩ := Ctx.of_beside ((s.expired (.tx n .tune)).txFault_beside n .tune none)
      refine ⟨⟨_, go, stopped, ?_, ?_, ?_, rest⟩, _, go, ?_, ?_⟩ <;> rw [State.updCtx_ctx]
      exacts [state, cause, rf, tuned]
    · have go : exec (.rfOffConfirmationExpiry n) s = .next ((s.expired (.tx n .rfOff)).txFault n .rfOffUnconfirmed none) :=
        congrArg _ ((runs (by decide) running (State.rfOffUnconfirmed n)).trans (if_neg known))
      exact ⟨_, go, txFault_expired n .rfOff .rfOffUnconfirmed s (by decide)⟩

end Sys2Proof.Proofs
end

section
/-! PROOFS. The hall as a whole: what an order asked for leaves of the hall, the survey and the bus; what a step over the transmitters
brings each of them (R102, R104); START-HALL, HALT-HALL and the EMERGENCY line. -/

namespace Sys2Proof.Machine
open Sys2Proof Sys2Proof.Claims

/-! ## The hall and the bus, beside the orders -/

/-- The hall state, the survey and the switch bus. -/
def State.hallAndBus (s : State) : HallState × Option Survey × Swb := (s.txs.hall, s.txs.survey, s.swb)

theorem State.of_hallAndBus {s t : State} (h : t.hallAndBus = s.hallAndBus) :
    t.txs.hall = s.txs.hall ∧ t.txs.survey = s.txs.survey ∧ t.swb = s.swb := by
  simpa only [State.hallAndBus, Prod.mk.injEq] using h

theorem State.Settles.hallAndBus {s t : State} (h : s.Settles t) : t.hallAndBus = s.hallAndBus := by
  rw [State.hallAndBus, h.hall, h.survey, h.swb]
  rfl

@[simp] theorem State.stopRamp_hallAndBus (n : TxId) (s : State) : (s.stopRamp n).hallAndBus = s.hallAndBus := rfl

@[simp] theorem State.updCtx_hallAndBus (n : TxId) (f : Ctx → Ctx) (s : State) :
    (s.updCtx n f).hallAndBus = s.hallAndBus := rfl

@[simp] theorem State.sendNow_hallAndBus (n : TxId) (who : Asker) (o : Order) (s : State) :
    (s.sendNow n who o).hallAndBus = s.hallAndBus := by
  obtain ⟨hall, survey⟩ := s.sendNow_hall n who o
  obtain ⟨-, -, -, -, swb, -⟩ := s.sendNow_blocks n who o
  rw [State.hallAndBus, hall, survey, swb]
  rfl

@[simp] theorem State.refuse_hallAndBus (n : TxId) (who : Asker) (o : Order) (why : Refused) (s : State) :
    (s.refuse n who o why).hallAndBus = s.hallAndBus := by
  have fails : (s.rampFails n why).hallAndBus = s.hallAndBus := by
    have settles := State.Settles.refl (s.stopRamp n)
    unfold State.rampFails
    split
    · dsimp only
      split
      · split
        exacts [settles.planRefused.hallAndBus, settles.recycleFails.hallAndBus]
      · exact settles.planRefused.hallAndBus
      · rfl
    · rfl
  unfold State.refuse
  dsimp only
  rw [(State.answer_settles ..).hallAndBus]
  split
  exacts [fails, rfl]

@[simp] theorem State.defer_hallAndBus (n : TxId) (who : Asker) (o : Order) (s : State) :
    (s.defer n who o).hallAndBus = s.hallAndBus := by
  unfold State.defer
  split
  · rfl
  · split_ifs
    · rfl
    · exact State.refuse_hallAndBus ..
    · rfl
    · exact (State.answer_settles ..).hallAndBus

/-- An order asked for leaves the hall, the survey and the switch bus. -/
@[simp] theorem State.askOrder_hallAndBus (n : TxId) (who : Asker) (o : Order) (s : State) :
    (s.askOrder n who o).hallAndBus = s.hallAndBus := by
  unfold State.askOrder
  split
  · split
    · split
      · exact State.refuse_hallAndBus ..
      · split_ifs
        exacts [rfl, State.defer_hallAndBus .., State.sendNow_hallAndBus ..]
    · split
      exacts [rfl, State.refuse_hallAndBus ..]
  · rfl

/-! ## An operation over a list of transmitters -/

/-- What each transmitter of a list without repetition comes to, where the turns of the others leave it ready before its own and
keep it after. -/
theorem State.each_once {Before After : TxId → State → Prop} {f : TxId → State → State}
    (ready : ∀ n m t, m ≠ n → Before m t → Before m (f n t)) (comes : ∀ n t, Before n t → After n (f n t))
    (keeps : ∀ n m t, m ≠ n → After m t → After m (f n t)) {l : List TxId} (once : l.Nodup) {m : TxId} (mem : m ∈ l)
    {s : State} (before : Before m s) : After m (s.each l f) := by
  have rest {l : List TxId} (absent : m ∉ l) {t : State} (after : After m t) : After m (t.each l f) := by
    induction l generalizing t with
    | nil => exact after
    | cons n l ih =>
      exact ih (List.not_mem_of_not_mem_cons absent) (keeps n m t (List.ne_of_not_mem_cons absent) after)
  induction l generalizing s with
  | nil => cases mem
  | cons n l ih =>
    obtain ⟨absent, once⟩ := List.nodup_cons.mp once
    by_cases here : m = n
    · subst here
      exact rest absent (comes m s before)
    · exact ih once (List.mem_of_ne_of_mem here mem) (ready n m s here before)

/-! ## A channel of another transmitter -/

theorem State.setChan_other {m n : TxId} (other : m ≠ n) (c d : TxChan) (v : Chan) (s : State) :
    (s.setChan (.tx n c) v).chan (.tx m d) = s.chan (.tx m d) := by
  have apart : (n : Nat) ≠ m := fun h => other (Fin.ext h.symm)
  simp [State.setChan, State.chan, Timers.put, Timers.get, apart]

theorem State.stopRamp_chan_other {m n : TxId} (other : m ≠ n) (d : TxChan) (s : State) :
    (s.stopRamp n).chan (.tx m d) = s.chan (.tx m d) := State.setChan_other other .ramp d _ s

theorem State.sendNow_rfOff_other {m n : TxId} (other : m ≠ n) (who : Asker) (d : TxChan) (s : State) :
    (s.sendNow n who .rfOff).chan (.tx m d) = s.chan (.tx m d) :=
  (State.setChan_other other .rfOff d _ _).trans
    ((State.stopRamp_chan_other other d _).trans (State.setChan_other other .accept d _ _))

/-! ## An RF-OFF of the EMERGENCY line (R104) -/

/-- An RF-OFF of an asker that owes it leaves no trace on another transmitter but the end of a recycle. -/
theorem State.askOrder_rfOff_other {m n : TxId} (other : m ≠ n) {who : Asker} (owes : who.owes = true) (s : State) :
    ((s.askOrder n who .rfOff).ctx m).beside = (s.ctx m).beside ∧
      ∀ d, d ≠ .recycle → (s.askOrder n who .rfOff).chan (.tx m d) = s.chan (.tx m d) := by
  have slot : ((s.slot n who .rfOff).ctx m) = s.ctx m := State.updCtx_ctx_ne n m other _ s
  have heard : who.overLocal = true := by cases who <;> first | rfl | cases owes
  by_cases defined : s.txDefined n = true
  · by_cases up : (s.ctx n).lineUp = true
    · rcases State.askOrder_rfOff_cases ⟨defined, up⟩ (.inr heard) with ⟨same, -⟩ | (waits | ⟨d, replaces⟩) | ⟨-, leaves⟩
      · rw [same]; exact ⟨rfl, fun _ _ => rfl⟩
      · rw [waits, slot]; exact ⟨rfl, fun _ _ => rfl⟩
      · rw [replaces]
        refine ⟨((State.answer_settles ..).beside m).trans (congrArg Ctx.beside slot), fun c work => ?_⟩
        exact State.chan_of_outline (State.answer_outline ..) work
      · rw [leaves, State.sendNow_ctx_ne other]
        exact ⟨rfl, fun c _ => State.sendNow_rfOff_other other who c s⟩
    · have owed : s.askOrder n who .rfOff = s.updCtx n fun c => { c with owed := true } := by
        simp [State.askOrder, defined, up, owes]
      rw [owed, State.updCtx_ctx_ne n m other]
      exact ⟨rfl, fun _ _ => rfl⟩
  · have same : s.askOrder n who .rfOff = s := if_neg defined
    rw [same]
    exact ⟨rfl, fun _ _ => rfl⟩

/-- The EMERGENCY line reaches one transmitter (R104). -/
def State.emergencyReaches (n : TxId) (s : State) : State := (s.rfOffUnlessOff n .emergency).stopRamp n

theorem State.emergencyReaches_other {m n : TxId} (other : m ≠ n) (s : State) :
    ((s.emergencyReaches n).ctx m).beside = (s.ctx m).beside ∧
      ∀ d, d ≠ .recycle → (s.emergencyReaches n).chan (.tx m d) = s.chan (.tx m d) := by
  have asked : ((s.rfOffUnlessOff n .emergency).ctx m).beside = (s.ctx m).beside ∧
      ∀ d, d ≠ .recycle → (s.rfOffUnlessOff n .emergency).chan (.tx m d) = s.chan (.tx m d) := by
    unfold State.rfOffUnlessOff
    split
    exacts [⟨rfl, fun _ _ => rfl⟩, State.askOrder_rfOff_other other rfl s]
  refine ⟨?_, fun d work => (State.stopRamp_chan_other other d _).trans (asked.2 d work)⟩
  rw [State.emergencyReaches, State.stopRamp_ctx_ne other]
  exact asked.1

/-- What the EMERGENCY line does to a defined transmitter: its RF-OFF is on the line or owed, and no ramp runs (R104). -/
theorem State.emergencyReaches_off {n : TxId} {s : State} (defined : s.txDefined n = true) :
    ((s.ctx n).rf ≠ .off → (s.ctx n).lineUp = true → rfOffOn ((s.emergencyReaches n).ctx n)) ∧
      ((s.ctx n).rf ≠ .off → (s.ctx n).lineUp = false → ((s.emergencyReaches n).ctx n).owed = true) ∧
      ((s.emergencyReaches n).chan (.tx n .ramp)).running = false := by
  have asks (on : (s.ctx n).rf ≠ .off) : s.emergencyReaches n = (s.askOrder n .emergency .rfOff).stopRamp n :=
    congrArg (State.stopRamp n) (if_neg on)
  refine ⟨fun on up => ?_, fun on lost => ?_, ?_⟩
  · rw [asks on, State.stopRamp_ctx]
    exact State.askOrder_rfOff_there ⟨defined, up⟩ (.inr rfl)
  · have owed : s.askOrder n .emergency .rfOff = s.updCtx n fun c => { c with owed := true } := by
      simp [State.askOrder, defined, lost, Asker.owes]
    rw [asks on, State.stopRamp_ctx, owed, State.updCtx_ctx]
  · rw [State.emergencyReaches, State.stopRamp_ramp]
    rfl

@[simp] theorem State.emergencyReaches_hallAndBus (n : TxId) (s : State) :
    (s.emergencyReaches n).hallAndBus = s.hallAndBus := by
  unfold State.emergencyReaches State.rfOffUnlessOff
  split <;> simp

@[simp] theorem State.emergencyReaches_core (n : TxId) (s : State) :
    (s.emergencyReaches n).outline.core = s.outline.core := by
  simp [State.emergencyReaches]

@[simp] theorem State.emergencyReaches_still (n : TxId) (s : State) : (s.emergencyReaches n).still = s.still := by
  simp [State.emergencyReaches]

/-! ## No plan begins by a cause that no plan survives (R122, R123) -/

theorem State.causeReaches_plan_none {m : TxId} {s : State} {cause : Cause} (hard : cause.hard = true)
    (none : s.plan m = none) (n : TxId) : (s.causeReaches n cause).plan m = .none := by
  unfold State.causeReaches
  split
  · split_ifs
    exacts [State.removePlan_plan_none none n, State.abandon_plan_none none n cause]
  · unfold State.interrupt
    split
    · simp only [State.takeDown, hard, Bool.not_true, Bool.false_and, Bool.false_eq_true, if_false]
      exact State.plan_none_of_csq none ((State.stopRecycle_csq n _).trans (State.liveLost_csq n cause s))
    · exact none

/-! ## The EMERGENCY line (R104) -/

/-- The hall is EMERGENCY, and nothing else of its assertion has happened yet. -/
def State.emergencyEntered (s : State) : State :=
  ({ s with pins := { s.pins with emergency := true } }).toHall .emergency .emergencyAsserted

/-- Every defined transmitter has been reached by the EMERGENCY line. -/
def State.emergencyTaken (s : State) : State := s.emergencyEntered.each s.definedTx State.emergencyReaches

/-- CSQ has been handed the cause EMERGENCY for every transmitter. -/
def State.emergencyEnded (s : State) : State := s.emergencyTaken.eachTx fun n t => t.causeReaches n .emergency

theorem State.emergency_eq (s : State) : s.emergency = s.emergencyEnded.stopSurvey := rfl

theorem State.emergencyTaken_hall (s : State) : s.emergencyTaken.txs.hall = .emergency ∧ s.emergencyTaken.swb = s.swb := by
  obtain ⟨hall, -, swb⟩ := State.of_hallAndBus
    (State.each_view State.hallAndBus s.definedTx State.emergencyReaches_hallAndBus s.emergencyEntered)
  exact ⟨hall, swb⟩

theorem State.emergencyEnded_settles (s : State) : s.emergencyTaken.Settles s.emergencyEnded :=
  (State.Settles.refl _).each fun _ _ h => h.causeReaches

theorem State.emergencyEnded_outline (s : State) : s.emergencyEnded.outline = s.emergencyTaken.outline :=
  State.eachTx_view State.outline (f := fun n t => t.causeReaches n .emergency) (fun _ _ => State.causeReaches_outline ..) _

theorem State.emergencyEnded_clk (s : State) : s.emergencyEnded.clk = s.clk := by
  have taken : s.emergencyTaken.outline.core = s.emergencyEntered.outline.core :=
    State.each_view (fun t => t.outline.core) s.definedTx State.emergencyReaches_core _
  exact (State.clk_of_core (congrArg Outline.core s.emergencyEnded_outline)).trans (State.clk_of_core taken)

theorem State.emergencyEnded_plan (s : State) (n : TxId) : s.emergencyEnded.plan n = none := by
  refine State.each_once (Before := fun _ t => t.txs.hall = .emergency) (After := fun m t => t.plan m = none)
    (fun n _ t _ hall => (State.causeReaches_settles n .emergency t).hall.trans hall) (fun m t hall => ?_)
    (fun n m t _ gone => State.causeReaches_plan_none rfl gone n) (List.nodup_finRange 16) (List.mem_finRange n)
    s.emergencyTaken_hall.1
  exact State.causeReaches_plan_gone rfl (by simp [State.windable, hall])

/-- What R104 demands of a transmitter, for the context it had. -/
def State.emergencyDone (c : Ctx) (n : TxId) (s : State) : Prop :=
  (c.rf ≠ .off → c.lineUp = true → rfOffOn (s.ctx n)) ∧ (c.rf ≠ .off → c.lineUp = false → (s.ctx n).owed = true) ∧
    (s.chan (.tx n .ramp)).running = false

/-- It stands as long as the context keeps its line and the ramp channel stands. -/
theorem State.emergencyDone_of {c : Ctx} {n : TxId} {s t : State} (done : s.emergencyDone c n)
    (beside : (t.ctx n).beside = (s.ctx n).beside) (ramp : t.chan (.tx n .ramp) = s.chan (.tx n .ramp)) :
    t.emergencyDone c n := by
  obtain ⟨rfOff, owed, stopped⟩ := done
  obtain ⟨-, -, -, -, -, -, -, -, same, -⟩ := Ctx.of_beside beside
  exact ⟨fun on up => Ctx.rfOffOn_of_beside beside (rfOff on up), fun on lost => same.trans (owed on lost),
    by rw [ramp]; exact stopped⟩

theorem State.emergencyTaken_done {s : State} {n : TxId} (defined : s.txDefined n = true) :
    s.emergencyTaken.emergencyDone (s.ctx n) n := by
  refine State.each_once (Before := fun m t => t.txDefined m = true ∧ (t.ctx m).beside = (s.ctx m).beside)
    (After := fun m t => t.emergencyDone (s.ctx m) m) (fun n m t other ready => ⟨?_, ?_⟩) (fun m t ready => ?_)
    (fun n m t other done => ?_) s.definedTx_nodup (State.mem_definedTx.mpr defined) ⟨defined, rfl⟩
  · rw [State.txDefined_congr (congrArg Still.hds (t.emergencyReaches_still n)), ready.1]
  · rw [(State.emergencyReaches_other other t).1, ready.2]
  · obtain ⟨-, -, rf, -, -, -, -, -, -, up⟩ := Ctx.of_beside ready.2
    have off := State.emergencyReaches_off ready.1
    rw [rf, up] at off
    exact off
  · obtain ⟨beside, chan⟩ := State.emergencyReaches_other other t
    exact State.emergencyDone_of done beside (chan .ramp (by decide))

theorem State.stopSurvey_spares (s : State) : s.stopSurvey.txs = { s.txs with survey := none } ∧ s.stopSurvey.tim = s.tim ∧
    s.stopSurvey.csq = s.csq ∧ s.stopSurvey.swb = s.swb ∧ s.stopSurvey.clk = s.clk := by
  unfold State.stopSurvey
  split
  · exact ⟨rfl, rfl, rfl, rfl, rfl⟩
  next none => exact ⟨by rw [← none], rfl, rfl, rfl, rfl⟩

/-! ## The survey a START-HALL begins (R101, R175) -/

theorem State.beginAllCall_hall (s : State) : s.beginAllCall.txs.hall = s.txs.hall ∧ s.beginAllCall.clk = s.clk ∧
    ∀ q, s.txs.survey = some q → ∃ p, s.beginAllCall.txs.survey = some p ∧ p.turns = q.turns := by
  unfold State.beginAllCall
  dsimp only
  split
  · refine ⟨rfl, rfl, fun q begun => ⟨{ q with bus := true, busCounts := ⟨0, 0, 0⟩ }, ?_, rfl⟩⟩
    simp only [State.busSurveyed, begun, Option.map_some]
  · exact ⟨rfl, rfl, fun q begun => ⟨q, begun, rfl⟩⟩

theorem State.beginSurvey_turns (s : State) : s.beginSurvey.txs.hall = s.txs.hall ∧ s.beginSurvey.clk = s.clk ∧
    ∃ q, s.beginSurvey.txs.survey = some q ∧ q.turns = Vector.ofFn s.firstTurn := by
  generalize marked : (⟨Vector.ofFn s.firstTurn, false, !s.recheckWanted, ⟨0, 0, 0⟩, 0, Vector.ofFn s.holding⟩ : Survey) = q
  let t := s.surveyMarked s.recheckWanted q
  let u := t.each (s.definedTx.filter fun n => (s.ctx n).lineUp) fun n v => v.askOrder n .txs .statusAsk
  have begins : s.beginSurvey = u.beginAllCall := by rw [State.beginSurvey, marked]; rfl
  have asks : u.hallAndBus = t.hallAndBus :=
    State.each_view State.hallAndBus _ (fun n v => v.askOrder_hallAndBus n .txs .statusAsk) t
  have core : u.outline.core = t.outline.core :=
    State.each_view (fun v => v.outline.core) _ (fun n v => v.askOrder_core n .txs .statusAsk) t
  obtain ⟨hall, survey, -⟩ := State.of_hallAndBus asks
  obtain ⟨kept, clk, turns⟩ := u.beginAllCall_hall
  obtain ⟨p, begun, same⟩ := turns q survey
  rw [begins]
  exact ⟨kept.trans hall, clk.trans (State.clk_of_core core), p, begun, same.trans (marked ▸ rfl)⟩

/-! ## HALT-HALL (R102, R103) -/

theorem State.allOff_iff (s : State) : s.allOff = true ↔ quiet s := by
  simp [State.allOff, quiet, State.mem_definedTx, allTx]

theorem quiet_congr {s t : State} (hds : t.hds = s.hds) (ctx : t.txs.ctx = s.txs.ctx) (csq : t.csq = s.csq) :
    quiet t ↔ quiet s := by
  simp only [quiet, State.ctx, State.txDefined_congr hds, ctx, State.plan_of_csq csq]

/-- What the test of R103 leaves of a HALTING hall. -/
theorem State.haltedIfOff_leaves {s : State} (halting : s.txs.hall = .halting) :
    let t := s.haltedIfOff
    (t.txs.hall = .halting ∨ t.txs.hall = .halted) ∧ (t.txs.hall = .halted ↔ quiet s) ∧ t.txs.ctx = s.txs.ctx ∧
      t.csq = s.csq ∧ t.hds = s.hds ∧ t.clk = s.clk := by
  unfold State.haltedIfOff
  rw [← State.allOff_iff]
  split
  next off => exact ⟨.inr rfl, ⟨fun _ => off.2, fun _ => rfl⟩, rfl, rfl, rfl, rfl⟩
  next on =>
    have loud : ¬ s.allOff = true := fun off => on ⟨halting, off⟩
    exact ⟨.inl halting, ⟨fun halted => (nomatch halting.symm.trans halted), fun off => absurd off loud⟩, rfl, rfl, rfl, rfl⟩

theorem State.haltedIfOff_quiet {s : State} (halting : s.txs.hall = .halting) (off : quiet s) :
    s.haltedIfOff = s.toHall .halted .allOff := if_pos ⟨halting, s.allOff_iff.mpr off⟩

theorem State.haltedIfOff_rests {s : State} (rests : s.txs.hall ≠ .halting ∨ ¬ quiet s) : s.haltedIfOff = s :=
  if_neg fun h => rests.elim (fun other => other h.1) fun on => on (s.allOff_iff.mp h.2)

/-- The plan of a transmitter, where it has one, is toward no occurrence. -/
def State.aimless (m : TxId) (s : State) : Prop := ∀ p, s.plan m = some p → p.target = none

theorem State.aimless_of_none {m : TxId} {s : State} (none : s.plan m = none) : s.aimless m :=
  fun p planned => by rw [none] at planned; cases planned

section Aimless
variable {m : TxId} {s : State} (h : s.aimless m)
include h

theorem State.aimless_of_csq {t : State} (same : t.csq = s.csq) : t.aimless m := by
  rw [State.aimless, State.plan_of_csq same]; exact h

theorem State.updPlan_aimless {n : TxId} {f : Plan → Plan} (keeps : ∀ p, (f p).target = p.target) :
    (s.updPlan n f).aimless m := by
  by_cases same : m = n
  · subst same
    intro p planned
    rw [State.updPlan_plan] at planned
    obtain ⟨q, before, rfl⟩ := Option.map_eq_some_iff.mp planned
    exact (keeps q).trans (h q before)
  · rw [State.aimless, State.updPlan, State.setPlan_plan_ne n m same]; exact h

theorem State.offer_aimless (a : AntId) : (s.offer a).aimless m := by
  unfold State.offer
  split
  · split
    · split
      · exact State.updPlan_aimless (State.aimless_of_csq h rfl) fun _ => rfl
      · exact h
    · exact h
  · exact h

theorem State.withdrawClaim_aimless (n : TxId) : (s.withdrawClaim n).aimless m := by
  have kept (a : AntId) (f : AntRun → AntRun) : (s.updRun a f).aimless m := State.aimless_of_csq h rfl
  unfold State.withdrawClaim State.withdrawFrom
  split
  · split
    · dsimp only
      split
      exacts [State.offer_aimless (kept _ _) _, kept _ _]
    · exact h
  · exact h

theorem State.removePlan_aimless (n : TxId) : (s.removePlan n).aimless m := by
  by_cases same : m = n
  · subst same; exact State.aimless_of_none (State.removePlan_plan m s)
  · have dropped : ((s.withdrawClaim n).dropHeld fun h => decide (h.asker = .plan n)).aimless m :=
      State.aimless_of_csq (State.withdrawClaim_aimless h n) (State.dropHeld_csq _ _)
    exact fun p planned => dropped p ((State.setPlan_plan_ne n m same none _).symm.trans planned)

theorem State.settlePlan_aimless (n : TxId) : (s.settlePlan n).aimless m := by
  have owned (q : Setpoint) : (s.ownAs n q).csq = s.csq := by unfold State.ownAs; split <;> rfl
  have live (t : State) (id : TargetId) : (t.recordLive n id).csq = t.csq := by
    unfold State.recordLive
    split
    · split <;> rfl
    · rfl
  have done (p : Plan) : (s.planDone n p).aimless m := by
    unfold State.planDone
    dsimp only
    split <;> split <;> refine State.removePlan_aimless (State.aimless_of_csq h ?_) n <;> simp [owned, live]
  by_cases same : m = n
  · subst same
    intro v left
    cases planned : s.plan m with
    | none => rw [State.settlePlan_plan_none planned] at left; cases left
    | some p =>
      rcases State.settlePlan_plan planned left with same | held
      exacts [(congrArg Plan.target same).trans (h p planned), (congrArg Plan.target held).trans (h p planned)]
  · unfold State.settlePlan
    split
    · split_ifs
      · exact h
      · exact done _
      · exact fun v planned => h v ((State.setPlan_plan_ne n m same _ s).symm.trans planned)
      · exact h
    · exact h

end Aimless

theorem State.setPlan_aimless {n m : TxId} {s : State} {p : Plan} (target : p.target = none) (kept : m = n ∨ s.aimless m) :
    (s.setPlan n (some p)).aimless m := by
  intro v planned
  by_cases same : m = n
  · subst same
    rw [State.setPlan_plan] at planned
    exact (Option.some.inj planned) ▸ target
  · rw [State.setPlan_plan_ne n m same] at planned
    exact kept.resolve_left same v planned

/-- A wind-down goes toward no occurrence (R122). -/
theorem State.windDown_aimless {n m : TxId} {s : State} (kept : m = n ∨ s.aimless m) (cause : Cause) (k : Nat)
    (hp : HoldPoint) : (s.windDown n cause k hp).aimless m :=
  State.settlePlan_aimless (State.setPlan_aimless (State.recompute_target ..) kept) n

theorem State.takeDown_aimless {n m : TxId} {s : State} (h : s.aimless m) (cause : Cause) : (s.takeDown n cause).aimless m := by
  have stopped : ((s.liveLost n cause).stopRecycle n).aimless m :=
    State.aimless_of_csq h ((State.stopRecycle_csq n _).trans (State.liveLost_csq n cause s))
  have drawn (t : State) (free : t.aimless m) : t.drawnDuration.aimless m := State.aimless_of_csq free rfl
  unfold State.takeDown
  generalize (s.liveLost n cause).stopRecycle n = t at *
  dsimp only
  split
  exacts [State.windDown_aimless (.inr (drawn t stopped)) cause _ _, stopped]

theorem State.abandon_aimless {n m : TxId} {s : State} (kept : m = n ∨ s.aimless m) (cause : Cause) :
    (s.abandon n cause).aimless m := by
  have others (p : Plan) (t : State) (same : t.csq = s.csq) : m = n ∨
      (((t.setPlan n (some p)).withdrawClaim n).dropHeld fun h => decide (h.asker = .plan n)).aimless m := by
    refine or_iff_not_imp_left.mpr fun other => State.aimless_of_csq (State.withdrawClaim_aimless ?_ n) (State.dropHeld_csq ..)
    rw [State.aimless, State.setPlan_plan_ne n m other, State.plan_of_csq same]
    exact kept.resolve_left other
  unfold State.abandon
  split
  next p planned =>
    extract_lets wd posted marked dropped lost stopped
    have freed : m = n ∨ dropped.aimless m := others _ posted rfl
    have same : stopped.csq = dropped.csq := by
      refine (State.stopRecycle_csq n lost).trans ?_
      unfold lost
      split
      exacts [State.recordLost_csq .., rfl]
    have ready : m = n ∨ stopped.aimless m := freed.imp_right fun h => State.aimless_of_csq h same
    split
    · exact State.windDown_aimless ready cause _ _
    · rcases ready with rfl | h
      · exact State.aimless_of_none (State.removePlan_plan m _)
      · exact State.removePlan_aimless h n
  next unplanned => exact kept.elim (fun same => State.aimless_of_none (same ▸ unplanned)) id

/-- A plan of TXn toward an occurrence is abandoned, cause HALT (R102). -/
def State.haltAbandoned (n : TxId) (s : State) : State :=
  match s.plan n with
  | some p => if p.towardOccurrence then s.abandon n .halt else s
  | none => s

theorem State.haltTx_eq (n : TxId) (s : State) : s.haltTx n =
    if ((s.haltAbandoned n).ctx n).rf ≠ .off ∧ (s.haltAbandoned n).plan n = none then (s.haltAbandoned n).takeDown n .halt
    else s.haltAbandoned n := rfl

theorem State.haltAbandoned_cases (n : TxId) (s : State) : s.haltAbandoned n = s.abandon n .halt ∨
    s.haltAbandoned n = s ∧ s.aimless n := by
  unfold State.haltAbandoned
  split
  next p planned =>
    split
    · exact .inl rfl
    next near =>
      refine .inr ⟨rfl, fun v left => ?_⟩
      cases planned.symm.trans left
      simpa using (not_or.mp (mt (Bool.or_eq_true _ _).mpr near)).1
  next unplanned => exact .inr ⟨rfl, State.aimless_of_none unplanned⟩

/-- HALT-HALL NOW leaves its transmitter no plan toward an occurrence, and gives none to another (R102). -/
theorem State.haltTx_aimless {n m : TxId} {s : State} (kept : m = n ∨ s.aimless m) : (s.haltTx n).aimless m := by
  have abandoned : (s.haltAbandoned n).aimless m := by
    rcases s.haltAbandoned_cases n with abandons | ⟨same, free⟩
    · rw [abandons]; exact State.abandon_aimless kept .halt
    · rw [same]; exact kept.elim (fun here => here ▸ free) id
  rw [State.haltTx_eq]
  split
  exacts [State.takeDown_aimless abandoned .halt, abandoned]

theorem State.haltNow_aimless {s : State} {n : TxId} (defined : s.txDefined n = true) : s.haltNow.aimless n :=
  State.each_once (Before := fun _ _ => True) (After := State.aimless) (fun _ _ _ _ _ => trivial)
    (fun _ _ _ => State.haltTx_aimless (.inl rfl)) (fun _ _ _ _ h => State.haltTx_aimless (.inr h)) s.definedTx_nodup
    (State.mem_definedTx.mpr defined) trivial

theorem State.haltNow_settles (s : State) : s.Settles s.haltNow := by
  refine (State.Settles.refl s).each fun n t h => ?_
  have abandoned : s.Settles (t.haltAbandoned n) := by
    rcases t.haltAbandoned_cases n with abandons | ⟨same, -⟩
    · rw [abandons]; exact h.abandon
    · rw [same]; exact h
  rw [State.haltTx_eq]
  split
  exacts [abandoned.takeDown, abandoned]

theorem State.haltNow_outline (s : State) : s.haltNow.outline = s.outline := by
  refine State.each_view State.outline s.definedTx (f := State.haltTx) (fun n t => ?_) s
  have abandoned : (t.haltAbandoned n).outline = t.outline := by
    rcases t.haltAbandoned_cases n with abandons | ⟨same, -⟩
    · rw [abandons, State.abandon_outline]
    · rw [same]
  rw [State.haltTx_eq]
  split
  · rw [State.takeDown_outline, abandoned]
  · exact abandoned

end Sys2Proof.Machine

namespace Sys2Proof.Proofs
open Sys2Proof Sys2Proof.Machine Sys2Proof.Claims

/-- The assertion of the EMERGENCY line (R104). -/
theorem emergency_asserted (s : State) :
    let t := s.emergency
    t.txs.hall = .emergency ∧ t.pins = { s.pins with emergency := true } ∧ t.txs.survey = none ∧ (∀ n, t.plan n = none) ∧
      (∀ n, s.txDefined n = true → t.emergencyDone (s.ctx n) n) ∧
      t.hds = s.hds ∧ t.clk = s.clk ∧ t.snaps = s.snaps ∧ t.swb = s.swb := by
  obtain ⟨txs, tim, csq, swb, clk⟩ := s.emergencyEnded.stopSurvey_spares
  rw [← State.emergency_eq] at txs tim csq swb clk
  obtain ⟨hall, bus⟩ := s.emergencyTaken_hall
  have settles := s.emergencyEnded_settles
  have still := s.emergency_still
  have plans := s.emergencyEnded_plan
  have second := s.emergencyEnded_clk
  have done {n : TxId} (defined : s.txDefined n = true) : s.emergencyEnded.emergencyDone (s.ctx n) n :=
    State.emergencyDone_of (State.emergencyTaken_done defined) (settles.beside n)
      (State.chan_of_outline s.emergencyEnded_outline (by decide))
  generalize s.emergency = t at *
  generalize s.emergencyEnded = e at *
  have ended := settles.hall.trans hall
  refine ⟨?_, congrArg Still.pins still, ?_, fun n => ?_, fun n defined => ?_, congrArg Still.hds still, clk.trans second,
    congrArg Still.snaps still, swb.trans (settles.swb.trans bus)⟩
  · rw [txs]; exact ended
  · rw [txs]
  · rw [State.plan_of_csq csq, plans]
  · refine State.emergencyDone_of (done defined) ?_ ?_
    · simp only [State.ctx, txs]
    · simp only [State.chan, tim]

/-- HALT-HALL in RUNNING or HALTING (R102, R103). -/
theorem exec_haltHall_accepted {s : State} (free : portFree .a s) (tag : Byte) (now : Bool)
    (runs : s.txs.hall = .running ∨ s.txs.hall = .halting) :
    ∃ t, exec (.haltHall .a tag now) s = .next t ∧ slotHolds .a tag (.accepted (.hall t.txs.hall)) t ∧
      (t.txs.hall = .halting ∨ t.txs.hall = .halted) ∧
      (now = false → t.csq = s.csq ∧ t.txs.ctx = s.txs.ctx ∧ (t.txs.hall = .halted ↔ quiet s)) ∧
      (now = true → ∀ n p, s.txDefined n = true → t.plan n = some p → p.target = none) ∧ t.hds = s.hds ∧ t.clk = s.clk := by
  obtain ⟨b, answer, halting, csq, ctx, hds, clk⟩ : ∃ b : State,
      (s.reqHaltHall now = let u := (if now then b.haltNow else b).haltedIfOff; u.ok (.hall u.txs.hall)) ∧
        b.txs.hall = .halting ∧ b.csq = s.csq ∧ b.txs.ctx = s.txs.ctx ∧ b.hds = s.hds ∧ b.clk = s.clk := by
    rcases runs with running | halting
    · exact ⟨s.toHall .halting .haltHall, by simp only [State.reqHaltHall, running], rfl, rfl, rfl, rfl, rfl⟩
    · exact ⟨s, by simp only [State.reqHaltHall, halting], halting, rfl, rfl, rfl, rfl⟩
  dsimp only at answer
  generalize acted : (if now then b.haltNow else b) = v at answer
  have settles : b.Settles v := by
    rw [← acted]
    split
    exacts [b.haltNow_settles, .refl b]
  have same : v.hds = b.hds ∧ v.clk = b.clk := by
    rw [← acted]
    split
    · exact ⟨State.hds_of_still b.haltNow_still, State.clk_of_core (congrArg Outline.core b.haltNow_outline)⟩
    · exact ⟨rfl, rfl⟩
  obtain ⟨hall, off, ctx', csq', hds', clk'⟩ := State.haltedIfOff_leaves (settles.hall.trans halting)
  refine ⟨_, exec_read (.haltHall now) rfl free rfl answer, ?_⟩
  simp only [replied_hds, replied_txs, replied_csq, replied_clk, replied_plan]
  refine ⟨slotHolds_replied .., hall, fun later => ?_, fun urgent n p defined planned => ?_, hds'.trans (same.1.trans hds),
    clk'.trans (same.2.trans clk)⟩
  · rw [later, if_neg Bool.false_ne_true] at acted
    subst acted
    exact ⟨csq'.trans csq, ctx'.trans ctx, off.trans (quiet_congr hds ctx csq)⟩
  · rw [urgent, if_pos rfl] at acted
    subst acted
    have free : b.haltNow.aimless n := State.haltNow_aimless ((congrFun (State.txDefined_congr hds) n).trans defined)
    exact State.aimless_of_csq free csq' p planned

theorem exec_emergencyAsserted (s : State) :
    exec .emergencyAsserted s = .next (if s.pins.emergency then s else s.emergency) := rfl

/-- START-HALL where every condition of R101 is met. -/
theorem exec_startHall_accepted {s : State} (free : portFree .a s) (tag : Byte) (clear : s.startBar = none) :
    ∃ t q, exec (.startHall .a tag) s = .next t ∧ slotHolds .a tag (.accepted .empty) t ∧
      t.txs.hall = .surveying ∧ t.txs.survey = some q ∧ t.hds = s.hds ∧ t.clk = s.clk ∧
      ∀ n, q.turns[n] = if s.txDefined n then some (if (s.ctx n).lineUp then .pending else .lost) else none := by
  have answer : s.reqStartHall = (s.toHall .surveying .startHall).beginSurvey.ok .empty := by
    simp only [State.reqStartHall, clear]
  obtain ⟨hall, clk, q, survey, turns⟩ := (s.toHall .surveying .startHall).beginSurvey_turns
  have still := (s.toHall .surveying .startHall).beginSurvey_still
  refine ⟨_, q, exec_request .startHall rfl free (s.permitted_a _) answer, slotHolds_replied .., ?_, ?_, ?_, ?_, fun n => ?_⟩
  · rw [replied_txs]; exact hall
  · rw [replied_txs]; exact survey
  · rw [replied_hds]; exact State.hds_of_still still
  · rw [replied_clk]; exact clk
  · rw [turns]
    simp only [Fin.getElem_fin, Vector.getElem_ofFn]
    rfl

/-- Settles O34: START-HALL by the condition it finds not met, HALT-HALL with the test of R103 (`haltedIfOff_leaves`), and the EMERGENCY line
by what reaches each transmitter (`emergency_asserted`). -/
theorem hallStartsHaltsAndGoesOff : Obligations.HallStartsHaltsAndGoesOff := by
  refine ⟨fun s tag free => ?_, fun s => ⟨fun on => congrArg _ (if_pos on), fun off => ?_, fun off => ?_, fun on => ?_⟩⟩
  · have starts (k : Nat) (bar : s.startBar = some k) :
        exec (.startHall .a tag) s = .next (replied .a tag 0x34 (.refused .state k) s) := by
      have answer : s.reqStartHall = s.refused .state k := by simp only [State.reqStartHall, bar]
      exact exec_request .startHall rfl free (s.permitted_a _) answer
    have some' : (∃ n, s.txDefined n = true) ↔ s.definedTx.isEmpty = false := by
      rw [List.isEmpty_eq_false_iff_exists_mem]
      exact exists_congr fun n => State.mem_definedTx.symm
    refine ⟨fun other => starts 1 (if_pos other), fun halted unset => starts 2 ?_, fun halted set none => starts 3 ?_,
      fun halted set one asserted => starts 4 ?_, fun halted set one released => exec_startHall_accepted free tag ?_,
      fun now idle => ?_, fun now runs => exec_haltHall_accepted free tag now runs, fun halting off => ?_,
      fun rests => congrArg _ (State.haltedIfOff_rests rests)⟩
    · simp [State.startBar, halted, unset]
    · have empty : s.definedTx.isEmpty = true := by
        by_contra filled
        obtain ⟨n, defined⟩ := some'.mpr (Bool.not_eq_true _ ▸ filled)
        exact absurd defined (by rw [none n]; decide)
      simp [State.startBar, halted, set, List.isEmpty_iff.mp empty]
    · simp [State.startBar, halted, set, some'.mp one, asserted, -List.isEmpty_iff]
    · simp [State.startBar, halted, set, some'.mp one, released, -List.isEmpty_iff]
    · have answer : s.reqHaltHall now = s.refused .state 0 := by
        rcases idle with hall | hall | hall <;> simp only [State.reqHaltHall, hall]
      exact exec_read (.haltHall now) rfl free rfl answer
    · have go : exec .hallAllOff s = .next (s.toHall .halted .allOff) := congrArg _ (State.haltedIfOff_quiet halting off)
      exact ⟨_, go, rfl, rfl, rfl, rfl, rfl, rfl, rfl⟩
  · have go : exec .emergencyAsserted s = .next s.emergency := by
      rw [exec_emergencyAsserted, off, if_neg Bool.false_ne_true]
    have asserted := emergency_asserted s
    generalize s.emergency = t at go asserted
    obtain ⟨hall, pins, survey, plans, done, rest⟩ := asserted
    exact ⟨_, go, hall, pins, survey, plans, fun n defined => done n defined, rest⟩
  · exact congrArg _ (if_neg (by rw [off]; decide))
  · have go : exec .emergencyReleased s = .next s.emergencyEnds := congrArg _ (if_pos on)
    refine ⟨_, go, ?_⟩
    unfold State.emergencyEnds
    dsimp only
    split <;> exact ⟨rfl, rfl, rfl, rfl, rfl, rfl, rfl, rfl, rfl⟩

end Sys2Proof.Proofs
end

section
/-! PROOFS. ACCEPT and REJECT (R83): what an answer leaves of the line, what each effect does to the context, and the end of a plan at
the last DRIVE of its ramp (R116). -/

namespace Sys2Proof.Machine
open Sys2Proof Sys2Proof.Claims

/-! ## The end of a plan (R116) -/

theorem State.updRun_owner_ne {a b : AntId} (h : a ≠ b) (f : AntRun → AntRun) (s : State) :
    (s.updRun b f).owner a = s.owner a := by
  simp only [State.owner, State.updRun, State.setRun_run_ne b a h]

section Owner
variable {s : State} {a : AntId} {o : Own} (held : s.owner a = some o)
include held

theorem State.updRun_owner {b : AntId} {f : AntRun → AntRun} (keeps : ∀ r, (f r).owner = r.owner) :
    (s.updRun b f).owner a = some o := by
  by_cases same : b = a
  · subst same
    rw [← held, State.owner, State.updRun_run, State.owner]
    cases s.run b with
    | none => rfl
    | some r => exact keeps r
  · rw [State.updRun_owner_ne (Ne.symm same)]; exact held

/-- An offer takes no antenna from its owner (R130). -/
theorem State.offer_owner (b : AntId) : (s.offer b).owner a = some o := by
  unfold State.offer
  split
  next r found =>
    split
    next c rest _ =>
      split
      next grants =>
        have other : a ≠ b := by
          rintro rfl
          have free : r.owner.isNone = true := by
            simp only [State.mayGrant, Bool.and_eq_true] at grants
            exact grants.1.1.2
          rw [State.owner, found] at held
          dsimp only at held
          rw [held] at free
          cases free
        have taken := State.updRun_owner held (b := b) (f := fun q => { q with queue := rest }) fun _ => rfl
        exact (State.updRun_owner_ne other _ (s.updRun b fun q => { q with queue := rest })).trans taken
      · exact held
    · exact held
  · exact held

theorem State.removePlan_owner (n : TxId) : (s.removePlan n).owner a = some o := by
  have withdrawn : (s.withdrawClaim n).owner a = some o := by
    unfold State.withdrawClaim State.withdrawFrom
    split
    · split
      · dsimp only
        have left (b : AntId) := State.updRun_owner held (b := b)
          (f := fun q => { q with queue := q.queue.filter fun c => !decide (c.tx = n) }) fun _ => rfl
        split
        exacts [State.offer_owner (left _) _, left _]
      · exact held
    · exact held
  have dropped : ((s.withdrawClaim n).dropHeld fun h => decide (h.asker = .plan n)).owner a = some o := by
    refine .trans ?_ withdrawn
    exact State.each_view (fun t => t.owner a) _ (f := State.retell) (fun _ _ => rfl) _
  exact dropped

end Owner

/-- The DONE phase of a plan toward a PENDING record (R116): the record is LIVE, ENTRY-STARTED told, the antenna owned as the setpoint
says, and the plan removed. -/
theorem State.planDone_starts {s : State} {n : TxId} {p : Plan} {q : Setpoint} {id : TargetId} {r : OccRec}
    (setp : p.setp = some q) (target : p.target = some id) (found : s.recordOf n id = some r) (pending : r.status = .pending) :
    let t := s.planDone n p
    t.plan n = none ∧ t.recordOf n id = some { r with status := .live, onAir := some s.now } ∧
      told s (.entryStarted n id r.tag s.now (s.prot n).clamped) t ∧
      ∀ a o, s.owned n = some a → s.owner a = some o →
        t.owner a = some { o with kind := q.kind.own, priority := q.priority } := by
  have sch : (s.ownAs n q).sch = s.sch := State.ownAs_sch ..
  have occ : (s.ownAs n q).occ n = s.occ n := by simp only [State.occ, sch]
  have spared : (s.ownAs n q).lnk = s.lnk ∧ (s.ownAs n q).clk = s.clk ∧ (s.ownAs n q).rfp = s.rfp := by
    unfold State.ownAs; split <;> exact ⟨rfl, rfl, rfl⟩
  obtain ⟨lnk, clk, rfp⟩ := spared
  have done : s.planDone n p = (((s.ownAs n q).updOcc n (Occ.change id fun x =>
      { x with status := .live, onAir := some s.now })).post
        (.entryStarted n id r.tag s.now (s.prot n).clamped)).removePlan n := by
    have there : (s.ownAs n q).recordOf n id = some r := by rw [State.recordOf_congr occ]; exact found
    have clamped : ((s.ownAs n q).prot n).clamped = (s.prot n).clamped := by simp only [State.prot, rfp]
    simp only [State.planDone, setp, target, State.recordLive, there, pending, if_true, State.now_of_clk clk, clamped]
  dsimp only
  rw [done]
  refine ⟨State.removePlan_plan .., ?_, fun port room => ?_, fun a o owned held => ?_⟩
  · have left (t : State) : (t.removePlan n).recordOf n id = t.recordOf n id := by
      rw [State.recordOf_congr]; simp only [State.occ, State.removePlan_sch]
    have changed := State.recordOf_change (s := s.ownAs n q) (n := n) (id := id)
      (f := fun x => { x with status := .live, onAir := some s.now }) fun _ => rfl
    rw [left]
    refine Eq.trans (State.recordOf_congr rfl ▸ rfl) (changed.trans ?_)
    rw [State.recordOf_congr occ, found]
    rfl
  · refine State.removePlan_keeps_waits (State.post_waits _ ?_) n
    have same : ((s.ownAs n q).updOcc n (Occ.change id fun x => { x with status := .live, onAir := some s.now })).port port =
        s.port port := by
      have whole : ((s.ownAs n q).updOcc n (Occ.change id fun x =>
        { x with status := .live, onAir := some s.now })).lnk = s.lnk := lnk
      cases port <;> simp only [State.port, whole]
    rw [same]
    exact room
  · refine State.removePlan_owner (s := (((s.ownAs n q).updOcc n (Occ.change id fun x =>
      { x with status := .live, onAir := some s.now })).post _)) ?_ n
    have owns : (s.ownAs n q).owner a = some { o with kind := q.kind.own, priority := q.priority } := by
      simp only [State.ownAs, owned, State.owner, State.updRun_run]
      simp only [State.owner] at held
      cases run : s.run a with
      | none => rw [run] at held; cases held
      | some x =>
        rw [run] at held
        dsimp only at held
        simp [held]
    exact owns

theorem Phases.put_rampup_get {ph : Phase} (other : ph ≠ .rampup) (v : PStatus) (p : Phases) :
    (p.put .rampup v).get ph = p.get ph := by
  cases ph
  case rampup => exact absurd rfl other
  all_goals rfl

/-- The last phase of a plan to end ends the plan (R116). -/
theorem State.endPhase_done {s : State} {n : TxId} {p : Plan} (planned : s.plan n = some p) (pend : p.pend = none)
    (flags : p.deferFlags = false) (runs : p.phases.rampup = .running)
    (rest : ∀ ph, ph ≠ .rampup → ph ≠ .done → p.phases.get ph = .ended ∨ p.phases.get ph = .skipped) :
    let e : Plan := { p with phases := p.phases.put .rampup .ended }
    s.endPhase n .rampup = (s.setPlan n (some e)).planDone n e := by
  have allEnded : (p.phases.put .rampup .ended).allOver (phaseDeps .done) = true := by
    rw [Phases.allOver, List.all_eq_true]
    intro ph mem
    have ended : (p.phases.put .rampup .ended).get ph = .ended ∨ (p.phases.put .rampup .ended).get ph = .skipped := by
      by_cases last : ph = .rampup
      · subst last; exact .inl rfl
      · rw [Phases.put_rampup_get last]
        exact rest ph last fun done => absurd (done ▸ mem) (by decide)
    simpa [Phases.over] using ended
  have going : p.phases.get .rampup = .running := runs
  dsimp only
  simp only [State.endPhase, planned, going, if_true, State.settlePlan, State.setPlan_plan, flags, pend, allEnded,
    Bool.false_or, Option.isSome_none, Bool.false_eq_true, if_false]

/-! ## What the effect of an answer leaves of the line (R83) -/

/-- The orders on the line of TXn, its order accept channel, and the clock. -/
def State.lineOf (n : TxId) (s : State) : Option Outstanding × Option Deferred × Chan × Clock :=
  ((s.ctx n).outstanding, (s.ctx n).deferred, s.chan (.tx n .accept), s.clk)

theorem State.of_lineOf {n : TxId} {s t : State} (h : t.lineOf n = s.lineOf n) :
    (t.ctx n).outstanding = (s.ctx n).outstanding ∧ (t.ctx n).deferred = (s.ctx n).deferred ∧
      t.chan (.tx n .accept) = s.chan (.tx n .accept) ∧ t.clk = s.clk := by
  simpa only [State.lineOf, Prod.mk.injEq] using h

theorem State.lineOf_of_beside {n : TxId} {s t : State} (beside : (t.ctx n).beside = (s.ctx n).beside)
    (chan : t.chan (.tx n .accept) = s.chan (.tx n .accept)) (clk : t.clk = s.clk) : t.lineOf n = s.lineOf n := by
  obtain ⟨outstanding, deferred, -⟩ := Ctx.of_beside beside
  rw [State.lineOf, outstanding, deferred, chan, clk]
  rfl

theorem State.Settles.lineOf {s t : State} (h : s.Settles t) (outline : t.outline = s.outline) (n : TxId) :
    t.lineOf n = s.lineOf n :=
  State.lineOf_of_beside (h.beside n) (State.chan_of_outline outline (by decide))
    (State.clk_of_core (congrArg Outline.core outline))

theorem State.updCtx_lineOf {n : TxId} {f : Ctx → Ctx}
    (keeps : ∀ c, (f c).outstanding = c.outstanding ∧ (f c).deferred = c.deferred) (s : State) :
    (s.updCtx n f).lineOf n = s.lineOf n := by
  rw [State.lineOf, State.updCtx_ctx, (keeps _).1, (keeps _).2]
  rfl

@[simp] theorem State.toState_lineOf (n : TxId) (st : CtxState) (s : State) : (s.toState n st).lineOf n = s.lineOf n :=
  State.lineOf_of_beside (by rw [State.toState_ctx, Ctx.moved_beside]) rfl rfl

theorem State.setChan_lineOf {d : TxChan} (other : d ≠ .accept) (n : TxId) (v : Chan) (s : State) :
    (s.setChan (.tx n d) v).lineOf n = s.lineOf n :=
  State.lineOf_of_beside rfl (State.setChan_tx_ne (Ne.symm other) n v s) rfl

@[simp] theorem State.stopRamp_lineOf (n : TxId) (s : State) : (s.stopRamp n).lineOf n = s.lineOf n :=
  State.lineOf_of_beside (by rw [State.stopRamp_ctx]; rfl) (State.stopRamp_tx_ne (by decide) n s) rfl

@[simp] theorem State.endPhase_lineOf (n : TxId) (ph : Phase) (s : State) : (s.endPhase n ph).lineOf n = s.lineOf n :=
  (State.Settles.refl s).same.lineOf (State.endPhase_outline ..) n

@[simp] theorem State.txFault_lineOf (n : TxId) (f : FaultCause) (u : Option Nat) (s : State) :
    (s.txFault n f u).lineOf n = s.lineOf n :=
  State.lineOf_of_beside (State.txFault_beside ..) (State.txFault_chan (by decide) ..) (State.clk_of_core (State.txFault_core ..))

@[simp] theorem State.refuse_lineOf (n : TxId) (who : Asker) (o : Order) (why : Refused) (s : State) :
    (s.refuse n who o why).lineOf n = s.lineOf n := by
  have fails : (s.rampFails n why).chan (.tx n .accept) = s.chan (.tx n .accept) := by
    have stopped : (s.stopRamp n).chan (.tx n .accept) = s.chan (.tx n .accept) := State.stopRamp_tx_ne (by decide) n s
    have refused (ph : Phase) : ((s.stopRamp n).planRefused n ph why).chan (.tx n .accept) = s.chan (.tx n .accept) :=
      (State.chan_of_outline (State.planRefused_outline ..) (by decide)).trans stopped
    unfold State.rampFails
    split
    · dsimp only
      split
      · split
        exacts [refused _, (State.chan_of_outline (State.recycleFails_outline ..) (by decide)).trans stopped]
      · exact refused _
      · exact stopped
    · rfl
  refine State.lineOf_of_beside (State.refuse_beside ..) ?_ (State.clk_of_core (State.refuse_core ..))
  unfold State.refuse
  dsimp only
  rw [State.chan_of_outline (State.answer_outline ..) (by decide)]
  split
  exacts [fails, rfl]

@[simp] theorem State.rampEnd_lineOf (n : TxId) (s : State) : (s.rampEnd n).lineOf n = s.lineOf n := by
  unfold State.rampEnd
  split
  · split <;> simp
  · rfl

/-- The effect of an ACCEPT leaves the line. -/
theorem State.acceptEffect_lineOf (n : TxId) (o : Outstanding) (s : State) : (s.acceptEffect n o).lineOf n = s.lineOf n := by
  have started {d : TxChan} (other : d ≠ .accept) (k : Nat) (t : State) : (t.startChan (.tx n d) k).lineOf n = t.lineOf n :=
    State.setChan_lineOf other n _ t
  have written {f : Ctx → Ctx} (keeps : ∀ c, (f c).outstanding = c.outstanding ∧ (f c).deferred = c.deferred) (t : State) :
      (t.updCtx n f).lineOf n = t.lineOf n := State.updCtx_lineOf keeps t
  unfold State.acceptEffect
  dsimp only
  split
  · rfl
  · split
    · split
      · split
        · split
          · exact (written (by exact fun _ => ⟨rfl, rfl⟩) _).trans (State.toState_lineOf ..)
          · exact (written (by exact fun _ => ⟨rfl, rfl⟩) _).trans ((started (by decide) ..).trans (State.toState_lineOf ..))
        · rfl
      · rfl
    · split
      · split
        · exact (written (by exact fun _ => ⟨rfl, rfl⟩) _).trans ((started (by decide) ..).trans (State.toState_lineOf ..))
        · rfl
      · rfl
    · split
      exacts [started (by decide) .., rfl]
    · split
      · split
        exacts [State.rampEnd_lineOf .., rfl]
      · rfl
    · rfl

/-- The effect of a REJECT leaves the line. -/
theorem State.rejectEffect_lineOf (n : TxId) (o : Outstanding) (s : State) : (s.rejectEffect n o).lineOf n = s.lineOf n := by
  have stopped (t : State) : (t.stopChan (.tx n .rfOff)).lineOf n = t.lineOf n := State.setChan_lineOf (by decide) n _ t
  have written {f : Ctx → Ctx} (keeps : ∀ c, (f c).outstanding = c.outstanding ∧ (f c).deferred = c.deferred) (t : State) :
      (t.updCtx n f).lineOf n = t.lineOf n := State.updCtx_lineOf keeps t
  unfold State.rejectEffect
  extract_lets t u
  have shown : t.lineOf n = s.lineOf n := written (by exact fun _ => ⟨rfl, rfl⟩) s
  rw [← shown]
  split
  · exact written (by exact fun _ => ⟨rfl, rfl⟩) t
  · split
    · exact stopped t
    · rw [State.txFault_lineOf, stopped]
  · rfl
  · have back : u.lineOf n = t.lineOf n := by
      unfold u
      split
      exacts [State.toState_lineOf .., rfl]
    rw [State.refuse_lineOf]
    exact (written (by exact fun _ => ⟨rfl, rfl⟩) _).trans ((State.stopRamp_lineOf ..).trans back)
  · rw [State.refuse_lineOf]
    exact written (by exact fun _ => ⟨rfl, rfl⟩) t

/-! ## The state in which an answer takes effect -/

/-- The silence channel is retriggered and the answered order has left the line (R29, R83). -/
def State.heardAnswer (n : TxId) (s : State) : State := (s.retrigger (.tx n .silence)).answered n

theorem State.heardAnswer_ctx (n : TxId) (s : State) : (s.heardAnswer n).ctx n = { s.ctx n with outstanding := none } := by
  rw [State.heardAnswer, State.answered, State.updCtx_ctx]
  exact congrArg (fun c : Ctx => { c with outstanding := none }) (congrFun (s.retrigger_ctx (.tx n .silence)) n)

theorem State.heardAnswer_chan {d : TxChan} (silence : d ≠ .silence) (accept : d ≠ .accept) (n : TxId) (s : State) :
    (s.heardAnswer n).chan (.tx n d) = s.chan (.tx n d) :=
  (State.stopChan_tx_ne accept n _).trans (State.retrigger_chan silence n s)

theorem State.heardAnswer_blocks (n : TxId) (s : State) : (s.heardAnswer n).hds = s.hds ∧ (s.heardAnswer n).clk = s.clk ∧
    (s.heardAnswer n).sch = s.sch ∧ (s.heardAnswer n).csq = s.csq ∧ (s.heardAnswer n).amx = s.amx ∧
    (s.heardAnswer n).rfp = s.rfp ∧ (s.heardAnswer n).lnk = s.lnk := by
  obtain ⟨hds, clk, sch, csq, -, amx, -, rfp, -⟩ := s.retrigger_blocks (.tx n .silence)
  exact ⟨hds, clk, sch, csq, amx, rfp, s.retrigger_lnk (.tx n .silence)⟩

theorem State.heardAnswer_lineOf (n : TxId) (s : State) :
    (s.heardAnswer n).lineOf n = (none, (s.ctx n).deferred, .stopped, s.clk) := by
  have stopped : (s.heardAnswer n).chan (.tx n .accept) = .stopped := State.stopChan_chan (.tx n .accept) _
  rw [State.lineOf, State.heardAnswer_ctx, stopped, (s.heardAnswer_blocks n).2.1]

/-- Under LOCAL or for an order that begins nothing an ACCEPT does no more (R83). -/
theorem State.acceptEffect_idle {n : TxId} {o : Outstanding} (quiet : o.order = .rfOff ∨ o.order = .statusAsk ∨ o.order = .darken)
    (s : State) : s.acceptEffect n o = s := by
  unfold State.acceptEffect
  dsimp only
  rcases quiet with order | order | order <;> simp [order]

section Effects
variable {s : State} {n : TxId} {o : Outstanding} {d : TxDef}

/-- ACCEPT of a WARM begins the warm-up (R89). -/
theorem State.acceptEffect_warm (order : o.order = .warm) (remote : (s.ctx n).source ≠ .localKey)
    (dark : (s.ctx n).state = .dark) (defined : s.txDef n = some d) :
    ((s.acceptEffect n o).ctx n).state = .warming ∧ (s.acceptEffect n o).chan (.tx n .warmUp) =
      if d.warmUp = 0 then s.chan (.tx n .warmUp) else ⟨true, d.warmUp * 1000, d.warmUp * 1000⟩ := by
  simp only [State.acceptEffect, if_neg remote, order, dark, defined, if_true]
  split
  · exact ⟨by simp, rfl⟩
  · exact ⟨by simp, State.setChan_chan (.tx n .warmUp) _ _⟩

/-- ACCEPT of a TUNE begins the retune (R90). -/
theorem State.acceptEffect_tune {f : Nat} (order : o.order = .tune f) (remote : (s.ctx n).source ≠ .localKey)
    (state : (s.ctx n).state = .standby ∨ (s.ctx n).state = .ready) (defined : s.txDef n = some d) :
    ((s.acceptEffect n o).ctx n).state = .tuning ∧ ((s.acceptEffect n o).ctx n).tuned = none ∧
      (s.acceptEffect n o).chan (.tx n .tune) = ⟨true, d.tuneTimeout * 1000, d.tuneTimeout * 1000⟩ := by
  simp only [State.acceptEffect, if_neg remote, order, if_pos state, defined]
  exact ⟨by simp, by simp, State.setChan_chan (.tx n .tune) _ _⟩

/-- ACCEPT of an RF-ON starts the ramp channel (R91). -/
theorem State.acceptEffect_rfOn {k : Nat} {r : Ramp} (order : o.order = .rfOn k) (remote : (s.ctx n).source ≠ .localKey)
    (ramp : (s.ctx n).ramp = some r) (defined : s.txDef n = some d) :
    ((s.acceptEffect n o).ctx n).state = (s.ctx n).state ∧
      (s.acceptEffect n o).chan (.tx n .ramp) = ⟨true, d.rampInterval, d.rampInterval⟩ := by
  simp only [State.acceptEffect, if_neg remote, order, ramp, Option.isSome_some, if_true, State.rampInterval, defined]
  exact ⟨rfl, State.setChan_chan (.tx n .ramp) _ _⟩

/-- ACCEPT of the last DRIVE of an upward ramp ends it (R91, R116). -/
theorem State.acceptEffect_last {r : Ramp} (order : o.order = .drive (s.prot n).d) (remote : (s.ctx n).source ≠ .localKey)
    (ramp : (s.ctx n).ramp = some r) (up : r.kind = .up) :
    s.acceptEffect n o = ((s.stopRamp n).toState n .onAir).endPhase n .rampup := by
  simp [State.acceptEffect, remote, order, ramp, up, State.rampEnd]

/-! ## REJECT (table of R83) -/

/-- A context of which an order no longer counts as unshown (R34). -/
def Ctx.unsent (o : Order) (c : Ctx) : Ctx := { c with unshown := c.unshown.filter fun x => !x.sameKind o }

theorem State.rejectEffect_darken (order : o.order = .darken) :
    (s.rejectEffect n o).ctx n = { (s.ctx n).unsent .darken with declined := true } := by
  simp only [State.rejectEffect, order, State.updCtx_ctx]
  rfl

theorem State.rejectEffect_statusAsk (order : o.order = .statusAsk) :
    (s.rejectEffect n o).ctx n = (s.ctx n).unsent .statusAsk := by
  simp only [State.rejectEffect, order, State.updCtx_ctx]
  rfl

theorem State.rejectEffect_rfOff (order : o.order = .rfOff) (known : (s.ctx n).state ≠ .unknown) :
    ((s.rejectEffect n o).ctx n).state = .faulted ∧ ((s.rejectEffect n o).ctx n).cause = some .rfOffUnconfirmed ∧
      ((s.rejectEffect n o).ctx n).rf = (s.ctx n).rf ∧ (s.rejectEffect n o).chan (.tx n .rfOff) = .stopped := by
  have faults : s.rejectEffect n o =
      ((s.updCtx n (Ctx.unsent .rfOff)).stopChan (.tx n .rfOff)).txFault n .rfOffUnconfirmed none := by
    simp only [State.rejectEffect, order, State.updCtx_ctx, if_neg known]
    rfl
  obtain ⟨-, -, rf, -⟩ := Ctx.of_beside (State.txFault_beside n .rfOffUnconfirmed none
    ((s.updCtx n (Ctx.unsent .rfOff)).stopChan (.tx n .rfOff)))
  rw [faults, State.txFault_chan (by decide)]
  obtain ⟨state, cause⟩ := State.txFault_faulted n .rfOffUnconfirmed none
    ((s.updCtx n (Ctx.unsent .rfOff)).stopChan (.tx n .rfOff))
  refine ⟨state, cause, rf.trans ?_, State.stopChan_chan ..⟩
  rw [State.stopChan_ctx, State.updCtx_ctx]
  rfl

theorem Ctx.recycleEnded_ramp (c : Ctx) : c.recycleEnded.ramp = c.ramp := by
  simp only [Ctx.recycleEnded, Ctx.moved]
  split
  · split
    · split <;> rfl
    · rfl
  · rfl

/-- REJECT of an RF-ON whose ramp-up has not begun otherwise (R83, R91). -/
theorem State.rejectEffect_rfOn {k : Nat} (order : o.order = .rfOn k) (up : (s.ctx n).state = .rampingUp) :
    ((s.rejectEffect n o).ctx n).state = o.before ∧ ((s.rejectEffect n o).ctx n).rf = .unsure ∧
      ((s.rejectEffect n o).ctx n).ramp = none := by
  let b := (((s.updCtx n (Ctx.unsent (.rfOn k))).toState n o.before).stopRamp n).updCtx n fun c => { c with rf := .unsure }
  have answers : s.rejectEffect n o = b.answer n o.who (.rfOn k) .rejected := by
    simp only [State.rejectEffect, order, State.updCtx_ctx, up, if_true]
    rfl
  have state : (b.ctx n).state = o.before ∧ (b.ctx n).rf = .unsure ∧ (b.ctx n).ramp = none := by
    simp [b]
  have settles := b.answer_settles n o.who (.rfOn k) .rejected
  obtain ⟨-, -, rf, -⟩ := Ctx.of_beside (settles.beside n)
  rw [answers]
  refine ⟨(settles.carrying (by rw [state.2.1]; decide)).1.trans state.1, rf.trans state.2.1, ?_⟩
  rcases settles.ctx n with same | ended
  · rw [same]; exact state.2.2
  · rw [ended, Ctx.recycleEnded_ramp]; exact state.2.2

/-- REJECT of a DRIVE leaves the drive last accepted (R160). -/
theorem State.rejectEffect_drive (order : o.order = .drive (s.ctx n).drive) :
    ((s.rejectEffect n o).ctx n).drive = o.was := by
  have refuses : s.rejectEffect n o = ((s.updCtx n (Ctx.unsent o.order)).updCtx n (Ctx.driveBack o)).refuse n o.who o.order
      .rejected := by
    simp only [State.rejectEffect, order]
    rfl
  obtain ⟨-, -, -, drive, -⟩ := Ctx.of_beside (State.refuse_beside n n o.who o.order .rejected
    ((s.updCtx n (Ctx.unsent o.order)).updCtx n (Ctx.driveBack o)))
  rw [refuses, drive, State.updCtx_ctx, State.updCtx_ctx]
  exact if_pos order

/-- REJECT of a WARM or a TUNE leaves a context that is not TRIPPED (R83). -/
theorem State.rejectEffect_waits (order : o.order = .warm ∨ ∃ f, o.order = .tune f) (untripped : (s.ctx n).state ≠ .tripped) :
    ((s.rejectEffect n o).ctx n).state = (s.ctx n).state ∧ ((s.rejectEffect n o).ctx n).rf = (s.ctx n).rf := by
  let b := (s.updCtx n (Ctx.unsent o.order)).updCtx n (Ctx.driveBack o)
  have answers : s.rejectEffect n o = b.answer n o.who o.order .rejected := by
    rcases order with order | ⟨f, order⟩ <;> simp only [b, State.rejectEffect, order] <;> rfl
  have ctx : b.ctx n = ((s.ctx n).unsent o.order).driveBack o := by simp [b]
  rw [answers, (b.answer_settles n o.who o.order .rejected).untripped (by rw [ctx]; exact untripped), ctx]
  exact ⟨rfl, rfl⟩

end Effects

end Sys2Proof.Machine

namespace Sys2Proof.Proofs
open Sys2Proof Sys2Proof.Machine Sys2Proof.Claims

/-- What an answer of the line gives once its effect has left the line: nothing deferred leaves. -/
theorem answer_rests {s : State} {n : TxId} (empty : (s.ctx n).deferred = none) {f : State → State} (leaves : (f (s.heardAnswer n)).lineOf n = (s.heardAnswer n).lineOf n) :
    (f (s.heardAnswer n)).sendDeferred n = f (s.heardAnswer n) ∧ ((f (s.heardAnswer n)).ctx n).outstanding = none ∧
      ((f (s.heardAnswer n)).ctx n).deferred = none ∧ ((f (s.heardAnswer n)).chan (.tx n .accept)).running = false ∧
      (f (s.heardAnswer n)).clk = s.clk := by
  have line := leaves.trans (s.heardAnswer_lineOf n)
  simp only [State.lineOf, Prod.mk.injEq] at line
  obtain ⟨outstanding, deferred, accept, clk⟩ := line
  exact ⟨State.sendDeferred_rests (.inr (deferred.trans empty)), outstanding, deferred.trans empty, by rw [accept]; rfl, clk⟩

section Answers
variable {s : State} {n : TxId} {o : Outstanding} (served : served n s) (sent : (s.ctx n).outstanding = some o)
  (empty : (s.ctx n).deferred = none)
include served sent empty

/-- ACCEPT of an outstanding order with none deferred. -/
theorem exec_accept_effect :
    let t := (s.heardAnswer n).acceptEffect n o
    exec (.accept n) s = .next t ∧ (t.ctx n).outstanding = none ∧ (t.ctx n).deferred = none ∧
      (t.chan (.tx n .accept)).running = false ∧ t.hds = s.hds ∧ t.snaps = s.snaps ∧ t.pins = s.pins ∧ t.clk = s.clk := by
  obtain ⟨rests, outstanding, deferred, accept, clk⟩ := answer_rests empty (f := State.acceptEffect n o)
    (State.acceptEffect_lineOf ..)
  have still : ((s.heardAnswer n).acceptEffect n o).still = s.still := by
    rw [State.acceptEffect_still, State.heardAnswer, State.answered_still, State.retrigger_still]
  refine ⟨?_, outstanding, deferred, accept, congrArg Still.hds still, congrArg Still.snaps still, congrArg Still.pins still,
    clk⟩
  have there : ((s.retrigger (.tx n .silence)).ctx n).outstanding = some o := by rw [State.retrigger_ctx]; exact sent
  have accepts : (s.retrigger (.tx n .silence)).accepted n = (s.heardAnswer n).acceptEffect n o := by
    rw [← rests, State.accepted, there]
    rfl
  exact congrArg _ ((State.report_served served ..).trans accepts)

/-- REJECT of an outstanding order with none deferred. -/
theorem exec_reject_effect (why : Nat) :
    let t := (s.heardAnswer n).rejectEffect n o
    exec (.reject n why) s = .next t ∧ (t.ctx n).outstanding = none ∧ (t.ctx n).deferred = none ∧
      (t.chan (.tx n .accept)).running = false ∧ t.hds = s.hds ∧ t.snaps = s.snaps ∧ t.pins = s.pins ∧ t.clk = s.clk := by
  obtain ⟨rests, outstanding, deferred, accept, clk⟩ := answer_rests empty (f := State.rejectEffect n o)
    (State.rejectEffect_lineOf ..)
  have still : ((s.heardAnswer n).rejectEffect n o).still = s.still := by
    rw [State.rejectEffect_still, State.heardAnswer, State.answered_still, State.retrigger_still]
  refine ⟨?_, outstanding, deferred, accept, congrArg Still.hds still, congrArg Still.snaps still, congrArg Still.pins still,
    clk⟩
  have there : ((s.retrigger (.tx n .silence)).ctx n).outstanding = some o := by rw [State.retrigger_ctx]; exact sent
  have rejects : (s.retrigger (.tx n .silence)).rejected n = (s.heardAnswer n).rejectEffect n o := by
    rw [← rests, State.rejected, there]
    rfl
  exact congrArg _ ((State.report_served served ..).trans rejects)

end Answers

/-- The plan that the last DRIVE of its ramp takes to DONE (R116). -/
theorem rampEnded_plan {s : State} {n : TxId} {p : Plan} {q : Setpoint} {id : TargetId} {r : OccRec}
    (planned : s.plan n = some p) (setp : p.setp = some q) (target : p.target = some id) (runs : p.phases.rampup = .running)
    (pend : p.pend = none) (flags : p.deferFlags = false)
    (rest : ∀ ph, ph ≠ .rampup → ph ≠ .done → p.phases.get ph = .ended ∨ p.phases.get ph = .skipped)
    (found : s.recordOf n id = some r) (pending : r.status = .pending) :
    let t := (((s.heardAnswer n).stopRamp n).toState n .onAir).endPhase n .rampup
    t.plan n = none ∧ t.recordOf n id = some { r with status := .live, onAir := some s.now } ∧
      told s (.entryStarted n id r.tag s.now (s.prot n).clamped) t ∧
      ∀ a o, s.owned n = some a → s.owner a = some o →
        t.owner a = some { o with kind := q.kind.own, priority := q.priority } := by
  obtain ⟨-, clk, sch, csq, amx, rfp, lnk⟩ := s.heardAnswer_blocks n
  generalize s.heardAnswer n = b at *
  let e : Plan := { p with phases := p.phases.put .rampup .ended }
  let u := (b.stopRamp n).toState n .onAir
  have there : u.plan n = some p := by rw [← planned]; exact congrFun (State.plan_of_csq csq) n
  have done : u.endPhase n .rampup = (u.setPlan n (some e)).planDone n e := State.endPhase_done there pend flags runs rest
  have occ : (u.setPlan n (some e)).occ n = s.occ n := congrArg (fun x : Sch => x.occ[n]) sch
  have now : (u.setPlan n (some e)).now = s.now := State.now_of_clk clk
  have prot : (u.setPlan n (some e)).prot n = s.prot n := by
    have same : b.prot n = s.prot n := by simp only [State.prot, rfp]
    exact same
  have owned : (u.setPlan n (some e)).owned = s.owned := State.owned_of_amx amx
  have owner (a : AntId) : (u.setPlan n (some e)).owner a = s.owner a := by
    have same : (u.setPlan n (some e)).run a = s.run a := congrArg (fun x : Amx => x.ant[a]) amx
    simp only [State.owner, same]
  have port (port : Port) : (u.setPlan n (some e)).port port = s.port port := by
    have same : (u.setPlan n (some e)).lnk = s.lnk := lnk
    cases port <;> simp only [State.port, same]
  obtain ⟨gone, record, notice, own⟩ := State.planDone_starts (s := u.setPlan n (some e)) (p := e) setp target
    ((congrFun (State.recordOf_congr occ) id).trans found) pending
  dsimp only
  rw [show ((b.stopRamp n).toState n .onAir).endPhase n .rampup = _ from done]
  rw [now] at record notice
  rw [prot] at notice
  refine ⟨gone, record, fun at_ room => notice at_ (by rw [port]; exact room), fun a o owns held => own a o ?_ ?_⟩
  · rw [owned]; exact owns
  · rw [owner]; exact held

/-- Settles O28: an answer takes effect on the context as it was sent from (`exec_accept_effect`, `exec_reject_effect`), and each
order's effect is its own lemma; the plan's end is `rampEnded_plan`. -/
theorem acceptAndRejectAnswerTheOrder : Obligations.AcceptAndRejectAnswerTheOrder := by
  intro s n why d defined up
  have line : served n s := ⟨by rw [State.txDefined, defined]; rfl, up⟩
  have ctx := s.heardAnswer_ctx n
  obtain ⟨hds, -, -, -, -, rfp, -⟩ := s.heardAnswer_blocks n
  have known : (s.heardAnswer n).txDef n = some d := by rw [State.txDef_congr hds]; exact defined
  refine ⟨fun none => ?_, fun o sent empty => ?_⟩
  · have idle : ((s.retrigger (.tx n .silence)).ctx n).outstanding = .none := by rw [State.retrigger_ctx]; exact none
    have accepted : (s.retrigger (.tx n .silence)).accepted n = s.retrigger (.tx n .silence) := by rw [State.accepted, idle]
    have rejected : (s.retrigger (.tx n .silence)).rejected n = s.retrigger (.tx n .silence) := by rw [State.rejected, idle]
    exact ⟨congrArg _ ((State.report_served line ..).trans accepted),
      congrArg _ ((State.report_served line ..).trans rejected)⟩
  have accepts := exec_accept_effect line sent empty
  have rejects := exec_reject_effect line sent empty why
  refine ⟨fun order remote dark => ?_, fun f order remote state => ?_, fun k r order remote ramp => ?_,
    fun r order remote ramp rising => ?_, fun quiet => ?_, fun order => ?_, fun order => ?_, fun order awake => ?_,
    fun k order rising => ?_, fun order => ?_, fun f order untripped => ?_⟩
  · obtain ⟨state, chan⟩ := State.acceptEffect_warm (s := s.heardAnswer n) order (by rw [ctx]; exact remote)
      (by rw [ctx]; exact dark) known
    exact ⟨_, accepts, state, by rw [chan, State.heardAnswer_chan (by decide) (by decide)]⟩
  · exact ⟨_, accepts, State.acceptEffect_tune order (by rw [ctx]; exact remote) (by rw [ctx]; exact state) known⟩
  · obtain ⟨state, chan⟩ := State.acceptEffect_rfOn (s := s.heardAnswer n) order (by rw [ctx]; exact remote)
      (by rw [ctx]; exact ramp) known
    exact ⟨_, accepts, by rw [state, ctx], chan⟩
  · have prot : (s.heardAnswer n).prot n = s.prot n := by simp only [State.prot, rfp]
    have ends := State.acceptEffect_last (s := s.heardAnswer n) (order.trans (by rw [prot])) (by rw [ctx]; exact remote)
      (by rw [ctx]; exact ramp) rising
    rw [ends] at accepts
    refine ⟨_, accepts, ?_, ?_, ?_, fun p q id rec planned setp target runs pend flags rest found pending =>
      rampEnded_plan planned setp target runs pend flags rest found pending⟩
    · rw [State.endPhase_ctx, State.toState_ctx, Ctx.moved_state]
    · rw [State.endPhase_ctx, State.toState_ctx, State.stopRamp_ctx]
      unfold Ctx.moved
      split <;> rfl
    · rw [State.chan_of_outline (State.endPhase_outline ..) (by decide)]
      exact State.stopRamp_ramp n _
  · rw [State.acceptEffect_idle quiet] at accepts
    exact ⟨_, accepts, ctx⟩
  · refine ⟨_, rejects, ?_, ?_⟩ <;> rw [State.rejectEffect_darken order]
    rw [ctx]; rfl
  · refine ⟨_, rejects, ?_, ?_⟩ <;> rw [State.rejectEffect_statusAsk order, ctx] <;> rfl
  · obtain ⟨state, cause, rf, chan⟩ := State.rejectEffect_rfOff (s := s.heardAnswer n) order (by rw [ctx]; exact awake)
    exact ⟨_, rejects, state, cause, by rw [rf, ctx], by rw [chan]; rfl⟩
  · exact ⟨_, rejects, State.rejectEffect_rfOn order (by rw [ctx]; exact rising)⟩
  · exact ⟨_, rejects, State.rejectEffect_drive (by rw [ctx]; exact order)⟩
  · obtain ⟨state, rf⟩ := State.rejectEffect_waits (s := s.heardAnswer n) (o := o) (order.imp_right fun h => ⟨f, h⟩)
      (by rw [ctx]; exact untripped)
    exact ⟨_, rejects, by rw [state, ctx], by rw [rf, ctx]⟩

end Sys2Proof.Proofs
end

section
/-! PROOFS. A STATE report on a context that is neither UNKNOWN nor under LOCAL (R89, R92, R93, R95, R96): what its end leaves, the trip
it shows, and the check of R96. -/

namespace Sys2Proof.Machine
open Sys2Proof Sys2Proof.Claims

/-! ## The stages of a STATE report -/

/-- What a STATE report does before an RF-OFF is found confirmed: the context is rebuilt, kept, or checked (R86, R96, R97). -/
def State.digestBody (n : TxId) (r : StateReport) (s : State) : State :=
  if s.keyReturns n r then ((s.noteState n r).localShown n r).localReleased n
  else if (((s.noteState n r).keySeen n r).ctx n).state = .unknown then ((s.noteState n r).keySeen n r).rebuildUnknown n r
  else if (((s.noteState n r).keySeen n r).ctx n).source = .localKey then ((s.noteState n r).keySeen n r).localState n r
  else ((s.noteState n r).keySeen n r).judgeState n r

/-- The end of a STATE report: an RF-OFF found confirmed, the RF-OFF of EMERGENCY, and the survey turn (R92, R104, R175). -/
def State.digestEnd (n : TxId) (r : StateReport) (confirms sent : Bool) (s : State) : State :=
  ((if confirms then s.rfFoundOff n r sent else s).emergencyOff n r).turnAnswered n

theorem State.digest_eq (n : TxId) (r : StateReport) (s : State) : s.digest n r =
    (s.digestBody n r).digestEnd n r ((s.ctx n).confirms r) (s.chan (.tx n .rfOff)).running := rfl

/-! ## The end of a report -/

theorem State.turnAnswered_cases (n : TxId) (s : State) : s.turnAnswered n = s ∨ s.turnAnswered n = s.setTurn n .answered := by
  unfold State.turnAnswered
  split
  exacts [.inl rfl, .inr rfl]

@[simp] theorem State.turnAnswered_ctx (n : TxId) (s : State) : (s.turnAnswered n).ctx = s.ctx := by
  rcases s.turnAnswered_cases n with same | answered
  · rw [same]
  · rw [answered]; rfl

theorem State.turnAnswered_blocks (n : TxId) (s : State) : (s.turnAnswered n).tim = s.tim ∧ (s.turnAnswered n).csq = s.csq ∧
    (s.turnAnswered n).hds = s.hds ∧ (s.turnAnswered n).clk = s.clk ∧ (s.turnAnswered n).snaps = s.snaps ∧
    (s.turnAnswered n).pins = s.pins := by
  rcases s.turnAnswered_cases n with same | answered
  · rw [same]; exact ⟨rfl, rfl, rfl, rfl, rfl, rfl⟩
  · rw [answered]; exact ⟨rfl, rfl, rfl, rfl, rfl, rfl⟩

theorem State.turnAnswered_chan (n : TxId) (s : State) (ch : ChanId) : (s.turnAnswered n).chan ch = s.chan ch := by
  rw [State.chan, (s.turnAnswered_blocks n).1]
  rfl

theorem State.emergencyOff_rests {n : TxId} {r : StateReport} {s : State} (rests : s.txs.hall ≠ .emergency ∨ r.unit ≠ .rfOn) :
    s.emergencyOff n r = s := if_neg fun h => rests.elim (fun other => other h.1) fun other => other h.2.1

/-- A report that finds RF off leaves a context that carries no RF by its state and is not TRIPPED. -/
theorem State.rfFoundOff_rests {n : TxId} {s : State} (calm : (s.ctx n).state.carries = false)
    (untripped : (s.ctx n).state ≠ .tripped) (r : StateReport) (sent : Bool) :
    s.rfFoundOff n r sent = s ∨ s.rfFoundOff n r sent = (s.stopChan (.tx n .rfOff)).endPhase n .rfOff := by
  have left : s.leaveTripped n = s := State.leaveTripped_untripped untripped
  have done : s.confirmed n r = (s.stopChan (.tx n .rfOff)).endPhase n .rfOff := by
    have stays : (s.stopChan (.tx n .rfOff)).leaveTripped n = s.stopChan (.tx n .rfOff) :=
      State.leaveTripped_untripped untripped
    simp only [State.confirmed, State.stopChan_ctx, calm, Bool.false_eq_true, if_false, stays]
  unfold State.rfFoundOff
  split
  · split
    exacts [.inr done, .inl left]
  · exact .inl rfl

/-- The end of a report that confirms nothing, or finds such a context, outside EMERGENCY: the contexts stand, and the channels but
for the one of the RF-OFF. -/
theorem State.digestEnd_rests {n : TxId} {s : State} {r : StateReport} {confirms : Bool}
    (calm : confirms = true → (s.ctx n).state.carries = false ∧ (s.ctx n).state ≠ .tripped)
    (hall : s.txs.hall ≠ .emergency ∨ r.unit ≠ .rfOn) (sent : Bool) :
    let t := s.digestEnd n r confirms sent
    t.ctx = s.ctx ∧ (∀ d, d ≠ .rfOff → d ≠ .recycle → t.chan (.tx n d) = s.chan (.tx n d)) ∧ t.hds = s.hds ∧
      t.clk = s.clk ∧ t.snaps = s.snaps ∧ t.pins = s.pins := by
  have found : ∃ u, (if confirms then s.rfFoundOff n r sent else s) = u ∧ (u = s ∨ u = (s.stopChan (.tx n .rfOff)).endPhase n .rfOff) := by
    refine ⟨_, rfl, ?_⟩
    split
    next confirmed => exact State.rfFoundOff_rests (calm confirmed).1 (calm confirmed).2 r sent
    · exact .inl rfl
  obtain ⟨u, is, cases⟩ := found
  have stands : u.ctx = s.ctx ∧ u.txs.hall = s.txs.hall ∧
      (∀ d, d ≠ .rfOff → d ≠ .recycle → u.chan (.tx n d) = s.chan (.tx n d)) ∧ u.hds = s.hds ∧ u.clk = s.clk ∧
        u.snaps = s.snaps ∧ u.pins = s.pins := by
    rcases cases with same | done
    · rw [same]; exact ⟨rfl, rfl, fun _ _ _ => rfl, rfl, rfl, rfl, rfl⟩
    · have outline := (s.stopChan (.tx n .rfOff)).endPhase_outline n .rfOff
      have still := (s.stopChan (.tx n .rfOff)).endPhase_still n .rfOff
      have txs := State.txs_of_txsAndBus ((s.stopChan (.tx n .rfOff)).endPhase_txsAndBus n .rfOff)
      rw [done]
      exact ⟨State.endPhase_ctx .., congrArg Txs.hall txs,
        fun d other work => (State.chan_of_outline outline work).trans (State.stopChan_tx_ne other n s),
        (State.hds_of_still still).trans rfl, (State.clk_of_core (congrArg Outline.core outline)).trans rfl,
        (State.snaps_of_still still).trans rfl, (State.pins_of_still still).trans rfl⟩
  obtain ⟨ctx, same, chan, hds, clk, snaps, pins⟩ := stands
  obtain ⟨-, -, hds', clk', snaps', pins'⟩ := u.turnAnswered_blocks n
  dsimp only
  rw [State.digestEnd, is, State.emergencyOff_rests (by rw [same]; exact hall)]
  exact ⟨(u.turnAnswered_ctx n).trans ctx, fun d other work => (u.turnAnswered_chan n _).trans (chan d other work),
    hds'.trans hds, clk'.trans clk, snaps'.trans snaps, pins'.trans pins⟩

/-! ## A trip shown by a STATE report (R95, R169) -/

theorem State.tripServesPlan_txs (n : TxId) (s : State) : (s.tripServesPlan n).txs = s.txs ∧ (s.tripServesPlan n).tim = s.tim := by
  unfold State.tripServesPlan
  split
  · split <;> exact ⟨rfl, rfl⟩
  · exact ⟨rfl, rfl⟩

theorem State.noteTrip_unlisted {cause : TripCause} (unlisted : cause.listed = false) (n : TxId) (s : State) :
    s.noteTrip n cause = s := by
  unfold State.noteTrip
  split
  · rw [unlisted]; rfl
  · rfl

/-- What a trip leaves of its transmitter, once its RF-OFF has left on a free line. -/
structure State.TripLeft (n : TxId) (c : Ctx) (s : State) : Prop where
  beside : (s.ctx n).beside = c.beside
  state : (s.ctx n).state = .tripped ∨ (s.ctx n).state = .faulted ∧ (s.ctx n).cause = some .recycleLimit
  rfOff : s.chan (.tx n .rfOff) = ⟨true, 5000, 5000⟩
  ramp : s.chan (.tx n .ramp) = .stopped

/-- A recycle that is counted faults at its limit, and else leaves the trip as it stands (R170). -/
theorem State.TripLeft.countRecycle {n : TxId} {c : Ctx} {s : State} (h : s.TripLeft n c) :
    (s.countRecycle n).1.TripLeft n c := by
  unfold State.countRecycle
  split
  next d _ =>
    have fresh : (s.freshWindow n d).TripLeft n c := by
      unfold State.freshWindow
      dsimp only
      split
      all_goals split
      all_goals exact ⟨h.beside, h.state, h.rfOff, h.ramp⟩
    dsimp only
    split
    · refine ⟨(State.txFault_beside ..).trans fresh.beside, .inr (State.txFault_faulted ..), ?_, ?_⟩
      · exact (State.txFault_chan (by decide) ..).trans fresh.rfOff
      · exact (State.txFault_chan (by decide) ..).trans fresh.ramp
    · exact ⟨fresh.beside, fresh.state, (State.startChan_tx_ne (by decide) n _ _).trans fresh.rfOff,
        (State.startChan_tx_ne (by decide) n _ _).trans fresh.ramp⟩
  · exact h

/-- The end of a trip without a recycle leaves the context TRIPPED while RF is not OFF (R95). -/
theorem State.TripLeft.endTrip {n : TxId} {c : Ctx} {s : State} (h : s.TripLeft n c) (on : c.rf ≠ .off) :
    (s.endTrip n).TripLeft n c := by
  have rf : (s.ctx n).rf = c.rf := (congrArg Ctx.rf h.beside :)
  have outline := s.endTrip_outline n
  obtain ⟨state, cause⟩ := Ctx.recycleEnded_carrying (c := s.ctx n) (by rw [rf]; exact on)
  refine ⟨?_, ?_, (State.chan_of_outline outline (by decide)).trans h.rfOff,
    (State.chan_of_outline outline (by decide)).trans h.ramp⟩
  · rw [State.endTrip_ctx, Ctx.recycleEnded_beside, h.beside]
  · rw [State.endTrip_ctx, state, cause]; exact h.state

/-- A trip decision on a line that is UP and free, its source not LOCAL: its RF-OFF leaves (R95, R169). -/
theorem State.tripDecision_left {n : TxId} {s : State} (served : served n s) (remote : (s.ctx n).source ≠ .localKey)
    (free : (s.ctx n).outstanding = none) (next : (s.ctx n).deferred = none) :
    (s.tripDecision n .overload none).TripLeft n ((s.ctx n).sent s.now .rfp .rfOff) := by
  have line : s.rfOffOnLine n = false := by simp [State.rfOffOnLine, free, next]
  let u := s.sendNow n .rfp .rfOff
  have off : s.askOrder n .rfp .rfOff = u :=
    State.askOrder_sends served.1 served.2 (State.orderBar_rfOff (.inl remote)) free nofun
  let v := ((u.stopRamp n).toState n .tripped).tripServesPlan n
  have trips : s.tripAtTxs n = v := by
    rw [State.tripAtTxs, if_neg (by rw [line]; exact fun h => Bool.false_ne_true h.2), off]
  have left : v.TripLeft n ((s.ctx n).sent s.now .rfp .rfOff) := by
    obtain ⟨txs, tim⟩ := ((u.stopRamp n).toState n .tripped).tripServesPlan_txs n
    have ctx : v.ctx n = ({ u.ctx n with ramp := none } : Ctx).moved .tripped := by
      rw [← State.stopRamp_ctx, ← State.toState_ctx]
      exact congrFun (State.ctx_of_txs txs) n
    have chan (ch : ChanId) : v.chan ch = (u.stopRamp n).chan ch := congrArg (fun t => t.get ch) tim
    refine ⟨?_, .inl ?_, ?_, ?_⟩
    · rw [ctx, Ctx.moved_beside, State.sendNow_ctx]; rfl
    · rw [ctx, Ctx.moved_state]
    · rw [chan, State.stopRamp_tx_ne (by decide)]; exact (s.sendNow_rfOff_chans n .rfp).2
    · rw [chan]; exact State.stopRamp_ramp n u
  have masked : (v.updProt n fun p => { p with count := 0, fwdSum := 0, reflSum := 0, mask := true }).TripLeft n
      ((s.ctx n).sent s.now .rfp .rfOff) := ⟨left.beside, left.state, left.rfOff, left.ramp⟩
  have posted {t : State} {c : Ctx} (h : t.TripLeft n c) (nt : Notice) : (t.post nt).TripLeft n c :=
    ⟨h.beside, h.state, h.rfOff, h.ramp⟩
  unfold State.tripDecision
  rw [trips]
  dsimp only
  rw [State.noteTrip_unlisted rfl]
  refine posted ?_ _
  split
  · exact masked.countRecycle
  · exact masked.endTrip (show Rf.unsure ≠ .off by decide)

/-! ## The check of R96 -/

/-- A context that has noted a STATE report (R34, R80, R81). -/
def Ctx.noted (r : StateReport) (c : Ctx) : Ctx :=
  { c with rf := c.rfBy r, last := some r, unshown := c.unshown.filter fun o => !o.shownBy r }

theorem State.noteState_ctx (n : TxId) (r : StateReport) (s : State) : (s.noteState n r).ctx n = (s.ctx n).noted r :=
  State.updCtx_ctx n _ s

theorem Ctx.explains_iff (c : Ctx) (u : UnitState) : c.explains u = true ↔ explainedBy c u := by
  unfold Ctx.explains explainedBy
  cases c.state <;> simp [or_assoc]

theorem Ctx.rfOnInHand_iff (c : Ctx) : c.rfOnInHand = true ↔ rfOnOn c := by
  unfold Ctx.rfOnInHand rfOnOn
  rw [Bool.or_eq_true]
  refine or_congr ?_ ?_
  · cases c.outstanding with
    | none => simp
    | some o => cases order : o.order <;> simp [order]
  · cases c.deferred with
    | none => simp
    | some d => cases order : d.order <;> simp [order]

theorem Ctx.confirms_iff (c : Ctx) (r : StateReport) :
    c.confirms r = true ↔ r.unit ≠ .rfOn ∧ r.rfOffConfirmed = true ∧ ¬ rfOnOn c := by
  simp [Ctx.confirms, ← Ctx.rfOnInHand_iff, and_assoc]

/-- A report at REMOTE on a context neither UNKNOWN nor under LOCAL is judged. -/
theorem State.digestBody_judges {n : TxId} {r : StateReport} {s : State} (remote : r.keyLocal = false)
    (source : (s.ctx n).source ≠ .localKey) (known : (s.ctx n).state ≠ .unknown) :
    s.digestBody n r = (s.noteState n r).judgeState n r := by
  have kept : s.keyReturns n r = false := by simp [State.keyReturns, source]
  have same : (s.noteState n r).keySeen n r = s.noteState n r := by
    simp [State.keySeen, remote, State.noteState_ctx, Ctx.noted, source]
  simp [State.digestBody, kept, same, State.noteState_ctx, Ctx.noted, source, known]

theorem State.judgeState_checks {n : TxId} {r : StateReport} {s : State} (whole : (s.ctx n).state ≠ .faulted)
    (sound : r.unit ≠ .fault) (live : (s.ctx n).state.carries = true → r.unit ≠ .tripped) :
    s.judgeState n r = s.checkState n r := by
  unfold State.judgeState
  dsimp only
  rw [if_neg whole]
  split
  next fault => exact absurd fault sound
  next trip =>
    rw [if_neg fun carries => live carries trip]
  · rfl

/-- What an explained report writes before the context moves (R93, R96). -/
def Ctx.explainedAs (r : StateReport) (c : Ctx) : Ctx :=
  { c with
    tuned := match r.freq with
      | some f => some f
      | none => c.tuned
    rfShown := c.rfShown || decide (r.unit = .rfOn) }

section Explained
variable {n : TxId} {r : StateReport} {s : State}

/-- WARMING: the warm-up ends at a STANDBY, or the report that was awaited faults it (R89). -/
theorem State.explained_warming (warming : (s.ctx n).state = .warming) :
    ((s.ctx n).warmWait = .timed → ((s.explained n r).ctx n).state = .warming) ∧
      ((s.ctx n).warmWait = .untilStandby →
        ((s.explained n r).ctx n).state = if r.unit = .standby then .standby else .warming) ∧
      ((s.ctx n).warmWait = .nextReport → (r.unit = .standby → ((s.explained n r).ctx n).state = .standby) ∧
        (r.unit ≠ .standby → ((s.explained n r).ctx n).state = .faulted ∧ ((s.explained n r).ctx n).cause = some .warm)) := by
  have ended (t : State) : ((t.warmed n).ctx n).state = .standby := by rw [State.warmed_ctx, Ctx.moved_state]
  simp only [State.explained, State.updCtx_ctx, warming]
  refine ⟨fun wait => ?_, fun wait => ?_, fun wait => ⟨fun standby => ?_, fun other => ?_⟩⟩ <;> simp only [wait]
  · rw [State.updCtx_ctx]; exact warming
  · split
    · exact ended _
    · rw [State.updCtx_ctx]; exact warming
  · rw [if_pos standby]; exact ended _
  · rw [if_neg other]; exact State.txFault_faulted ..

/-- A unit found DARK in STANDBY or READY (R93). -/
theorem State.explained_dark (state : (s.ctx n).state = .standby ∨ (s.ctx n).state = .ready) (dark : r.unit = .dark) :
    ((s.explained n r).ctx n).state = .dark ∧ ((s.explained n r).ctx n).tuned = none := by
  rcases state with state | state <;> simp [State.explained, state, dark]

theorem State.explained_stands (state : (s.ctx n).state ≠ .warming) (still : (s.ctx n).state ≠ .standby ∨ r.unit ≠ .dark)
    (ready : (s.ctx n).state ≠ .ready ∨ r.unit ≠ .dark) : s.explained n r = s.updCtx n (Ctx.explainedAs r) := by
  simp only [State.explained, State.updCtx_ctx]
  split
  next warming => exact absurd warming state
  next standby => rw [if_neg (still.resolve_left fun h => h standby)]; rfl
  next found => rw [if_neg (ready.resolve_left fun h => h found)]; rfl
  · rfl

end Explained

/-! ## RF found off (R92, R95) -/

/-- Whatever RF found off moves, the tuned frequency of a context that carries no RF by its state stands. -/
theorem State.rfFoundOff_tuned {n : TxId} {r : StateReport} {s : State} (calm : (s.ctx n).state.carries = false) (sent : Bool) :
    ((s.rfFoundOff n r sent).ctx n).tuned = (s.ctx n).tuned := by
  have left (t : State) : ((t.leaveTripped n).ctx n).tuned = (t.ctx n).tuned := by
    rcases t.leaveTripped_cases n with same | moved
    · rw [same]
    · rw [moved, State.toState_ctx]
      exact (congrArg Ctx.tuned (Ctx.moved_beside (offState (t.ctx n).last) (t.ctx n)) :)
  unfold State.rfFoundOff
  split
  · split
    · simp only [State.confirmed, State.stopChan_ctx, calm, Bool.false_eq_true, if_false, State.endPhase_ctx]
      exact left _
    · exact left s
  · rfl

/-- An RF-OFF found confirmed while the context carries RF by its state makes it READY or STANDBY (R92). -/
theorem State.rfFoundOff_carrying {n : TxId} {r : StateReport} {s : State} (carries : (s.ctx n).state.carries = true)
    (off : (s.ctx n).rf = .off) : ((s.rfFoundOff n r true).ctx n).rf = .off ∧
      ((s.rfFoundOff n r true).ctx n).state = (if r.unit = .tuned then .ready else .standby) ∧
      (s.rfFoundOff n r true).chan (.tx n .rfOff) = .stopped := by
  have rf (st : CtxState) : ((s.ctx n).moved st).rf = .off := (congrArg Ctx.rf (Ctx.moved_beside st (s.ctx n)) :).trans off
  have stopped : (s.stopChan (.tx n .rfOff)).chan (.tx n .rfOff) = .stopped := State.stopChan_chan ..
  simp only [State.rfFoundOff, off, if_true, State.confirmed, State.stopChan_ctx, carries, State.endPhase_ctx]
  rw [State.chan_of_outline (State.endPhase_outline ..) (by decide)]
  split
  · refine ⟨?_, ?_, stopped⟩ <;> simp [rf]
  · refine ⟨?_, ?_, stopped⟩ <;> simp [rf]

/-! ## The hall beside a check -/

theorem State.endPhase_hallAndBus (n : TxId) (ph : Phase) (s : State) : (s.endPhase n ph).hallAndBus = s.hallAndBus :=
  State.Settles.hallAndBus (.same (.refl s) (s.endPhase_txsAndBus n ph))

theorem State.txFault_hallAndBus (n : TxId) (f : FaultCause) (u : Option Nat) (s : State) :
    (s.txFault n f u).hallAndBus = s.hallAndBus := (s.txFault_settles n f u).hallAndBus

theorem State.faultActions_hallAndBus (n : TxId) (f : FaultCause) (s : State) : (s.faultActions n f).hallAndBus = s.hallAndBus := by
  have asked : (s.rfOffUnlessOff n .fault).hallAndBus = s.hallAndBus := by
    unfold State.rfOffUnlessOff
    split
    exacts [rfl, State.askOrder_hallAndBus ..]
  have stopped (t : State) : (t.stopWork n).hallAndBus = t.hallAndBus := rfl
  exact (State.txFault_hallAndBus ..).trans ((stopped _).trans asked)

theorem State.checkState_hallAndBus (n : TxId) (r : StateReport) (s : State) : (s.checkState n r).hallAndBus = s.hallAndBus := by
  have moved (st : CtxState) (t : State) : (t.toState n st).hallAndBus = t.hallAndBus := rfl
  have warmed (t : State) : (t.warmed n).hallAndBus = t.hallAndBus := (State.endPhase_hallAndBus ..).trans (moved _ t)
  unfold State.checkState
  split
  · unfold State.explained
    extract_lets t c
    have noted : t.hallAndBus = s.hallAndBus := State.updCtx_hallAndBus ..
    rw [← noted]
    split
    · split
      · rfl
      · split
        exacts [warmed t, rfl]
      · split
        exacts [warmed t, State.txFault_hallAndBus ..]
    · split
      exacts [(State.updCtx_hallAndBus ..).trans (moved _ t), rfl]
    · split
      exacts [(State.updCtx_hallAndBus ..).trans (moved _ t), rfl]
    · rfl
  · exact State.faultActions_hallAndBus ..

theorem State.rfFoundOff_hallAndBus (n : TxId) (r : StateReport) (sent : Bool) (s : State) :
    (s.rfFoundOff n r sent).hallAndBus = s.hallAndBus := by
  have moved (st : CtxState) (t : State) : (t.toState n st).hallAndBus = t.hallAndBus := rfl
  have stopped : (s.stopChan (.tx n .rfOff)).hallAndBus = s.hallAndBus := rfl
  have left (t : State) : (t.leaveTripped n).hallAndBus = t.hallAndBus := by
    rcases t.leaveTripped_cases n with same | moves
    · rw [same]
    · rw [moves]; exact moved _ t
  unfold State.rfFoundOff State.confirmed
  split
  · split
    · dsimp only
      rw [State.endPhase_hallAndBus]
      split
      · split
        exacts [(State.updCtx_hallAndBus ..).trans ((moved _ _).trans stopped), (moved _ _).trans stopped]
      · exact (left _).trans stopped
    · exact left s
  · rfl

theorem State.digest_last {n : TxId} (r : StateReport) (s : State) : ((s.digest n r).ctx n).last = some r := by
  have lines : ((s.digest n r).ctx n).last = ((s.noteState n r).ctx n).last :=
    congrArg (fun v : LineView => v.last n) (s.digest_lines n r)
  rw [lines, State.noteState_ctx]
  rfl

end Sys2Proof.Machine

namespace Sys2Proof.Proofs
open Sys2Proof Sys2Proof.Machine Sys2Proof.Claims

theorem carries_iff (st : CtxState) : st.carries = true ↔ st = .rampingUp ∨ st = .onAir ∨ st = .rampingDown := by
  cases st <;> simp [CtxState.carries]

/-- A STATE report on a served line is digested with the silence channel retriggered. -/
theorem exec_state_digested {s : State} {n : TxId} (served : served n s) (r : StateReport) :
    exec (.state n r) s = .next ((s.retrigger (.tx n .silence)).digest n r) := congrArg _ (State.report_served served ..)

theorem retrigger_served {s : State} {n : TxId} (served : served n s) : Claims.served n (s.retrigger (.tx n .silence)) :=
  ⟨(congrFun (State.txDefined_congr (State.retrigger_blocks ..).1) n).trans served.1,
    by rw [State.retrigger_ctx]; exact served.2⟩

/-- A report that shows a trip of a carrying transmitter sends RF-OFF (R95). -/
theorem digest_trips {s : State} {n : TxId} {r : StateReport} (served : served n s) (remote : r.keyLocal = false)
    (source : (s.ctx n).source ≠ .localKey) (carries : (s.ctx n).state.carries = true) (unseen : (s.ctx n).tripSeen = false)
    (free : (s.ctx n).outstanding = none) (next : (s.ctx n).deferred = none) (trip : r.unit = .tripped) :
    (s.digest n r).TripLeft n (((s.ctx n).noted r).sent s.now .rfp .rfOff) := by
  let u := s.noteState n r
  have ctx : u.ctx n = (s.ctx n).noted r := State.noteState_ctx ..
  have known : (s.ctx n).state ≠ .unknown := by rintro unknown; rw [unknown] at carries; cases carries
  have whole : (u.ctx n).state ≠ .faulted := by rw [ctx]; rintro (faulted : (s.ctx n).state = _); rw [faulted] at carries; cases carries
  have body : s.digestBody n r = u.tripDecision n .overload none := by
    have carried : (u.ctx n).state.carries = true := by rw [ctx]; exact carries
    have fresh : (u.ctx n).tripSeen = false := by rw [ctx]; exact unseen
    have source' : (u.ctx n).source ≠ .localKey := by rw [ctx]; exact source
    rw [State.digestBody_judges remote source known]
    change u.judgeState n r = _
    simp [State.judgeState, State.unitTrip, whole, trip, carried, fresh, source']
  have left := State.tripDecision_left (s := u) (n := n) ⟨served.1, by rw [ctx]; exact served.2⟩
    (by rw [ctx]; exact source) (by rw [ctx]; exact free) (by rw [ctx]; exact next)
  rw [← body, ctx] at left
  have on : ((s.digestBody n r).ctx n).rf ≠ .off := by
    have unsure : ((s.digestBody n r).ctx n).rf = .unsure := (congrArg Ctx.rf left.beside :)
    rw [unsure]; decide
  have ends : s.digest n r = (s.digestBody n r).turnAnswered n := by
    rw [State.digest_eq, State.digestEnd, State.rfFoundOff, if_neg on, ite_self,
      State.emergencyOff_rests (.inr (by rw [trip]; decide))]
  rw [ends]
  refine ⟨?_, ?_, ?_, ?_⟩
  · rw [State.turnAnswered_ctx]; exact left.beside
  · rw [State.turnAnswered_ctx]; exact left.state
  · rw [State.turnAnswered_chan]; exact left.rfOff
  · rw [State.turnAnswered_chan]; exact left.ramp

theorem noteState_explains {s : State} {n : TxId} {r : StateReport}
    (passes : (s.ctx n).awaitsReport = true ∨ explainedBy (s.ctx n) r.unit) :
    (s.noteState n r).checkState n r = (s.noteState n r).explained n r := by
  refine if_pos ?_
  rw [Bool.or_eq_true, State.noteState_ctx]
  exact passes.imp_right fun explained => ((s.ctx n).explains_iff r.unit).mpr explained

section Checked
variable {s : State} {n : TxId} {r : StateReport} (remote : r.keyLocal = false) (source : (s.ctx n).source ≠ .localKey)
  (known : (s.ctx n).state ≠ .unknown) (whole : (s.ctx n).state ≠ .faulted) (sound : r.unit ≠ .fault)
  (live : (s.ctx n).state.carries = true → r.unit ≠ .tripped) (hall : s.txs.hall ≠ .emergency)
include remote source known whole sound live

/-- Such a report is checked against the context that has noted it. -/
theorem digestBody_checks : s.digestBody n r = (s.noteState n r).checkState n r := by
  rw [State.digestBody_judges remote source known,
    State.judgeState_checks (by rw [State.noteState_ctx]; exact whole) sound (by rw [State.noteState_ctx]; exact live)]

/-- A report explained by a context that it does not move. -/
theorem digestBody_explained (state : (s.ctx n).state = .tripped ∨ (s.ctx n).state.carries = true)
    (explained : explainedBy (s.ctx n) r.unit) :
    (s.digestBody n r).ctx n = ((s.ctx n).noted r).explainedAs r := by
  have stands : (s.noteState n r).explained n r = (s.noteState n r).updCtx n (Ctx.explainedAs r) := by
    refine State.explained_stands ?_ (.inl ?_) (.inl ?_) <;> rw [State.noteState_ctx]
    all_goals rintro (here : (s.ctx n).state = _); rw [here] at state; rcases state with h | h <;> cases h
  rw [digestBody_checks remote source known whole sound live, noteState_explains (.inr explained), stands, State.updCtx_ctx,
    State.noteState_ctx]

include hall

theorem digestBody_hall : (s.digestBody n r).txs.hall ≠ .emergency := by
  rw [digestBody_checks remote source known whole sound live,
    (State.of_hallAndBus (State.checkState_hallAndBus n r (s.noteState n r))).1]
  exact hall

/-- The check leaves its context as it is where RF found off can move nothing. -/
theorem digest_calm (calm : (((s.noteState n r).checkState n r).ctx n).state.carries = false)
    (untripped : (((s.noteState n r).checkState n r).ctx n).state ≠ .tripped) :
    (s.digest n r).ctx n = ((s.noteState n r).checkState n r).ctx n := by
  have hall := digestBody_hall remote source known whole sound live hall
  have body := digestBody_checks remote source known whole sound live
  rw [State.digest_eq]
  rw [body] at hall ⊢
  exact congrFun (State.digestEnd_rests (fun _ => ⟨calm, untripped⟩) (.inl hall) _).1 n

/-- A report the check passes: the context that has noted it is the explained one, where RF found off can move nothing (R96). -/
theorem digest_passes (passes : (s.ctx n).awaitsReport = true ∨ explainedBy (s.ctx n) r.unit)
    (calm : (((s.noteState n r).explained n r).ctx n).state.carries = false)
    (untripped : (((s.noteState n r).explained n r).ctx n).state ≠ .tripped) :
    (s.digest n r).ctx n = ((s.noteState n r).explained n r).ctx n := by
  have checks := noteState_explains (s := s) passes
  rw [← checks] at calm untripped ⊢
  exact digest_calm remote source known whole sound live hall calm untripped

/-- A report the context cannot explain (R96). -/
theorem digest_unexplained (ready : (s.ctx n).awaitsReport = false) (alien : ¬ explainedBy (s.ctx n) r.unit) :
    ((s.digest n r).ctx n).state = .faulted ∧ ((s.digest n r).ctx n).cause = some .mismatch := by
  have fails : (s.noteState n r).checkState n r = (s.noteState n r).faultActions n .mismatch := by
    refine if_neg ?_
    rw [State.noteState_ctx, Bool.or_eq_true, not_or]
    exact ⟨fun waits => Bool.false_ne_true (ready.symm.trans waits), fun explains => alien (((s.ctx n).explains_iff r.unit).mp explains)⟩
  obtain ⟨state, cause⟩ := State.faultActions_faulted n .mismatch (s.noteState n r)
  rw [← fails] at state cause
  rw [digest_calm remote source known whole sound live hall (by rw [state]; rfl) (by rw [state]; decide)]
  exact ⟨state, cause⟩

/-- A report in WARMING (R89). -/
theorem digest_warming (warming : (s.ctx n).state = .warming) (passes : (s.ctx n).awaitsReport = true ∨ explainedBy (s.ctx n) r.unit) :
    ((s.ctx n).warmWait = .timed → ((s.digest n r).ctx n).state = .warming) ∧
      ((s.ctx n).warmWait = .untilStandby →
        ((s.digest n r).ctx n).state = if r.unit = .standby then .standby else .warming) ∧
      ((s.ctx n).warmWait = .nextReport → (r.unit = .standby → ((s.digest n r).ctx n).state = .standby) ∧
        (r.unit ≠ .standby → ((s.digest n r).ctx n).state = .faulted ∧ ((s.digest n r).ctx n).cause = some .warm)) := by
  have cases := State.explained_warming (s := s.noteState n r) (r := r) (n := n) (by rw [State.noteState_ctx]; exact warming)
  have wait : ((s.noteState n r).ctx n).warmWait = (s.ctx n).warmWait := by rw [State.noteState_ctx]; rfl
  rw [wait] at cases
  obtain ⟨timed, until', next⟩ := cases
  have ends : (((s.noteState n r).explained n r).ctx n).state = .warming ∨
      (((s.noteState n r).explained n r).ctx n).state = .standby ∨
      (((s.noteState n r).explained n r).ctx n).state = .faulted := by
    cases kind : (s.ctx n).warmWait with
    | timed => exact .inl (timed kind)
    | untilStandby =>
      rw [until' kind]
      split
      exacts [.inr (.inl rfl), .inl rfl]
    | nextReport =>
      by_cases standby : r.unit = .standby
      · exact .inr (.inl ((next kind).1 standby))
      · exact .inr (.inr ((next kind).2 standby).1)
  rw [digest_passes remote source known whole sound live hall passes
    (by rcases ends with h | h | h <;> rw [h] <;> rfl) (by rcases ends with h | h | h <;> rw [h] <;> decide)]
  exact ⟨timed, until', next⟩

/-- A unit found DARK in STANDBY or READY (R93). -/
theorem digest_dark (state : (s.ctx n).state = .standby ∨ (s.ctx n).state = .ready) (dark : r.unit = .dark)
    (explained : explainedBy (s.ctx n) r.unit) : ((s.digest n r).ctx n).state = .dark ∧ ((s.digest n r).ctx n).tuned = none := by
  have found := State.explained_dark (s := s.noteState n r) (by rw [State.noteState_ctx]; exact state) dark
  rw [digest_passes remote source known whole sound live hall (.inr explained) (by rw [found.1]; rfl)
    (by rw [found.1]; decide)]
  exact found

/-- A frequency carried in TRIPPED is taken (R96). -/
theorem digest_tripped {f : Nat} (tripped : (s.ctx n).state = .tripped) (freq : r.freq = some f)
    (explained : explainedBy (s.ctx n) r.unit) : ((s.digest n r).ctx n).tuned = some f := by
  have body := digestBody_explained remote source known whole sound live (.inl tripped) explained
  have hall := digestBody_hall remote source known whole sound live hall
  have calm : ((s.digestBody n r).ctx n).state.carries = false := by
    rw [body]
    show (s.ctx n).state.carries = false
    rw [tripped]; rfl
  have tuned : ((s.digestBody n r).ctx n).tuned = some f := by rw [body]; simp [Ctx.explainedAs, freq]
  have keeps := State.rfFoundOff_tuned (r := r) calm (s.chan (.tx n .rfOff)).running
  have spared : ((if (s.ctx n).confirms r then (s.digestBody n r).rfFoundOff n r (s.chan (.tx n .rfOff)).running
      else s.digestBody n r).emergencyOff n r).ctx n = (if (s.ctx n).confirms r then
        (s.digestBody n r).rfFoundOff n r (s.chan (.tx n .rfOff)).running else s.digestBody n r).ctx n := by
    rw [State.emergencyOff_rests (.inl ?_)]
    split
    · rw [(State.of_hallAndBus (State.rfFoundOff_hallAndBus n r _ (s.digestBody n r))).1]; exact hall
    · exact hall
  rw [State.digest_eq, State.digestEnd, State.turnAnswered_ctx, spared]
  split
  exacts [keeps.trans tuned, tuned]

/-- A report on a context that carries RF by its state (R92, R93). -/
theorem digest_carrying (carries : (s.ctx n).state.carries = true) (explained : explainedBy (s.ctx n) r.unit) :
    (r.unit = .rfOn → ((s.digest n r).ctx n).state = (s.ctx n).state ∧ ((s.digest n r).ctx n).rf = .on ∧
      ∀ f, r.freq = some f → ((s.digest n r).ctx n).tuned = some f) ∧
    (r.unit ≠ .rfOn → r.rfOffConfirmed = true → ¬ rfOnOn (s.ctx n) → (s.chan (.tx n .rfOff)).running = true →
      ((s.digest n r).ctx n).rf = .off ∧ ((s.digest n r).ctx n).state = (if r.unit = .tuned then .ready else .standby) ∧
      ((s.digest n r).chan (.tx n .rfOff)).running = false) := by
  have body := digestBody_explained remote source known whole sound live (.inr carries) explained
  have hall := digestBody_hall remote source known whole sound live hall
  refine ⟨fun on => ?_, fun off flag alone runs => ?_⟩
  · have silent : (s.ctx n).confirms r = false := by
      rw [← Bool.not_eq_true, Ctx.confirms_iff]
      exact fun h => h.1 on
    rw [State.digest_eq, State.digestEnd, silent, if_neg Bool.false_ne_true, State.emergencyOff_rests (.inl hall),
      State.turnAnswered_ctx, body]
    exact ⟨rfl, if_pos on, fun f freq => by simp [Ctx.explainedAs, freq]⟩
  · have confirms : (s.ctx n).confirms r = true := (Ctx.confirms_iff ..).mpr ⟨off, flag, alone⟩
    have rf : ((s.digestBody n r).ctx n).rf = .off := by
      rw [body]
      exact (if_neg off).trans (if_pos confirms)
    have found := State.rfFoundOff_carrying (r := r) (s := s.digestBody n r) (by rw [body]; exact carries) rf
    have clear : ((s.digestBody n r).rfFoundOff n r true).txs.hall ≠ .emergency := by
      rw [(State.of_hallAndBus (State.rfFoundOff_hallAndBus n r true (s.digestBody n r))).1]; exact hall
    rw [State.digest_eq, State.digestEnd, confirms, if_pos rfl, runs, State.emergencyOff_rests (.inl clear),
      State.turnAnswered_ctx, State.turnAnswered_chan, found.2.2]
    exact ⟨found.1, found.2.1, rfl⟩

end Checked

/-- Settles O29: the trip by `digest_trips`, and the check by the cases of the context (`digest_warming` to `digest_carrying`). -/
theorem stateReportIsCheckedAgainstTheContext : Obligations.StateReportIsCheckedAgainstTheContext := by
  refine ⟨fun s n r line remote source carries unseen free next trip => ?_, fun s n r line remote hall => ?_⟩
  · have ctx := congrFun (s.retrigger_ctx (.tx n .silence)) n
    have left := digest_trips (retrigger_served line) remote (by rw [ctx]; exact source)
      (by rw [ctx]; exact (carries_iff _).mpr carries) (by rw [ctx]; exact unseen) (by rw [ctx]; exact free)
      (by rw [ctx]; exact next) trip
    have sent : ∃ o, (((s.retrigger (.tx n .silence)).digest n r).ctx n).outstanding = some o ∧ o.order = .rfOff :=
      ⟨_, (congrArg Ctx.outstanding left.beside :), rfl⟩
    exact ⟨_, exec_state_digested line r, State.digest_last .., (congrArg Ctx.rf left.beside :), sent, left.rfOff,
      by rw [left.ramp]; rfl, left.state⟩
  · dsimp only
    intro source known whole sound live
    have ctx := congrFun (s.retrigger_ctx (.tx n .silence)) n
    have chan := s.retrigger_chan (d := .rfOff) (by decide) n
    have clear : (s.retrigger (.tx n .silence)).txs.hall ≠ .emergency := by rw [State.retrigger_txs]; exact hall
    have go := exec_state_digested line r
    rw [← ctx] at source known whole live ⊢
    rw [← chan]
    rw [← carries_iff] at live ⊢
    generalize s.retrigger (.tx n .silence) = u at *
    have awaits : (u.ctx n).awaitsReport = true ↔ (u.ctx n).state = .warming ∧ (u.ctx n).warmWait = .nextReport := by
      simp [Ctx.awaitsReport]
    refine ⟨_, go, State.digest_last .., fun waits => ?_, fun ready alien => ?_, fun explained => ⟨fun state dark => ?_,
      fun f tripped freq => ?_, fun carries => ?_, fun warming => ?_⟩⟩
    · exact (digest_warming remote source known whole sound live clear waits.1 (.inl (awaits.mpr waits))).2.2 waits.2
    · exact digest_unexplained remote source known whole sound live clear
        (by rw [← Bool.not_eq_true, awaits]; exact ready) alien
    · exact digest_dark remote source known whole sound live clear state dark explained
    · exact digest_tripped remote source known whole sound live clear tripped freq explained
    · exact digest_carrying remote source known whole sound live clear carries explained
    · obtain ⟨timed, until', -⟩ := digest_warming remote source known whole sound live clear warming (.inr explained)
      exact ⟨timed, until'⟩

end Sys2Proof.Proofs
end

section
/-! PROOFS. A STATE report on an UNKNOWN context, and the key it shows (R81, R86, R94, R97). -/

namespace Sys2Proof.Machine
open Sys2Proof Sys2Proof.Claims

/-! ## The table of R86 -/

theorem State.rebuildTo_ctx (n : TxId) (st : CtxState) (s : State) : (s.rebuildTo n st).ctx n = (s.ctx n).moved st := by
  unfold State.rebuildTo
  split
  next same => rw [Ctx.moved_same same]
  · rw [State.toState_ctx]; rfl

theorem State.rebuildTo_ctx_ne {n m : TxId} (h : m ≠ n) (st : CtxState) (s : State) : (s.rebuildTo n st).ctx m = s.ctx m := by
  unfold State.rebuildTo
  split
  · rfl
  · rw [State.toState_ctx_ne h]; rfl

theorem State.rebuildTo_swb (n : TxId) (st : CtxState) (s : State) : (s.rebuildTo n st).swb = s.swb ∧
    (s.rebuildTo n st).txs.hall = s.txs.hall := by
  unfold State.rebuildTo; split <;> exact ⟨rfl, rfl⟩

/-- A context that takes another state has its warm-up and tune channels stopped. -/
theorem State.rebuildTo_chans {n : TxId} {st : CtxState} {s : State} (other : (s.ctx n).state ≠ st) :
    (s.rebuildTo n st).chan (.tx n .warmUp) = .stopped ∧ (s.rebuildTo n st).chan (.tx n .tune) = .stopped := by
  rw [State.rebuildTo, if_neg other, State.toState_chan, State.toState_chan]
  exact ⟨(State.stopChan_tx_ne (d := .warmUp) (by decide) n _).trans (State.stopChan_chan (.tx n .warmUp) s),
    State.stopChan_chan (.tx n .tune) _⟩

/-- What no rebuild writes of a context. -/
def Ctx.besideRebuild (c : Ctx) : Ctx :=
  { c.beside with tuned := none, tap := none, drive := 0, warmWait := .timed, tuneFreq := none }

theorem Ctx.besideRebuild_of_beside {c d : Ctx} (h : c.beside = d.beside) : c.besideRebuild = d.besideRebuild :=
  congrArg (fun x : Ctx => { x with tuned := none, tap := none, drive := 0, warmWait := .timed, tuneFreq := none }) h

theorem Ctx.of_besideRebuild {c d : Ctx} (h : c.besideRebuild = d.besideRebuild) :
    c.rf = d.rf ∧ c.source = d.source ∧ c.stored = d.stored ∧ c.trim = d.trim ∧ c.last = d.last ∧ c.lineUp = d.lineUp ∧
      c.deferred = d.deferred :=
  ⟨(congrArg Ctx.rf h :), (congrArg Ctx.source h :), (congrArg Ctx.stored h :), (congrArg Ctx.trim h :),
    (congrArg Ctx.last h :), (congrArg Ctx.lineUp h :), (congrArg Ctx.deferred h :)⟩

/-- What a rebuild leaves alone. -/
theorem State.rebuild_keeps (n : TxId) (r : StateReport) (s : State) :
    ((s.rebuild n r).ctx n).besideRebuild = (s.ctx n).besideRebuild ∧ (∀ m, m ≠ n → (s.rebuild n r).ctx m = s.ctx m) ∧
      (s.rebuild n r).swb = s.swb ∧ (s.rebuild n r).txs.hall = s.txs.hall := by
  have written {f : Ctx → Ctx} (keeps : ∀ c, (f c).besideRebuild = c.besideRebuild) {st : CtxState} {t : State}
      (ctx : t.ctx = (s.rebuildTo n st).ctx) (swb : t.swb = (s.rebuildTo n st).swb)
      (hall : t.txs.hall = (s.rebuildTo n st).txs.hall) : ((t.updCtx n f).ctx n).besideRebuild = (s.ctx n).besideRebuild ∧
        (∀ m, m ≠ n → (t.updCtx n f).ctx m = s.ctx m) ∧ (t.updCtx n f).swb = s.swb ∧ (t.updCtx n f).txs.hall = s.txs.hall := by
    obtain ⟨swb', hall'⟩ := s.rebuildTo_swb n st
    refine ⟨?_, fun m other => ?_, swb.trans swb', hall.trans hall'⟩
    · rw [State.updCtx_ctx, keeps, ctx, State.rebuildTo_ctx]
      exact Ctx.besideRebuild_of_beside (Ctx.moved_beside ..)
    · rw [State.updCtx_ctx_ne n m other, ctx, State.rebuildTo_ctx_ne other]
  cases unit : r.unit <;> simp only [State.rebuild, unit]
  case warming =>
    split
    · split
      exacts [written (by intro; rfl) rfl rfl rfl, written (by intro; rfl) rfl rfl rfl]
    · exact ⟨rfl, fun _ _ => rfl, rfl, rfl⟩
  case tuning =>
    split
    exacts [written (by intro; rfl) rfl rfl rfl, ⟨rfl, fun _ _ => rfl, rfl, rfl⟩]
  case tripped =>
    split
    · exact written (by intro; rfl) rfl rfl rfl
    · exact ⟨by rw [State.rebuildTo_ctx]; exact Ctx.besideRebuild_of_beside (Ctx.moved_beside ..),
        fun m other => State.rebuildTo_ctx_ne other .., s.rebuildTo_swb n _⟩
  case fault =>
    refine ⟨?_, fun m other => ?_, rfl, rfl⟩
    · rw [State.toFaulted_ctx, State.stopWork_ctx]
      exact Ctx.besideRebuild_of_beside (Ctx.moved_beside .faulted { s.ctx n with ramp := none })
    · rw [State.toFaulted, State.updCtx_ctx_ne n m other, State.toState_ctx_ne other, State.stopWork, State.stopRamp_ctx_ne other]
      rfl
  all_goals exact written (by intro; rfl) rfl rfl rfl

section Table
variable {n : TxId} {r : StateReport} {s : State} {d : TxDef}

theorem State.rebuild_tuned_gone (unit : r.unit = .dark ∨ r.unit = .standby) : ((s.rebuild n r).ctx n).tuned = none := by
  rcases unit with unit | unit <;> simp only [State.rebuild, unit, State.updCtx_ctx]

theorem State.rebuild_tuned (unit : r.unit = .tuned) : ((s.rebuild n r).ctx n).tuned = r.freq := by
  simp only [State.rebuild, unit, State.updCtx_ctx]

theorem State.rebuild_rfOn (unit : r.unit = .rfOn) : ((s.rebuild n r).ctx n).tap = some r.tap ∧
    ((s.rebuild n r).ctx n).drive = r.drive ∧ ∀ f, r.freq = some f → ((s.rebuild n r).ctx n).tuned = some f := by
  simp only [State.rebuild, unit, State.updCtx_ctx]
  exact ⟨trivial, trivial, fun f freq => by rw [freq]⟩

theorem State.rebuild_warmUp (unit : r.unit = .warming) (defined : s.txDef n = some d) (other : (s.ctx n).state ≠ .warming) :
    (s.rebuild n r).chan (.tx n .warmUp) = if d.warmUp = 0 then .stopped else ⟨true, d.warmUp * 1000, d.warmUp * 1000⟩ := by
  simp only [State.rebuild, unit, defined]
  split
  · exact (State.rebuildTo_chans other).1
  · exact State.setChan_chan (.tx n .warmUp) _ _

theorem State.rebuild_tune (unit : r.unit = .tuning) (defined : s.txDef n = some d) :
    (s.rebuild n r).chan (.tx n .tune) = ⟨true, d.tuneTimeout * 1000, d.tuneTimeout * 1000⟩ := by
  simp only [State.rebuild, unit, defined]
  exact State.setChan_chan (.tx n .tune) _ _

theorem State.rebuild_fault (unit : r.unit = .fault) : ((s.rebuild n r).ctx n).cause = some .unit := by
  simp only [State.rebuild, unit, State.toFaulted_ctx]

end Table

/-! ## The first report on an UNKNOWN context (R86, R153) -/

/-- The context rebuilt, where its row switch is in no FAULT and its line was not lost. -/
def State.rebuilt (n : TxId) (r : StateReport) (s : State) : State :=
  ((s.noteState n r).rebuild n r).updCtx n fun c => { c with lostUnknown := false }

section Unknown
variable {n : TxId} {r : StateReport} {s : State} (remote : r.keyLocal = false) (source : (s.ctx n).source ≠ .localKey)
  (unknown : (s.ctx n).state = .unknown) (held : (s.ctx n).lostUnknown = false) (row : s.actFaulted (.row n) = false)
include remote source unknown held row

theorem State.digestBody_rebuilds : s.digestBody n r = s.rebuilt n r := by
  have kept : s.keyReturns n r = false := by simp [State.keyReturns, source]
  have same : (s.noteState n r).keySeen n r = s.noteState n r := by
    simp [State.keySeen, remote, State.noteState_ctx, Ctx.noted, source]
  have still : ((s.noteState n r).ctx n).state = .unknown := by rw [State.noteState_ctx]; exact unknown
  have known : ((s.noteState n r).ctx n).lostUnknown = false := by rw [State.noteState_ctx]; exact held
  have sound : ((s.noteState n r).rebuild n r).actFaulted (.row n) = false := by
    rw [← row, State.actFaulted, State.entry, ((s.noteState n r).rebuild_keeps n r).2.2.1]
    rfl
  have checked : ((s.noteState n r).rebuild n r).rowCheck n = (s.noteState n r).rebuild n r := by
    rw [State.rowCheck, sound, if_neg Bool.false_ne_true]
  simp [State.digestBody, kept, same, still, State.rebuildUnknown, known, checked, State.rebuilt]

end Unknown

/-! ## What keeps the source in force and the stored setting -/

/-- The source in force and the stored setting of TXn. -/
def State.keysOf (n : TxId) (s : State) : Source × Stored := ((s.ctx n).source, (s.ctx n).stored)

theorem State.keysOf_of_setting {n : TxId} {s t : State} (h : (t.ctx n).setting = (s.ctx n).setting) :
    t.keysOf n = s.keysOf n := by
  obtain ⟨source, stored, -⟩ := Ctx.of_setting h
  rw [State.keysOf, source, stored]
  rfl

theorem State.keysOf_of_beside {n : TxId} {s t : State} (h : (t.ctx n).beside = (s.ctx n).beside) : t.keysOf n = s.keysOf n :=
  State.keysOf_of_setting (Ctx.setting_of_beside h)

theorem State.keysOf_of_ctx {n : TxId} {s t : State} (h : t.ctx = s.ctx) : t.keysOf n = s.keysOf n := by
  simp only [State.keysOf, h]

section Keys
variable (n : TxId) (s : State)

theorem State.updCtx_keys {f : Ctx → Ctx} (keeps : ∀ c, (f c).source = c.source ∧ (f c).stored = c.stored) :
    (s.updCtx n f).keysOf n = s.keysOf n := by
  rw [State.keysOf, State.updCtx_ctx, (keeps _).1, (keeps _).2]
  rfl

theorem State.toState_keys (st : CtxState) : (s.toState n st).keysOf n = s.keysOf n :=
  State.keysOf_of_beside (by rw [State.toState_ctx, Ctx.moved_beside])

theorem State.leaveTripped_keys : (s.leaveTripped n).keysOf n = s.keysOf n := by
  rcases s.leaveTripped_cases n with same | moved
  · rw [same]
  · rw [moved, State.toState_keys]

theorem State.txFault_keys (f : FaultCause) (u : Option Nat) : (s.txFault n f u).keysOf n = s.keysOf n :=
  State.keysOf_of_beside (State.txFault_beside ..)

theorem State.askOrder_keys (who : Asker) (o : Order) : (s.askOrder n who o).keysOf n = s.keysOf n :=
  State.keysOf_of_setting (State.askOrder_setting ..)

theorem State.rfOffUnlessOff_keys (who : Asker) : (s.rfOffUnlessOff n who).keysOf n = s.keysOf n := by
  unfold State.rfOffUnlessOff
  split
  exacts [rfl, State.askOrder_keys ..]

theorem State.stopWork_keys : (s.stopWork n).keysOf n = s.keysOf n :=
  State.keysOf_of_beside (by rw [State.stopWork_ctx]; rfl)

theorem State.faultActions_keys (f : FaultCause) : (s.faultActions n f).keysOf n = s.keysOf n := by
  rw [State.faultActions, State.txFault_keys, State.stopWork_keys, State.rfOffUnlessOff_keys]

theorem State.toFaulted_keys (f : FaultCause) : (s.toFaulted n f).keysOf n = s.keysOf n :=
  (State.updCtx_keys n _ (by intro; exact ⟨rfl, rfl⟩)).trans (State.toState_keys ..)

theorem State.rebuild_keys (r : StateReport) : (s.rebuild n r).keysOf n = s.keysOf n := by
  obtain ⟨-, source, stored, -⟩ := Ctx.of_besideRebuild (s.rebuild_keeps n r).1
  rw [State.keysOf, source, stored]
  rfl

theorem State.rowCheck_keys : (s.rowCheck n).keysOf n = s.keysOf n := by
  unfold State.rowCheck
  split
  · split
    exacts [State.toFaulted_keys .., State.faultActions_keys ..]
  · rfl

theorem State.groundStanding_txs : (s.groundStanding n).txs = s.txs ∧ (s.groundStanding n).csq = s.csq := by
  have asked (a : AntId) (t : State) : (t.askMove .amx (.sel a) .ground).txs = t.txs ∧
      (t.askMove .amx (.sel a) .ground).csq = t.csq := by
    unfold State.askMove
    split
    · exact ⟨rfl, rfl⟩
    · split <;> exact ⟨rfl, rfl⟩
  exact ⟨State.each_view State.txs _ (fun a t => (asked a t).1) s, State.each_view State.csq _ (fun a t => (asked a t).2) s⟩

theorem State.lockOut_keys : (s.lockOut n).keysOf n = s.keysOf n := by
  unfold State.lockOut
  dsimp only
  split
  · rw [State.toFaulted_keys]
    exact (State.updCtx_keys n _ (by intro; exact ⟨rfl, rfl⟩)).trans (State.rfOffUnlessOff_keys ..)
  · rw [State.txFault_keys, State.rfOffUnlessOff_keys]

theorem State.adoptOwn_txs (a : AntId) : (s.adoptOwn n a).txs = s.txs ∧ (s.adoptOwn n a).csq = s.csq := by
  unfold State.adoptOwn
  split
  · split <;> exact ⟨rfl, rfl⟩
  · split <;> exact ⟨rfl, rfl⟩

theorem State.adopt_keys : (s.adopt n).keysOf n = s.keysOf n := by
  have adopts : (s.adopt n).keysOf n = (((s.stopWork n).toState n .onAir).updCtx n fun c =>
      { c with tap := c.shownTap, drive := c.shownDrive, adopted := true }).keysOf n := rfl
  rw [adopts]
  exact (State.updCtx_keys n _ (by intro; exact ⟨rfl, rfl⟩)).trans ((State.toState_keys ..).trans (State.stopWork_keys n s))

/-- The antennas that an adoption derives as owned (R182, R184). -/
def State.adoptPath : State :=
  match s.owned n with
  | some a => s.adoptOwn n a
  | none => if s.rowAt n .matrix then s.each (s.standing n) fun a t => t.adoptOwn n a else s

theorem State.adoptPath_txs : (s.adoptPath n).txs = s.txs ∧ (s.adoptPath n).csq = s.csq := by
  unfold State.adoptPath
  split
  · exact State.adoptOwn_txs ..
  · split
    · exact ⟨State.each_view State.txs _ (f := fun a t => t.adoptOwn n a) (fun a t => (t.adoptOwn_txs n a).1) s,
        State.each_view State.csq _ (f := fun a t => t.adoptOwn n a) (fun a t => (t.adoptOwn_txs n a).2) s⟩
    · exact ⟨rfl, rfl⟩

theorem State.adoptPath_still : (s.adoptPath n).still = s.still := by
  unfold State.adoptPath
  split
  · exact State.adoptOwn_still ..
  · split
    exacts [State.each_still _ _ (fun a t => t.adoptOwn_still n a) s, rfl]

/-- What the checks of R184 come to: a lock-out with its selectors grounded or not, an RF-OFF, an adoption, or nothing. -/
theorem State.lineAdoption_cases :
    (∃ nt, s.lineAdoption n = ((s.lockOut n).groundStanding n).post nt) ∨ (∃ nt, s.lineAdoption n = (s.lockOut n).post nt) ∨
      s.lineAdoption n = s.askOrder n .check .rfOff ∨ s.lineAdoption n = (s.adoptPath n).adopt n ∨ s.lineAdoption n = s := by
  unfold State.lineAdoption
  dsimp only
  split
  · exact .inl ⟨_, rfl⟩
  · split
    · exact .inr (.inl ⟨_, rfl⟩)
    · split
      · exact .inr (.inr (.inl rfl))
      · split
        exacts [.inr (.inr (.inr (.inl rfl))), .inr (.inr (.inr (.inr rfl)))]

theorem State.lineAdoption_keys : (s.lineAdoption n).keysOf n = s.keysOf n := by
  have posted (nt : Notice) (t : State) : (t.post nt).keysOf n = t.keysOf n := rfl
  rcases s.lineAdoption_cases n with ⟨nt, locks⟩ | ⟨nt, locks⟩ | asks | adopts | same
  · rw [locks, posted]
    exact (State.keysOf_of_ctx (State.ctx_of_txs ((s.lockOut n).groundStanding_txs n).1)).trans (s.lockOut_keys n)
  · rw [locks, posted]; exact s.lockOut_keys n
  · rw [asks]; exact State.askOrder_keys ..
  · rw [adopts, State.adopt_keys]; exact State.keysOf_of_ctx (State.ctx_of_txs (s.adoptPath_txs n).1)
  · rw [same]

theorem State.rebuildUnknown_cases (r : StateReport) :
    let t := ((s.rebuild n r).rowCheck n).updCtx n fun c => { c with lostUnknown := false }
    s.rebuildUnknown n r = t ∨ s.rebuildUnknown n r = t.lineAdoption n ∨ s.rebuildUnknown n r = t.setTurn n .answered := by
  unfold State.rebuildUnknown
  dsimp only
  split_ifs
  exacts [.inl rfl, .inr (.inl rfl), .inr (.inr rfl)]

theorem State.rebuildUnknown_keys (r : StateReport) : (s.rebuildUnknown n r).keysOf n = s.keysOf n := by
  have rebuilt : (((s.rebuild n r).rowCheck n).updCtx n fun c => { c with lostUnknown := false }).keysOf n = s.keysOf n :=
    (State.updCtx_keys n _ (by intro; exact ⟨rfl, rfl⟩)).trans ((State.rowCheck_keys ..).trans (State.rebuild_keys ..))
  rcases s.rebuildUnknown_cases n r with same | adopts | turns
  · rw [same]; exact rebuilt
  · rw [adopts, State.lineAdoption_keys]; exact rebuilt
  · rw [turns]; exact rebuilt

theorem State.post_keys (nt : Notice) : (s.post nt).keysOf n = s.keysOf n := rfl

theorem State.endTrip_keys : (s.endTrip n).keysOf n = s.keysOf n :=
  State.keysOf_of_beside (by rw [State.endTrip_ctx, Ctx.recycleEnded_beside])

theorem State.endPhase_keys (ph : Phase) : (s.endPhase n ph).keysOf n = s.keysOf n := State.keysOf_of_ctx (State.endPhase_ctx ..)

theorem State.countRecycle_keys : (s.countRecycle n).1.keysOf n = s.keysOf n := by
  unfold State.countRecycle
  split
  next d _ =>
    have fresh : (s.freshWindow n d).keysOf n = s.keysOf n := by
      unfold State.freshWindow
      dsimp only
      split <;> split <;> rfl
    dsimp only
    split
    · rw [State.txFault_keys, fresh]
    · exact fresh
  · rfl

theorem State.tripDecision_keys : (s.tripDecision n .overload none).keysOf n = s.keysOf n := by
  have at' : (s.tripAtTxs n).keysOf n = s.keysOf n := by
    unfold State.tripAtTxs
    split
    · rfl
    · have stopped (t : State) : (t.stopRamp n).keysOf n = t.keysOf n := State.keysOf_of_beside (by rw [State.stopRamp_ctx]; rfl)
      refine (State.keysOf_of_ctx (State.ctx_of_txs (State.tripServesPlan_txs ..).1)).trans ?_
      rw [State.toState_keys, stopped, State.askOrder_keys]
  have masked (f : Prot → Prot) (t : State) : (t.updProt n f).keysOf n = t.keysOf n := rfl
  unfold State.tripDecision
  dsimp only
  rw [State.noteTrip_unlisted rfl, State.post_keys]
  split
  · rw [State.countRecycle_keys, masked, at']
  · rw [State.endTrip_keys, masked, at']

theorem State.localTrip_overload : ∃ nt, s.localTrip n .overload = s.post nt := by
  unfold State.localTrip
  dsimp only
  rw [State.noteTrip_unlisted rfl]
  exact ⟨_, rfl⟩

theorem State.unitTrip_keys : (s.unitTrip n .overload).keysOf n = s.keysOf n := by
  unfold State.unitTrip
  split
  · obtain ⟨nt, posts⟩ := s.localTrip_overload n
    rw [posts, State.post_keys]
  · split
    exacts [State.tripDecision_keys .., rfl]

theorem State.localShown_keys (r : StateReport) : (s.localShown n r).keysOf n = s.keysOf n := by
  unfold State.localShown
  split
  · split
    exacts [rfl, State.faultActions_keys ..]
  · split
    · rfl
    · exact (State.unitTrip_keys ..).trans (State.updCtx_keys n s (by intro; exact ⟨rfl, rfl⟩))
  · exact State.updCtx_keys n s (by intro; exact ⟨rfl, rfl⟩)
  · rfl

theorem State.localState_keys (r : StateReport) : (s.localState n r).keysOf n = s.keysOf n := by
  unfold State.localState
  dsimp only
  split
  exacts [State.localShown_keys .., (State.rebuild_keys ..).trans (State.localShown_keys ..)]

theorem State.explained_keys (r : StateReport) : (s.explained n r).keysOf n = s.keysOf n := by
  have warmed (t : State) : (t.warmed n).keysOf n = t.keysOf n := (State.endPhase_keys ..).trans (State.toState_keys ..)
  have written {f : Ctx → Ctx} (keeps : ∀ c, (f c).source = c.source ∧ (f c).stored = c.stored) (t : State) :
      (t.updCtx n f).keysOf n = t.keysOf n := State.updCtx_keys n t keeps
  unfold State.explained
  extract_lets t c
  have noted : t.keysOf n = s.keysOf n := written (by intro; exact ⟨rfl, rfl⟩) s
  rw [← noted]
  split
  · split
    · rfl
    · split
      exacts [warmed t, rfl]
    · split
      exacts [warmed t, State.txFault_keys ..]
  · split
    exacts [(written (by intro; exact ⟨rfl, rfl⟩) _).trans (State.toState_keys ..), rfl]
  · split
    exacts [(written (by intro; exact ⟨rfl, rfl⟩) _).trans (State.toState_keys ..), rfl]
  · rfl

theorem State.judgeState_keys (r : StateReport) : (s.judgeState n r).keysOf n = s.keysOf n := by
  have checked : (s.checkState n r).keysOf n = s.keysOf n := by
    unfold State.checkState
    split
    exacts [State.explained_keys .., State.faultActions_keys ..]
  unfold State.judgeState
  dsimp only
  split
  · rfl
  · split
    · exact State.faultActions_keys ..
    · split
      · split
        exacts [rfl, State.unitTrip_keys ..]
      · exact checked
    · exact checked

theorem State.rfFoundOff_keys (r : StateReport) (sent : Bool) : (s.rfFoundOff n r sent).keysOf n = s.keysOf n := by
  have stopped : (s.stopChan (.tx n .rfOff)).keysOf n = s.keysOf n := rfl
  have written {f : Ctx → Ctx} (keeps : ∀ c, (f c).source = c.source ∧ (f c).stored = c.stored) (t : State) :
      (t.updCtx n f).keysOf n = t.keysOf n := State.updCtx_keys n t keeps
  unfold State.rfFoundOff State.confirmed
  split
  · split
    · dsimp only
      rw [State.endPhase_keys]
      split
      · split
        · exact (written (by intro; exact ⟨rfl, rfl⟩) _).trans ((State.toState_keys ..).trans stopped)
        · exact (State.toState_keys ..).trans stopped
      · exact (State.leaveTripped_keys ..).trans stopped
    · exact State.leaveTripped_keys ..
  · rfl

theorem State.emergencyOff_keys (r : StateReport) : (s.emergencyOff n r).keysOf n = s.keysOf n := by
  unfold State.emergencyOff
  split
  exacts [State.askOrder_keys .., rfl]

theorem State.digestEnd_keys (r : StateReport) (confirms sent : Bool) : (s.digestEnd n r confirms sent).keysOf n = s.keysOf n := by
  have found : (if confirms then s.rfFoundOff n r sent else s).keysOf n = s.keysOf n := by
    split
    exacts [State.rfFoundOff_keys .., rfl]
  exact (State.keysOf_of_ctx (State.turnAnswered_ctx ..)).trans ((State.emergencyOff_keys ..).trans found)

theorem State.noteState_keys (r : StateReport) : (s.noteState n r).keysOf n = s.keysOf n :=
  State.updCtx_keys n s (by intro; exact ⟨rfl, rfl⟩)

/-- The release of the key puts the stored setting in force (R97). -/
theorem State.localReleased_ctx : (s.localReleased n).ctx n = { s.ctx n with source := sourceOf (s.ctx n).stored } := by
  let t := ((s.updCtx n fun c => { c with source := sourceOf c.stored }).post (.localReleased n)).localReturn n
  have returned : t.txsAndBus = (s.updCtx n fun c => { c with source := sourceOf c.stored }).txsAndBus := by
    rw [State.localReturn_txsAndBus]; rfl
  have ctx : t.ctx n = { s.ctx n with source := sourceOf (s.ctx n).stored } := by
    rw [State.ctx_of_txs (State.txs_of_txsAndBus returned), State.updCtx_ctx]
  have releases : s.localReleased n = if (s.ctx n).stored = .auto then t.endBookings n else t := rfl
  rw [releases, ← ctx]
  split
  · rw [State.ctx_of_txs (State.txs_of_txsAndBus (t.endBookings_txsAndBus n))]
  · rfl

end Keys

/-! ## A transmitter under LOCAL (R97)

Its source is LOCAL, no plan is in flight and nothing but an RF-OFF waits on its line; no step of a STATE report ends that. -/

/-- TXn is served and under LOCAL. -/
structure State.UnderLocal (n : TxId) (s : State) : Prop where
  served : served n s
  source : (s.ctx n).source = .localKey
  plan : s.plan n = none
  line : ∀ d, (s.ctx n).deferred = some d → d.order = .rfOff

/-- Under LOCAL a live transmitter is taken down without a plan (R97, R122). -/
theorem State.takeDown_plan_local {n : TxId} {s : State} (source : (s.ctx n).source = .localKey) (plan : s.plan n = none)
    (cause : Cause) : (s.takeDown n cause).plan n = none := by
  have lost : (s.liveLost n cause).txsAndBus = s.txsAndBus := by unfold State.liveLost; split <;> simp
  have settles : s.Settles ((s.liveLost n cause).stopRecycle n) := ((State.Settles.refl s).same lost).stopRecycle
  have unwindable : ((s.liveLost n cause).stopRecycle n).windable n = false := by
    have kept : (((s.liveLost n cause).stopRecycle n).ctx n).source = .localKey :=
      (congrArg Ctx.source (settles.beside n) :).trans source
    simp [State.windable, kept]
  have csq : ((s.liveLost n cause).stopRecycle n).csq = s.csq := (State.stopRecycle_csq n _).trans (State.liveLost_csq n cause s)
  simp only [State.takeDown, unwindable, Bool.and_false, Bool.false_eq_true, if_false]
  rw [State.plan_of_csq csq, plan]

/-- The answer to an order that was displaced begins no plan under LOCAL. -/
theorem State.answer_plan_local {n : TxId} {s : State} (source : (s.ctx n).source = .localKey) (plan : s.plan n = none)
    (who : Asker) (o : Order) (why : Refused) : (s.answer n who o why).plan n = none := by
  unfold State.answer
  split
  · simp only [State.planRefused, plan]
  · split
    · let t := (s.updProt n fun p => { p with waiting := false }).endTrip n
      have ended : t.csq = s.csq := by
        have left (u : State) : (u.leaveTripped n).csq = u.csq := by
          rcases u.leaveTripped_cases n with same | moved
          · rw [same]
          · rw [moved]; rfl
        exact (left _).trans rfl
      have plan' : t.plan n = none := by rw [State.plan_of_csq ended, plan]
      have source' : (t.ctx n).source = .localKey := by
        rw [State.endTrip_ctx]
        exact (congrArg Ctx.source (Ctx.recycleEnded_beside (s.ctx n)) :).trans source
      have named : s.recycleFails n .rejected = t.nameCause n .rejected := rfl
      rw [named, State.nameCause, plan']
      exact State.takeDown_plan_local source' plan' .rejected
    · exact plan
  · exact plan

section UnderLocal
variable {n : TxId} {s : State} (h : s.UnderLocal n)
include h

/-- What keeps the description, the line, the source and the deferred order, and leaves no plan. -/
theorem State.UnderLocal.of {t : State} (hds : t.hds = s.hds) (up : (t.ctx n).lineUp = (s.ctx n).lineUp)
    (source : (t.ctx n).source = (s.ctx n).source) (plan : t.plan n = none)
    (line : (t.ctx n).deferred = (s.ctx n).deferred) : t.UnderLocal n where
  served := ⟨(congrFun (State.txDefined_congr hds) n).trans h.served.1, up.trans h.served.2⟩
  source := source.trans h.source
  plan := plan
  line := by rw [line]; exact h.line

theorem State.UnderLocal.of_beside {t : State} (hds : t.hds = s.hds) (beside : (t.ctx n).beside = (s.ctx n).beside)
    (plan : t.plan n = none) : t.UnderLocal n := by
  obtain ⟨-, deferred, -, -, -, source, -, -, -, up⟩ := Ctx.of_beside beside
  exact h.of hds up source plan deferred

theorem State.UnderLocal.updCtx {f : Ctx → Ctx}
    (keeps : ∀ c, (f c).lineUp = c.lineUp ∧ (f c).source = c.source ∧ (f c).deferred = c.deferred) :
    (s.updCtx n f).UnderLocal n := by
  obtain ⟨up, source, deferred⟩ := keeps (s.ctx n)
  refine h.of rfl ?_ ?_ h.plan ?_ <;> rw [State.updCtx_ctx]
  exacts [up, source, deferred]

theorem State.UnderLocal.toState (st : CtxState) : (s.toState n st).UnderLocal n :=
  h.of_beside rfl (by rw [State.toState_ctx, Ctx.moved_beside]) h.plan

theorem State.UnderLocal.leaveTripped : (s.leaveTripped n).UnderLocal n := by
  rcases s.leaveTripped_cases n with same | moved
  · rw [same]; exact h
  · rw [moved]; exact h.toState _

theorem State.UnderLocal.txFault (f : FaultCause) (u : Option Nat) : (s.txFault n f u).UnderLocal n :=
  h.of_beside (State.hds_of_still (State.txFault_still ..)) (State.txFault_beside ..) (State.txFault_plan ..)

theorem State.UnderLocal.toFaulted (f : FaultCause) : (s.toFaulted n f).UnderLocal n :=
  h.of_beside rfl (by rw [State.toFaulted_ctx]; exact (Ctx.moved_beside .faulted (s.ctx n) :)) h.plan

theorem State.UnderLocal.stopWork : (s.stopWork n).UnderLocal n :=
  h.of_beside rfl (by rw [State.stopWork_ctx]; rfl) h.plan

theorem State.UnderLocal.same {t : State} (hds : t.hds = s.hds) (txs : t.txs = s.txs) (csq : t.csq = s.csq) : t.UnderLocal n := by
  have ctx := congrFun (State.ctx_of_txs txs) n
  exact h.of hds (by rw [ctx]) (by rw [ctx]) (by rw [State.plan_of_csq csq]; exact h.plan) (by rw [ctx])

/-- An RF-OFF that may go out over LOCAL leaves nothing else waiting (R82, R97). -/
theorem State.UnderLocal.askRfOff {who : Asker} (heard : who.overLocal = true) : (s.askOrder n who .rfOff).UnderLocal n := by
  have slot : (s.slot n who .rfOff).ctx n = { s.ctx n with deferred := some ⟨.rfOff, who⟩ } := State.updCtx_ctx n _ s
  have waiting : (s.slot n who .rfOff).UnderLocal n := by
    refine ⟨⟨h.served.1, ?_⟩, ?_, h.plan, fun d held => ?_⟩
    · rw [slot]; exact h.served.2
    · rw [slot]; exact h.source
    · rw [slot] at held; cases held; rfl
  rcases State.askOrder_rfOff_cases h.served (.inr heard) with ⟨same, -⟩ | (waits | ⟨d, replaces⟩) | ⟨-, leaves⟩
  · rw [same]; exact h
  · rw [waits]; exact waiting
  · rw [replaces]
    exact waiting.of_beside (State.hds_of_still (State.answer_still ..)) ((State.answer_settles ..).beside n)
      (State.answer_plan_local waiting.source waiting.plan ..)
  · obtain ⟨hds, -, csq, -⟩ := s.sendNow_blocks n who .rfOff
    have ctx := s.sendNow_ctx n who .rfOff
    rw [leaves]
    refine h.of hds ?_ ?_ (by rw [State.plan_of_csq csq]; exact h.plan) ?_ <;> rw [ctx] <;> rfl

theorem State.UnderLocal.rfOffUnlessOff {who : Asker} (heard : who.overLocal = true) : (s.rfOffUnlessOff n who).UnderLocal n := by
  unfold State.rfOffUnlessOff
  split
  exacts [h, h.askRfOff heard]

theorem State.UnderLocal.faultActions (f : FaultCause) : (s.faultActions n f).UnderLocal n :=
  (h.rfOffUnlessOff rfl).stopWork.txFault f none

theorem State.UnderLocal.rowCheck : (s.rowCheck n).UnderLocal n := by
  unfold State.rowCheck
  split
  · split
    exacts [h.toFaulted _, h.faultActions _]
  · exact h

theorem State.UnderLocal.rebuild (r : StateReport) : (s.rebuild n r).UnderLocal n := by
  obtain ⟨-, source, -, -, -, up, deferred⟩ := Ctx.of_besideRebuild (s.rebuild_keeps n r).1
  exact h.of (State.hds_of_still (State.rebuild_still ..)) up source
    (by rw [State.plan_of_csq (s.rebuild_csq n r)]; exact h.plan) deferred

theorem State.UnderLocal.lockOut : (s.lockOut n).UnderLocal n := by
  have asked := h.rfOffUnlessOff (who := .check) rfl
  unfold State.lockOut
  dsimp only
  split
  · exact (asked.updCtx (by intro; exact ⟨rfl, rfl, rfl⟩)).toFaulted _
  · exact asked.txFault _ _

theorem State.UnderLocal.lineAdoption : (s.lineAdoption n).UnderLocal n := by
  have posted {t : State} (ht : t.UnderLocal n) (nt : Notice) : (t.post nt).UnderLocal n := ht.same rfl rfl rfl
  rcases s.lineAdoption_cases n with ⟨nt, locks⟩ | ⟨nt, locks⟩ | asks | adopts | same
  · rw [locks]
    obtain ⟨txs, csq⟩ := (s.lockOut n).groundStanding_txs n
    exact posted (h.lockOut.same (State.hds_of_still (State.groundStanding_still ..)) txs csq) nt
  · rw [locks]; exact posted h.lockOut nt
  · rw [asks]; exact h.askRfOff rfl
  · rw [adopts]
    obtain ⟨txs, csq⟩ := s.adoptPath_txs n
    have path : (s.adoptPath n).UnderLocal n := h.same (State.hds_of_still (s.adoptPath_still n)) txs csq
    have shown : (((((s.adoptPath n).stopWork n).toState n .onAir).updCtx n fun c =>
        { c with tap := c.shownTap, drive := c.shownDrive, adopted := true })).UnderLocal n :=
      (path.stopWork.toState .onAir).updCtx (by intro; exact ⟨rfl, rfl, rfl⟩)
    exact shown.same rfl rfl rfl
  · rw [same]; exact h

theorem State.UnderLocal.rebuildUnknown (r : StateReport) : (s.rebuildUnknown n r).UnderLocal n := by
  have rebuilt : (((s.rebuild n r).rowCheck n).updCtx n fun c => { c with lostUnknown := false }).UnderLocal n :=
    (h.rebuild r).rowCheck.updCtx (by intro; exact ⟨rfl, rfl, rfl⟩)
  rcases s.rebuildUnknown_cases n r with same | adopts | turns
  · rw [same]; exact rebuilt
  · rw [adopts]; exact rebuilt.lineAdoption
  · rw [turns]; exact ⟨rebuilt.served, rebuilt.source, rebuilt.plan, rebuilt.line⟩

theorem State.UnderLocal.localState (r : StateReport) : (s.localState n r).UnderLocal n := by
  have shown : (s.localShown n r).UnderLocal n := by
    unfold State.localShown
    split
    · split
      exacts [h, h.faultActions _]
    · split
      · exact h
      · have trip : (s.updCtx n fun c => { c with localTrip := true }).UnderLocal n :=
          h.updCtx (by intro; exact ⟨rfl, rfl, rfl⟩)
        obtain ⟨nt, posts⟩ := State.localTrip_overload n (s.updCtx n fun c => { c with localTrip := true })
        rw [State.unitTrip, if_pos trip.source, posts]
        exact trip.same rfl rfl rfl
    · exact h.updCtx (by intro; exact ⟨rfl, rfl, rfl⟩)
    · exact h
  unfold State.localState
  dsimp only
  split
  exacts [shown, shown.rebuild r]

theorem State.UnderLocal.rfFoundOff (r : StateReport) (sent : Bool) : (s.rfFoundOff n r sent).UnderLocal n := by
  have stopped : (s.stopChan (.tx n .rfOff)).UnderLocal n := h.same rfl rfl rfl
  have ended {t : State} (ht : t.UnderLocal n) (ph : Phase) : (t.endPhase n ph).UnderLocal n := by
    have ctx := congrFun (t.endPhase_ctx n ph) n
    exact ht.of (State.hds_of_still (State.endPhase_still ..)) (by rw [ctx]) (by rw [ctx])
      (State.endPhase_plan_none ht.plan n ph) (by rw [ctx])
  unfold State.rfFoundOff State.confirmed
  split
  · split
    · refine ended ?_ _
      split
      · split
        exacts [(stopped.toState _).updCtx (by intro; exact ⟨rfl, rfl, rfl⟩), stopped.toState _]
      · exact stopped.leaveTripped
    · exact h.leaveTripped
  · exact h

theorem State.UnderLocal.digestEnd (r : StateReport) (confirms sent : Bool) : (s.digestEnd n r confirms sent).UnderLocal n := by
  have found : (if confirms then s.rfFoundOff n r sent else s).UnderLocal n := by
    split
    exacts [h.rfFoundOff r sent, h]
  unfold State.digestEnd
  generalize (if confirms then s.rfFoundOff n r sent else s) = t at *
  have off : (t.emergencyOff n r).UnderLocal n := by
    unfold State.emergencyOff
    split
    exacts [found.askRfOff rfl, found]
  obtain ⟨-, csq, hds, -⟩ := (t.emergencyOff n r).turnAnswered_blocks n
  have ctx := congrFun ((t.emergencyOff n r).turnAnswered_ctx n) n
  exact off.of hds (by rw [ctx]) (by rw [ctx]) (by rw [State.plan_of_csq csq]; exact off.plan) (by rw [ctx])

end UnderLocal

theorem State.localOwn_csq (n : TxId) (s : State) : (s.localOwn n).csq = s.csq := by
  unfold State.localOwn
  split
  · split
    · split <;> rfl
    · split
      · split <;> rfl
      · rfl
  · rfl

/-- A context whose source becomes LOCAL, with no order but an RF-OFF left waiting (R97). -/
def Ctx.keyTaken (c : Ctx) : Ctx :=
  { c with
    source := .localKey
    deferred := c.deferred.filter fun x : Deferred => decide (x.order = .rfOff) }

/-- The key found at LOCAL leaves no plan and no order but an RF-OFF (R97). -/
theorem State.localTaken_underLocal {n : TxId} {s : State} (served : Claims.served n s) : (s.localTaken n).UnderLocal n ∧
    ((s.localTaken n).ctx n).stored = (s.ctx n).stored := by
  have there : (s.updCtx n Ctx.keyTaken).ctx n = (s.ctx n).keyTaken := State.updCtx_ctx n _ s
  obtain ⟨u, answers, settles⟩ : ∃ u, s.localTaken n =
      ((((u.stopWork n).post (.localTaken n)).stopRecycle n).causeReaches n .localKey).localOwn n ∧
      (s.updCtx n Ctx.keyTaken).Settles u := by
    refine ⟨_, rfl, ?_⟩
    split
    · split
      exacts [.refl _, State.answer_settles ..]
    · exact .refl _
  let v := ((u.stopWork n).post (.localTaken n)).stopRecycle n
  have before : (v.ctx n).beside = ({ (s.ctx n).keyTaken with ramp := none } : Ctx).beside := by
    have posted : (u.stopWork n).Settles ((u.stopWork n).post (.localTaken n)) := (State.Settles.refl _).same rfl
    refine ((posted.stopRecycle (n := n)).beside n).trans ?_
    rw [State.stopWork_ctx, ← there]
    exact congrArg (fun c : Ctx => { c with ramp := none }) (settles.beside n)
  have source : (v.ctx n).source = .localKey := (congrArg Ctx.source before :)
  have gone : (v.causeReaches n .localKey).plan n = none :=
    State.causeReaches_plan_gone rfl (by simp [State.windable, source])
  have after : ((s.localTaken n).ctx n).beside = ({ (s.ctx n).keyTaken with ramp := none } : Ctx).beside := by
    rw [answers, State.ctx_of_txs (State.txs_of_txsAndBus (State.localOwn_txsAndBus ..))]
    exact ((v.causeReaches_settles n .localKey).beside n).trans before
  obtain ⟨-, deferred, -, -, -, taken, stored, -, -, up⟩ := Ctx.of_beside after
  refine ⟨⟨⟨?_, up.trans served.2⟩, taken, ?_, fun d held => ?_⟩, stored⟩
  · exact (congrFun (State.txDefined_congr (State.hds_of_still (s.localTaken_still n))) n).trans served.1
  · rw [answers, State.plan_of_csq (State.localOwn_csq ..)]; exact gone
  · rw [deferred] at held
    obtain ⟨-, off⟩ := Option.filter_eq_some_iff.mp held
    exact of_decide_eq_true off

/-! ## The key a STATE report shows (R97) -/

/-- The source in force once the key has been seen. -/
def Ctx.sourceSeen (c : Ctx) (r : StateReport) : Source :=
  if r.keyLocal then .localKey else if c.source = .localKey then sourceOf c.stored else c.source

theorem State.localReleased_keys (n : TxId) (s : State) :
    (s.localReleased n).keysOf n = (sourceOf (s.ctx n).stored, (s.ctx n).stored) := by
  rw [State.keysOf, State.localReleased_ctx]

section Key
variable {n : TxId} {s : State} (served : Claims.served n s) (r : StateReport)
include served

theorem State.noteState_served : Claims.served n (s.noteState n r) :=
  ⟨served.1, by rw [State.noteState_ctx]; exact served.2⟩

theorem State.keySeen_keys : (s.keySeen n r).keysOf n = ((s.ctx n).sourceSeen r, (s.ctx n).stored) := by
  unfold State.keySeen Ctx.sourceSeen
  split
  · split
    next same => rw [State.keysOf, same]
    · obtain ⟨taken, stored⟩ := State.localTaken_underLocal served
      rw [State.keysOf, taken.source, stored]
  · split
    exacts [State.localReleased_keys .., rfl]

/-- What follows the sight of the key changes neither the source in force nor the stored setting. -/
theorem State.digest_keys : (s.digest n r).keysOf n = ((s.ctx n).sourceSeen r, (s.ctx n).stored) := by
  have seen := State.keySeen_keys (State.noteState_served served r) r
  rw [State.noteState_ctx] at seen
  have body : (s.digestBody n r).keysOf n = ((s.noteState n r).keySeen n r).keysOf n := by
    unfold State.digestBody
    split
    next returns =>
      simp only [State.keyReturns, Bool.and_eq_true, decide_eq_true_eq, Bool.not_eq_true'] at returns
      obtain ⟨⟨source, remote⟩, -⟩ := returns
      have shown : ((s.noteState n r).localShown n r).keysOf n = (s.noteState n r).keysOf n := State.localShown_keys ..
      have stored := congrArg Prod.snd shown
      rw [State.localReleased_keys, seen, Ctx.sourceSeen, remote]
      simp only [State.keysOf, State.noteState_ctx, Ctx.noted] at stored ⊢
      simp [stored, source]
    · split
      · exact State.rebuildUnknown_keys ..
      · split
        exacts [State.localState_keys .., State.judgeState_keys ..]
  rw [State.digest_eq, State.digestEnd_keys, body, seen]
  rfl

/-- A report that shows the key turned to LOCAL leaves the transmitter under LOCAL. -/
theorem State.digest_underLocal (turned : r.keyLocal = true) (source : (s.ctx n).source ≠ .localKey) :
    (s.digest n r).UnderLocal n := by
  have stays : s.keyReturns n r = false := by simp [State.keyReturns, source]
  have other : ((s.noteState n r).ctx n).source ≠ .localKey := by rw [State.noteState_ctx]; exact source
  have seen : (s.noteState n r).keySeen n r = (s.noteState n r).localTaken n := by simp [State.keySeen, turned, other]
  have taken := (State.localTaken_underLocal (State.noteState_served served r)).1
  rw [State.digest_eq]
  refine State.UnderLocal.digestEnd ?_ ..
  rw [State.digestBody, stays, if_neg Bool.false_ne_true, seen, if_pos taken.source]
  split
  exacts [taken.rebuildUnknown r, taken.localState r]

end Key

/-! ## The report that returns the key (R94, R97; log 62) -/

/-- The state, the fault cause and the tuned frequency of a context. -/
def Ctx.marks (c : Ctx) : CtxState × Option FaultCause × Option Nat := (c.state, c.cause, c.tuned)

theorem State.localShown_marks {n : TxId} {s : State} (source : (s.ctx n).source = .localKey) {r : StateReport}
    (sound : r.unit ≠ .fault) : ((s.localShown n r).ctx n).marks = (s.ctx n).marks := by
  have written {f : Ctx → Ctx} (keeps : ∀ c, (f c).marks = c.marks) : ((s.updCtx n f).ctx n).marks = (s.ctx n).marks := by
    rw [State.updCtx_ctx, keeps]
  unfold State.localShown
  split
  next fault => exact absurd fault sound
  · split
    · rfl
    · have shown : ((s.updCtx n fun c => { c with localTrip := true }).ctx n).source = .localKey := by
        rw [State.updCtx_ctx]; exact source
      obtain ⟨nt, posts⟩ := State.localTrip_overload n (s.updCtx n fun c => { c with localTrip := true })
      rw [State.unitTrip, if_pos shown, posts]
      exact (written (f := fun c => { c with localTrip := true }) (by intro; rfl) :)
  · exact written (by intro; rfl)
  · rfl

theorem State.faultActions_tuned (n : TxId) (f : FaultCause) (s : State) :
    ((s.faultActions n f).ctx n).tuned = (s.ctx n).tuned := by
  have off : ((s.rfOffUnlessOff n .fault).ctx n).setting = (s.ctx n).setting := by
    unfold State.rfOffUnlessOff
    split
    exacts [rfl, State.askOrder_setting ..]
  have work : (((s.rfOffUnlessOff n .fault).stopWork n).ctx n).tuned = ((s.rfOffUnlessOff n .fault).ctx n).tuned := by
    rw [State.stopWork_ctx]
  have fault : ((s.faultActions n f).ctx n).setting = (((s.rfOffUnlessOff n .fault).stopWork n).ctx n).setting :=
    Ctx.setting_of_beside (State.txFault_beside ..)
  exact (Ctx.of_setting fault).2.2.2.trans (work.trans (Ctx.of_setting off).2.2.2)

theorem State.localShown_fault {n : TxId} {s : State} {r : StateReport} (fault : r.unit = .fault) :
    ((s.localShown n r).ctx n).marks =
      (.faulted, if (s.ctx n).state = .faulted then (s.ctx n).cause else some .unit, (s.ctx n).tuned) := by
  have shown : s.localShown n r = if (s.ctx n).state = .faulted then s else s.faultActions n .unit := by
    simp only [State.localShown, fault]
  rw [shown]
  split
  next faulted => rw [Ctx.marks, faulted]
  · obtain ⟨state, cause⟩ := s.faultActions_faulted n .unit
    rw [Ctx.marks, state, cause, State.faultActions_tuned]

/-- The end of a report that finds no RF-OFF sent leaves the marks of a context that is not TRIPPED. -/
theorem State.digestEnd_marks {n : TxId} {s : State} (served : Claims.served n s) (untripped : (s.ctx n).state ≠ .tripped)
    (r : StateReport) (confirms : Bool) : ((s.digestEnd n r confirms false).ctx n).marks = (s.ctx n).marks := by
  have found : (if confirms then s.rfFoundOff n r false else s) = s := by
    simp [State.rfFoundOff, State.leaveTripped_untripped untripped]
  rw [State.digestEnd, found, State.turnAnswered_ctx, State.emergencyOff]
  split
  · obtain ⟨state, cause⟩ := State.askOrder_rfOff_state (who := .emergency) served (.inr rfl) untripped
    have tuned := (Ctx.of_setting (s.askOrder_setting n n .emergency .rfOff)).2.2.2
    rw [Ctx.marks, state, cause, tuned]
    rfl
  · rfl

section Returns
variable {n : TxId} {s : State} {r : StateReport} (served : Claims.served n s) (remote : r.keyLocal = false)
  (source : (s.ctx n).source = .localKey) (known : (s.ctx n).state ≠ .unknown) (untripped : (s.ctx n).state ≠ .tripped)
  (unsent : (s.chan (.tx n .rfOff)).running = false)
include served remote source known untripped unsent

/-- The report that returns the key leaves the marks that what it shows under LOCAL leaves. -/
theorem State.digest_returns : ((s.digest n r).ctx n).marks = (((s.noteState n r).localShown n r).ctx n).marks := by
  have returns : s.keyReturns n r = true := by simp [State.keyReturns, source, remote, known]
  have body : s.digestBody n r = ((s.noteState n r).localShown n r).localReleased n := if_pos returns
  have released : ((((s.noteState n r).localShown n r).localReleased n).ctx n).marks =
      (((s.noteState n r).localShown n r).ctx n).marks := by rw [State.localReleased_ctx]; rfl
  have lines : (((s.noteState n r).localShown n r).localReleased n).outline.core.lines =
      (s.noteState n r).outline.core.lines := by simp
  have hds : (((s.noteState n r).localShown n r).localReleased n).hds = s.hds :=
    State.hds_of_still (s := s.noteState n r) (by simp)
  have line : Claims.served n (((s.noteState n r).localShown n r).localReleased n) :=
    ⟨(congrFun (State.txDefined_congr hds) n).trans served.1,
      (congrArg (fun v : LineView => v.up n) lines).trans (State.noteState_served served r).2⟩
  have stays : ((((s.noteState n r).localShown n r).localReleased n).ctx n).state ≠ .tripped := by
    have there : ((s.noteState n r).ctx n).source = .localKey := by rw [State.noteState_ctx]; exact source
    have shown : (((s.noteState n r).localShown n r).ctx n).state ≠ .tripped := by
      by_cases fault : r.unit = .fault
      · have faulted := congrArg Prod.fst (State.localShown_fault (n := n) (s := s.noteState n r) fault)
        exact fun tripped => CtxState.noConfusion (faulted.symm.trans tripped)
      · have same := congrArg Prod.fst (State.localShown_marks there fault)
        rw [State.noteState_ctx] at same
        exact fun tripped => untripped (same.symm.trans tripped)
    rw [State.localReleased_ctx]
    exact shown
  rw [State.digest_eq, body, unsent, State.digestEnd_marks line stays, released]

end Returns

end Sys2Proof.Machine

namespace Sys2Proof.Proofs
open Sys2Proof Sys2Proof.Machine Sys2Proof.Claims

theorem rebuiltState_calm {r : StateReport} (other : r.unit ≠ .rfOn) :
    (rebuiltState r).carries = false ∧ rebuiltState r ≠ .tripped := by
  cases unit : r.unit <;> simp only [rebuiltState, unit]
  case rfOn => exact absurd unit other
  case tripped => split <;> exact ⟨rfl, nofun⟩
  all_goals exact ⟨rfl, nofun⟩

section Unknown
variable {s : State} {n : TxId} {r : StateReport} {d : TxDef} (defined : s.txDef n = some d) (remote : r.keyLocal = false)
  (source : (s.ctx n).source ≠ .localKey) (unknown : (s.ctx n).state = .unknown) (held : (s.ctx n).lostUnknown = false)
  (row : s.actFaulted (.row n) = false) (hall : s.txs.hall ≠ .emergency)
include defined remote source unknown held row hall

/-- The first report on an UNKNOWN context leaves it rebuilt (R86). -/
theorem digest_rebuilt :
    let t := s.digest n r
    t.ctx = (s.rebuilt n r).ctx ∧
      (∀ c, c ≠ .rfOff → c ≠ .recycle → t.chan (.tx n c) = ((s.noteState n r).rebuild n r).chan (.tx n c)) ∧
      t.hds = s.hds ∧ t.clk = s.clk ∧ t.snaps = s.snaps ∧ t.pins = s.pins := by
  have known : (s.noteState n r).txDefined n = true := by
    show s.txDefined n = true
    rw [State.txDefined, defined]; rfl
  have state : ((s.rebuilt n r).ctx n).state = rebuiltState r := by
    rw [State.rebuilt, State.updCtx_ctx]
    exact State.rebuild_state known r
  have clear : (s.rebuilt n r).txs.hall ≠ .emergency := by
    have same : (s.rebuilt n r).txs.hall = s.txs.hall := ((s.noteState n r).rebuild_keeps n r).2.2.2
    rw [same]; exact hall
  have ends := State.digestEnd_rests (s := s.rebuilt n r) (r := r) (n := n) (confirms := (s.ctx n).confirms r)
    (fun confirms => by rw [state]; exact rebuiltState_calm ((Ctx.confirms_iff ..).mp confirms).1) (.inl clear)
    (s.chan (.tx n .rfOff)).running
  obtain ⟨ctx, chan, hds, clk, snaps, pins⟩ := ends
  have still := (s.noteState n r).rebuild_still n r
  have second : ((s.noteState n r).rebuild n r).clk = s.clk :=
    State.clk_of_core (s := s.noteState n r) (State.rebuild_core ..)
  rw [State.digest_eq, State.digestBody_rebuilds remote source unknown held row]
  exact ⟨ctx, chan, hds.trans (State.hds_of_still still), clk.trans second,
    snaps.trans (State.snaps_of_still still), pins.trans (State.pins_of_still still)⟩

end Unknown

/-- What the table of R86 gives, for a report and the context and channels a rebuild has left. -/
theorem rebuilt_table {s : State} {n : TxId} {d : TxDef} (r : StateReport) (defined : s.txDef n = some d)
    (unknown : (s.ctx n).state = .unknown) :
    let t := s.rebuilt n r
    let u := (s.noteState n r).rebuild n r
    let c := t.ctx n
    match r.unit with
      | .dark => c.state = .dark ∧ c.tuned = none
      | .warming => c.state = .warming ∧
          (d.warmUp ≠ 0 → u.chan (.tx n .warmUp) = ⟨true, d.warmUp * 1000, d.warmUp * 1000⟩) ∧
          (d.warmUp = 0 → (u.chan (.tx n .warmUp)).running = false)
      | .standby => c.state = .standby ∧ c.tuned = none
      | .tuning => c.state = .tuning ∧ u.chan (.tx n .tune) = ⟨true, d.tuneTimeout * 1000, d.tuneTimeout * 1000⟩
      | .tuned => c.state = .ready ∧ c.tuned = r.freq
      | .rfOn => c.state = .onAir ∧ c.tap = some r.tap ∧ c.drive = r.drive ∧ (∀ f, r.freq = some f → c.tuned = some f)
      | .tripped => c.state = (if r.freq.isSome then .ready else .standby)
      | .fault => c.state = .faulted ∧ c.cause = some .unit := by
  have known : (s.noteState n r).txDef n = some d := defined
  have is : (s.noteState n r).txDefined n = true := by rw [State.txDefined, known]; rfl
  have state := State.rebuild_state is r
  have awake : ((s.noteState n r).ctx n).state ≠ .warming := by
    rw [State.noteState_ctx]
    show (s.ctx n).state ≠ .warming
    rw [unknown]; decide
  simp only [State.rebuilt, State.updCtx_ctx]
  cases unit : r.unit <;> rw [rebuiltState, unit] at state <;> dsimp only at state ⊢
  · exact ⟨state, State.rebuild_tuned_gone (.inl unit)⟩
  · rw [State.rebuild_warmUp unit known awake]
    exact ⟨state, fun timed => if_neg timed, fun untimed => by rw [if_pos untimed]; rfl⟩
  · exact ⟨state, State.rebuild_tuned_gone (.inr unit)⟩
  · exact ⟨state, State.rebuild_tune unit known⟩
  · exact ⟨state, State.rebuild_tuned unit⟩
  · exact ⟨state, State.rebuild_rfOn unit⟩
  · exact state
  · exact ⟨state, State.rebuild_fault unit⟩

/-- The RF condition a report gives (R81). -/
theorem rfAfter_rfBy (c : Ctx) (r : StateReport) : rfAfter c r (c.rfBy r) := by
  refine ⟨fun on => if_pos on, fun off flag alone => ?_, fun off other => ?_⟩
  · exact (if_neg off).trans (if_pos ((Ctx.confirms_iff ..).mpr ⟨off, flag, alone⟩))
  · refine (if_neg off).trans (if_neg fun confirms => ?_)
    obtain ⟨-, flag, alone⟩ := (Ctx.confirms_iff ..).mp confirms
    exact other.elim (fun clear => Bool.false_ne_true (clear.symm.trans flag)) alone

/-- The first STATE report on an UNKNOWN context, as the line brings it (R81, R86). -/
theorem exec_state_rebuilds {s : State} {n : TxId} {r : StateReport} {d : TxDef} (defined : s.txDef n = some d)
    (up : (s.ctx n).lineUp = true) (unknown : (s.ctx n).state = .unknown) (held : (s.ctx n).lostUnknown = false)
    (remote : r.keyLocal = false) (source : (s.ctx n).source ≠ .localKey) (hall : s.txs.hall ≠ .emergency)
    (row : s.actFaulted (.row n) = false) :
    let u := s.retrigger (.tx n .silence)
    let t := u.digest n r
    exec (.state n r) s = .next t ∧ t.ctx = (u.rebuilt n r).ctx ∧
      (∀ c, c ≠ .rfOff → c ≠ .recycle → t.chan (.tx n c) = ((u.noteState n r).rebuild n r).chan (.tx n c)) ∧
      u.txDef n = some d ∧ t.hds = s.hds ∧ t.clk = s.clk ∧ t.snaps = s.snaps ∧ t.pins = s.pins := by
  obtain ⟨hds, clk, -, -, txs, -, swb, -, snaps, pins⟩ := s.retrigger_blocks (.tx n .silence)
  have line : served n s := ⟨by rw [State.txDefined, defined]; rfl, up⟩
  have ctx := congrFun (s.retrigger_ctx (.tx n .silence)) n
  have there : (s.retrigger (.tx n .silence)).txDef n = some d := by rw [State.txDef, hds]; exact defined
  have sound : (s.retrigger (.tx n .silence)).actFaulted (.row n) = false := by
    rw [← row, State.actFaulted, State.entry, swb]; rfl
  have left := digest_rebuilt there remote (by rw [ctx]; exact source) (by rw [ctx]; exact unknown) (by rw [ctx]; exact held)
    sound (by rw [txs]; exact hall)
  obtain ⟨ctxs, chans, hds', clk', snaps', pins'⟩ := left
  exact ⟨exec_state_digested line r, ctxs, chans, there, hds'.trans hds, clk'.trans clk, snaps'.trans snaps, pins'.trans pins⟩

/-- What a rebuild leaves of the context that has noted the report. -/
theorem rebuilt_keeps (s : State) (n : TxId) (r : StateReport) :
    ((s.rebuilt n r).ctx n).rf = (s.ctx n).rfBy r ∧ ((s.rebuilt n r).ctx n).source = (s.ctx n).source ∧
      ((s.rebuilt n r).ctx n).trim = (s.ctx n).trim ∧ ∀ m, m ≠ n → (s.rebuilt n r).ctx m = s.ctx m := by
  obtain ⟨besides, others, -⟩ := (s.noteState n r).rebuild_keeps n r
  obtain ⟨rf, source, -, trim, -⟩ := Ctx.of_besideRebuild besides
  rw [State.noteState_ctx] at rf source trim
  rw [State.rebuilt, State.updCtx_ctx]
  refine ⟨rf, source, trim, fun m other => ?_⟩
  rw [State.updCtx_ctx_ne n m other, others m other, State.noteState, State.updCtx_ctx_ne n m other]

/-- Settles O30: the rebuild by `exec_state_rebuilds` and the table of `rebuilt_table`, the key by `State.digest_keys` and
`State.digest_underLocal`, and the report that returns it by `State.digest_returns`. -/
theorem unknownContextIsRebuiltAndKeyObeyed : Obligations.UnknownContextIsRebuiltAndKeyObeyed := by
  refine ⟨fun s n r d defined up unknown held remote source hall row => ?_, fun s n r line => ?_,
    fun s n r line remote source known untripped unsent => ?_⟩
  · obtain ⟨go, ctx, chans, there, rest⟩ := exec_state_rebuilds defined up unknown held remote source hall row
    have last := (s.retrigger (.tx n .silence)).digest_last (n := n) r
    have was := s.retrigger_ctx (.tx n .silence)
    generalize s.retrigger (.tx n .silence) = u at *
    obtain ⟨rf, source', trim, others⟩ := rebuilt_keeps u n r
    have table := rebuilt_table r there (by rw [was]; exact unknown)
    rw [was] at rf source' trim others
    refine ⟨_, go, last, ?_, ?_, ?_, ?_, fun m other => ?_, rest⟩
    · rw [ctx, rf]; exact rfAfter_rfBy ..
    · rw [ctx]; exact source'
    · rw [ctx]; exact trim
    · rw [ctx, chans .warmUp (by decide) (by decide), chans .tune (by decide) (by decide)]
      exact table
    · rw [ctx]; exact others m other
  · have keys := State.digest_keys (retrigger_served line) r
    have under := State.digest_underLocal (retrigger_served line) r
    rw [State.retrigger_ctx] at keys under
    have source := (congrArg Prod.fst keys :)
    refine ⟨_, exec_state_digested line r, (congrArg Prod.snd keys :), fun turned => ?_, fun turned other => ?_,
      fun remote held => ?_, fun remote other => ?_⟩
    · exact source.trans (if_pos turned)
    · exact ⟨(under turned other).plan, (under turned other).line⟩
    · refine source.trans ?_
      rw [Ctx.sourceSeen, remote, if_neg Bool.false_ne_true, if_pos held]
      rfl
    · refine source.trans ?_
      rw [Ctx.sourceSeen, remote, if_neg Bool.false_ne_true, if_neg other]
  · have was := congrFun (s.retrigger_ctx (.tx n .silence)) n
    have chan := s.retrigger_chan (d := .rfOff) (by decide) n
    refine ⟨_, exec_state_digested line r, State.digest_last .., ?_⟩
    have served := retrigger_served line
    rw [← was] at source known untripped ⊢
    rw [← chan] at unsent
    generalize s.retrigger (.tx n .silence) = u at *
    have marks := State.digest_returns served remote source known untripped unsent
    have there : ((u.noteState n r).ctx n).source = .localKey := by rw [State.noteState_ctx]; exact source
    by_cases fault : r.unit = .fault
    · rw [State.localShown_fault fault, State.noteState_ctx] at marks
      simp only [Ctx.marks, Prod.mk.injEq] at marks
      obtain ⟨state, cause, tuned⟩ := marks
      exact ⟨tuned, fun sound => absurd fault sound, fun _ => ⟨state, cause⟩⟩
    · rw [State.localShown_marks there fault, State.noteState_ctx] at marks
      simp only [Ctx.marks, Prod.mk.injEq] at marks
      obtain ⟨state, cause, tuned⟩ := marks
      exact ⟨tuned, fun _ => ⟨state, cause⟩, fun shows => absurd shows fault⟩

end Sys2Proof.Proofs
end
